-- ==== Sys2Proof/Word.lean ====
section
/-! DEFINITION. The byte of the frame links, and the saturating count of the part's status counters. -/

namespace Sys2Proof

/-- One byte of a packet (R179). -/
abbrev Byte := BitVec 8

/-- The bytes of one band of picture: 38,400 of them in a committed frame (R22, R23). -/
abbrev Band := List Byte

/-- The bands of one frame, band 0 first; a frame is 135 bands (chapter 2). -/
abbrev Bands := List Band

end Sys2Proof
end

