-- ==== Sys2Proof/Machine/Codec.lean ====
section
/-! DEFINITION. How numbers, flags, optional fields and lists are laid out in payloads (R180), and how argument bytes
are read back. -/

namespace Sys2Proof

/-- A number in `n` bytes, most significant byte first (R180). -/
def be : Nat → Nat → List Byte
  | 0, _ => []
  | n + 1, x => BitVec.ofNat 8 (x / 256 ^ n) :: be n x

/-- A number that can lie below 0, in two's complement in `n` bytes (R180). -/
def beInt (n : Nat) (x : Int) : List Byte := be n (x % (256 ^ n : Nat)).toNat

/-- A yes-or-no value or flag: one byte, 0 for no or clear and 1 for yes or set (R180). -/
def flag (b : Bool) : List Byte := [if b then 1 else 0]

/-- A field that can be absent: a presence byte, then the value when there is one (R180). -/
def optional {α : Type} (enc : α → List Byte) : Option α → List Byte
  | none => [0]
  | some a => 1 :: enc a

/-- A list of varying length: its number of members in `n` bytes, then the members in order (R180). -/
def counted {α : Type} (n : Nat) (enc : α → List Byte) (l : List α) : List Byte :=
  be n l.length ++ l.flatMap enc

/-- The number that bytes spell, most significant first. -/
def ofBE : List Byte → Nat
  | [] => 0
  | b :: bs => b.toNat * 256 ^ bs.length + ofBE bs

/-- Reads an unsigned argument of `n` bytes; none when the payload is too short. -/
def readNat (n : Nat) (bs : List Byte) : Option (Nat × List Byte) :=
  if bs.length < n then none else some (ofBE (bs.take n), bs.drop n)

/-- The two's complement reading of an `n`-byte number. -/
def signed (n x : Nat) : Int := if x < 256 ^ n / 2 then x else (x : Int) - (256 ^ n : Nat)

/-- Reads a signed argument of `n` bytes; none when the payload is too short. -/
def readInt (n : Nat) (bs : List Byte) : Option (Int × List Byte) :=
  (readNat n bs).map fun (x, r) => (signed n x, r)

/-- Reads `k` members of a list one after another with the reader `rd`. -/
def readMany {α : Type} (rd : List Byte → Option (α × List Byte)) : Nat → List Byte → Option (List α × List Byte)
  | 0, bs => some ([], bs)
  | k + 1, bs =>
    match rd bs with
    | none => none
    | some (a, bs) =>
      match readMany rd k bs with
      | none => none
      | some (l, bs) => some (a :: l, bs)

end Sys2Proof
end

