-- ==== Sys2Proof/Machine/Bank.lean ====
section
/-! DEFINITION. Fixed banks of like records: two links, four channels or mark groups, eight streams or lines. -/

namespace Sys2Proof

/-- Two records, numbered 0 and 1 (the frame links). -/
structure Two (α : Type) where
  z0 : α
  z1 : α
deriving DecidableEq, Repr

/-- Four records, numbered 0 to 3 (playout channels, mark groups). -/
structure Four (α : Type) where
  z0 : α
  z1 : α
  z2 : α
  z3 : α
deriving DecidableEq, Repr

/-- Eight records, numbered 0 to 7 (streams, signal lines, mark latches). -/
structure Eight (α : Type) where
  z0 : α
  z1 : α
  z2 : α
  z3 : α
  z4 : α
  z5 : α
  z6 : α
  z7 : α
deriving DecidableEq, Repr

variable {α : Type}

def Two.fill (a : α) : Two α := ⟨a, a⟩

def Two.get (t : Two α) (i : Fin 2) : α :=
  match i with
  | 0 => t.z0
  | 1 => t.z1

def Two.set (t : Two α) (i : Fin 2) (a : α) : Two α :=
  match i with
  | 0 => { t with z0 := a }
  | 1 => { t with z1 := a }

def Four.fill (a : α) : Four α := ⟨a, a, a, a⟩

def Four.get (t : Four α) (i : Fin 4) : α :=
  match i with
  | 0 => t.z0
  | 1 => t.z1
  | 2 => t.z2
  | 3 => t.z3

def Four.set (t : Four α) (i : Fin 4) (a : α) : Four α :=
  match i with
  | 0 => { t with z0 := a }
  | 1 => { t with z1 := a }
  | 2 => { t with z2 := a }
  | 3 => { t with z3 := a }

def Eight.fill (a : α) : Eight α := ⟨a, a, a, a, a, a, a, a⟩

def Eight.get (t : Eight α) (i : Fin 8) : α :=
  match i with
  | 0 => t.z0
  | 1 => t.z1
  | 2 => t.z2
  | 3 => t.z3
  | 4 => t.z4
  | 5 => t.z5
  | 6 => t.z6
  | 7 => t.z7

def Eight.set (t : Eight α) (i : Fin 8) (a : α) : Eight α :=
  match i with
  | 0 => { t with z0 := a }
  | 1 => { t with z1 := a }
  | 2 => { t with z2 := a }
  | 3 => { t with z3 := a }
  | 4 => { t with z4 := a }
  | 5 => { t with z5 := a }
  | 6 => { t with z6 := a }
  | 7 => { t with z7 := a }

/-- The record numbers of a bank, lowest first. -/
def allLinks : List (Fin 2) := [0, 1]

/-- The record numbers of a bank, lowest first. -/
def allFour : List (Fin 4) := [0, 1, 2, 3]

/-- The record numbers of a bank, lowest first. -/
def allEight : List (Fin 8) := [0, 1, 2, 3, 4, 5, 6, 7]

/-- The record number an argument byte names, or none when it is out of range. -/
def recordNo (k n : Nat) : Option (Fin k) := if h : n < k then some ⟨n, h⟩ else none

end Sys2Proof
end

