-- ==== Sys2Proof/Syntax.lean ====
section
/-! DEFINITION. The commands of the part: one constructor of `Instr` per row of spec/opcode_table.json, with the
operands the owning rules give it. Events carry what the outside decides (a pin level, a read's result, the bytes of a
packet). Requests carry where they came from (`Origin`) and their arguments as the bytes of the payload spell them
(R180): an argument out of range is still a command, which its owning rule refuses. -/

namespace Sys2Proof

/-- Where a request came from: the link it came in on, the endpoint that sent it and the tag its reply returns
(R184). -/
structure Origin where
  link : Fin 2
  source : Nat
  tag : Nat
deriving DecidableEq, Repr

/-- The time of a mark request: NOW, or an explicit grain time (section 4.3). -/
inductive MarkTime where
  | now
  | explicit (t : Nat)
deriving DecidableEq, Repr

/-- The position of a free binding (R95). -/
inductive FreePosition where
  | absolute (t : Nat)
  | liveMinus (n : Nat)
deriving DecidableEq, Repr

/-- The two binding forms of BIND CHANNEL (R95). -/
inductive BindForm where
  | clip (id angle offset : Nat)
  | free (stream : Nat) (position : FreePosition)
deriving DecidableEq, Repr

/-- The two position forms of SEEK (R102). -/
inductive SeekForm where
  | relative (offset : Nat)
  | absolute (t : Nat)
deriving DecidableEq, Repr

/-- An output route or notice route as a request gives it: a link number and an endpoint. -/
structure RouteArg where
  link : Nat
  endpoint : Nat
deriving DecidableEq, Repr

/-- The nine configuration fields of a channel as CONFIGURE CHANNEL gives them (R94). -/
structure ChannelArgs where
  programRamp : Nat
  shuttleRamp : Nat
  shuttleHoldOff : Nat
  endAction : Nat
  passPeriod : Nat
  breakLimit : Nat
  mixMode : Nat
  fill : Nat
  route : Option RouteArg
deriving DecidableEq, Repr

/-- What a cue does, with its parameters as the record carries them (R128). A staged record can hold values outside
the ranges of R128 until a commit finds them, among them a type byte that is none of the nine (`other`). -/
inductive CueBody where
  | speed (target : Int) (immediate : Nat)
  | hold (frames : Nat)
  | angle (number : Nat)
  | jump (target : Nat)
  | ret
  | line (mask action length : Nat)
  | note (tag : Nat)
  | stop
  | listEnd
  | other (typeCode : Nat)
deriving DecidableEq, Repr

/-- A cue record (R128). -/
structure CueRecord where
  mark : Nat
  passRepeat : Nat
  passFirst : Nat
  body : CueBody
deriving DecidableEq, Repr

/-- The commands: events of the part first, then the requests in the order of section 12.4, then the resets. -/
inductive Instr where
  /-- A rising edge on REF_IN, taken at local count `c` (R1, R4, R5, R7, R8). -/
  | referencePulse (c : Nat)
  /-- The local count reaches L + T without a pulse in LOCKING, LOCKED or FLYWHEEL (R6, R8). -/
  | flywheelExpiry
  /-- The local count reaches L in LOST (R7). -/
  | lostFreeRun
  /-- A line's pulse timer reaches 0 (R175). -/
  | pulseEnd (line : Fin 8)
  /-- A channel's shuttle hold-off counter reaches 0 (R100). -/
  | shuttleLapse (ch : Fin 4)
  /-- A channel's hold counter reaches 0 (R110). -/
  | holdCountExpiry (ch : Fin 4)
  /-- A channel's break timer reaches 0 (R154). -/
  | breakTimerExpiry (ch : Fin 4)
  /-- The read service completes a fetch; `error` when the DRAM reported an uncorrectable error (R51). -/
  | fetchCompletion (error : Bool)
  /-- The read service serves a protect lookup (R49, R80). -/
  | protectLookupServed
  /-- The service of a withdrawn protect lookup ends (R89). -/
  | withdrawnLookupEnd
  /-- The commit in flight completes (R134). -/
  | cueCommitComplete
  /-- A link's receiver aligns (R178). -/
  | linkUp (link : Fin 2)
  /-- A link loses alignment (R178). -/
  | linkDown (link : Fin 2)
  /-- A whole packet, these bytes, has arrived on a link (R181, R183). -/
  | packetReceive (link : Fin 2) (bytes : List Byte)
  /-- A link's idle transmitter chooses its next packet (R186). -/
  | transmitChoose (link : Fin 2)
  /-- The last byte of the packet in transmission on a link has been sent (R186). -/
  | transmitEnd (link : Fin 2)
  /-- The outside makes a line's pin high or low (R172). -/
  | linePinChange (line : Fin 8) (high : Bool)
  | setHouseTime (o : Origin) (rate count : Nat)
  | enableStream (o : Origin) (stream sourceId link multiple : Nat)
  | disableStream (o : Origin) (stream : Nat)
  /-- Eight pairs of an allotment and a recall floor, in stream order (R33). -/
  | configureStore (o : Origin) (pairs : Eight (Nat × Nat))
  | setMarkGroup (o : Origin) (group : Nat) (angles : List Nat) (defaultLength preRoll postRoll recycle : Nat)
  | readMarkGroup (o : Origin) (group : Nat)
  | markIn (o : Origin) (group : Nat) (time : MarkTime)
  | markOut (o : Origin) (group : Nat) (time : MarkTime)
  | markSpot (o : Origin) (group : Nat) (time : MarkTime)
  | setClipLabel (o : Origin) (id : Nat) (label : List Byte)
  | dropClip (o : Origin) (id : Nat)
  | listClips (o : Origin) (start count : Nat)
  | readClip (o : Origin) (id : Nat)
  | takeLatch (o : Origin) (line action group : Nat)
  | protectClip (o : Origin) (id : Nat)
  | releaseClip (o : Origin) (id : Nat)
  | configureChannel (o : Origin) (ch : Nat) (args : ChannelArgs)
  | bindChannel (o : Origin) (ch : Nat) (form : BindForm)
  | play (o : Origin) (ch : Nat) (target : Int) (immediate : Nat)
  | stop (o : Origin) (ch : Nat) (immediate : Nat)
  | shuttle (o : Origin) (ch : Nat) (speed : Int)
  | jog (o : Origin) (ch : Nat) (n : Int)
  | seek (o : Origin) (ch : Nat) (form : SeekForm)
  | angle (o : Origin) (ch number : Nat)
  | halt (o : Origin) (ch : Nat)
  | resetChannel (o : Origin) (ch : Nat)
  | readChannel (o : Origin) (ch : Nat)
  | clearWarnings (o : Origin) (ch : Nat)
  | stageCues (o : Origin) (start : Nat) (records : List CueRecord)
  | clearStaging (o : Origin)
  | readStaging (o : Origin)
  | commitCuePage (o : Origin) (page : Nat)
  | readCuePage (o : Origin) (page : Nat)
  | bindCues (o : Origin) (ch first count : Nat)
  | requestBreak (o : Origin) (ch : Nat)
  | continue_ (o : Origin) (ch : Nat)
  | configureLine (o : Origin) (line function channel polarity action group : Nat)
  | setLines (o : Origin) (mask : Nat)
  | clearLines (o : Origin) (mask : Nat)
  | pulseLines (o : Origin) (mask length : Nat)
  | readLines (o : Origin)
  | setNoticeEnables (o : Origin) (classes : Nat)
  | setNoticeRoute (o : Origin) (route : Option RouteArg)
  | readStatus (o : Origin)
  | clearStatus (o : Origin)
  | resetPart (o : Origin)
  /-- A request whose kind byte is `kind` (R185). -/
  | unknownRequest (o : Origin) (kind : Nat)
  /-- The reply to RESET PART has been sent, and the reset acts (R191). -/
  | resetPartActs
  /-- RESET_N rises, with the straps at these levels (R182, R192). -/
  | lineReset (strapA strapB : Bool)
  /-- The supplies come within range, with the straps at these levels (R182, R192). -/
  | powerOnReset (strapA strapB : Bool)
  /-- RESET_N falls low (R192). -/
  | resetNHeldLow
deriving DecidableEq, Repr

end Sys2Proof
end

