-- ==== Sys2Proof/Decode.lean ====
section
/-! DEFINITION. Request payloads read into commands and commands written as request payloads (R180, R184, R185). The table
of commands gives no row any bits, so no word spells a command. -/

namespace Sys2Proof

/-- The command a table word spells: the table gives no row bits, so none does. -/
def decodeTableWord (_nbits _w : Nat) : Option Instr := none

/-- What a request's kind and argument bytes spell: a command, or arguments that are too short or malformed, which the
endpoint refuses BAD_ARGUMENT before the owning rule (R185, log entry 10). -/
inductive Decoded where
  | request (i : Instr)
  | malformed
deriving DecidableEq, Repr

/-! ## Reading compound arguments (R180) -/

/-- A field that can be absent; a presence byte other than 0 or 1 is malformed. -/
def readOptional {α : Type} (rd : List Byte → Option (α × List Byte)) (bs : List Byte) :
    Option (Option α × List Byte) :=
  match readNat 1 bs with
  | some (0, r) => some (none, r)
  | some (1, r) => (rd r).map fun x => (some x.1, x.2)
  | _ => none

/-- A list preceded by its number of members in one byte. -/
def readCounted {α : Type} (rd : List Byte → Option (α × List Byte)) (bs : List Byte) :
    Option (List α × List Byte) :=
  match readNat 1 bs with
  | some (n, r) => readMany rd n r
  | none => none

/-- A link and an endpoint. -/
def readRoute (bs : List Byte) : Option (RouteArg × List Byte) := do
  let (l, bs) ← readNat 1 bs
  let (e, bs) ← readNat 1 bs
  some (⟨l, e⟩, bs)

/-- The time of a mark: form 1 is NOW, form 2 an explicit time (log entry 13). -/
def readTime (bs : List Byte) : Option (MarkTime × List Byte) :=
  match readNat 1 bs with
  | some (1, r) => some (.now, r)
  | some (2, r) => (readNat 7 r).map fun x => (.explicit x.1, x.2)
  | _ => none

/-- The position of a free binding: form 1 ABSOLUTE, form 2 LIVE_MINUS (R95). -/
def readFreePosition (bs : List Byte) : Option (FreePosition × List Byte) :=
  match readNat 1 bs with
  | some (1, r) => (readNat 7 r).map fun x => (.absolute x.1, x.2)
  | some (2, r) => (readNat 3 r).map fun x => (.liveMinus x.1, x.2)
  | _ => none

/-- A binding: form 1 a clip, form 2 free (R95). -/
def readBinding (bs : List Byte) : Option (BindForm × List Byte) :=
  match readNat 1 bs with
  | some (1, bs) => do
    let (id, bs) ← readNat 2 bs
    let (a, bs) ← readNat 1 bs
    let (off, bs) ← readNat 4 bs
    some (.clip id a off, bs)
  | some (2, bs) => do
    let (st, bs) ← readNat 1 bs
    let (p, bs) ← readFreePosition bs
    some (.free st p, bs)
  | _ => none

/-- A sought position: form 1 RELATIVE, form 2 ABSOLUTE (R102). -/
def readSeek (bs : List Byte) : Option (SeekForm × List Byte) :=
  match readNat 1 bs with
  | some (1, r) => (readNat 4 r).map fun x => (.relative x.1, x.2)
  | some (2, r) => (readNat 7 r).map fun x => (.absolute x.1, x.2)
  | _ => none

/-- The nine configuration fields (R94). -/
def readChannelArgs (bs : List Byte) : Option (ChannelArgs × List Byte) := do
  let (pr, bs) ← readNat 2 bs
  let (sr, bs) ← readNat 2 bs
  let (ho, bs) ← readNat 1 bs
  let (ea, bs) ← readNat 1 bs
  let (pp, bs) ← readNat 1 bs
  let (bl, bs) ← readNat 2 bs
  let (mm, bs) ← readNat 1 bs
  let (fl, bs) ← readNat 1 bs
  let (rt, bs) ← readOptional readRoute bs
  some (⟨pr, sr, ho, ea, pp, bl, mm, fl, rt⟩, bs)

/-- One pair of CONFIGURE STORE: an allotment and a recall floor (R33). -/
def readPair (bs : List Byte) : Option ((Nat × Nat) × List Byte) := do
  let (d, bs) ← readNat 3 bs
  let (f, bs) ← readNat 2 bs
  some ((d, f), bs)

/-- The parameters of a cue of a type byte; a type outside the nine carries none (log entry 23). -/
def readBody (code : Nat) (bs : List Byte) : Option (CueBody × List Byte) :=
  match code with
  | 1 => do
    let (v, bs) ← readInt 2 bs
    let (f, bs) ← readNat 1 bs
    some (.speed v f, bs)
  | 2 => (readNat 2 bs).map fun x => (.hold x.1, x.2)
  | 3 => (readNat 1 bs).map fun x => (.angle x.1, x.2)
  | 4 => (readNat 4 bs).map fun x => (.jump x.1, x.2)
  | 5 => some (.ret, bs)
  | 6 => do
    let (m, bs) ← readNat 1 bs
    let (a, bs) ← readNat 1 bs
    let (n, bs) ← readNat 1 bs
    some (.line m a n, bs)
  | 7 => (readNat 1 bs).map fun x => (.note x.1, x.2)
  | 8 => some (.stop, bs)
  | 9 => some (.listEnd, bs)
  | c => some (.other c, bs)

/-- A cue record (R128). -/
def readCue (bs : List Byte) : Option (CueRecord × List Byte) := do
  let (m, bs) ← readNat 4 bs
  let (r, bs) ← readNat 1 bs
  let (f, bs) ← readNat 1 bs
  let (t, bs) ← readNat 1 bs
  let (b, bs) ← readBody t bs
  some (⟨m, r, f, b⟩, bs)

/-- One byte of a label. -/
def readByte : List Byte → Option (Byte × List Byte)
  | [] => none
  | b :: bs => some (b, bs)

/-! ## Argument lists -/

def args1 (n : Nat) (f : Nat → Instr) (bs : List Byte) : Option Instr := do
  let (a, _) ← readNat n bs
  some (f a)

def args2 (n m : Nat) (f : Nat → Nat → Instr) (bs : List Byte) : Option Instr := do
  let (a, bs) ← readNat n bs
  let (b, _) ← readNat m bs
  some (f a b)

def args3 (n m k : Nat) (f : Nat → Nat → Nat → Instr) (bs : List Byte) : Option Instr := do
  let (a, bs) ← readNat n bs
  let (b, bs) ← readNat m bs
  let (c, _) ← readNat k bs
  some (f a b c)

/-- A one-byte record number followed by an argument that `rd` reads. -/
def argsWith {α : Type} (rd : List Byte → Option (α × List Byte)) (f : Nat → α → Instr) (bs : List Byte) :
    Option Instr := do
  let (a, bs) ← readNat 1 bs
  let (x, _) ← rd bs
  some (f a x)

def argsPlay (o : Origin) (bs : List Byte) : Option Instr := do
  let (ch, bs) ← readNat 1 bs
  let (v, bs) ← readInt 2 bs
  let (f, _) ← readNat 1 bs
  some (.play o ch v f)

def argsEnable (o : Origin) (bs : List Byte) : Option Instr := do
  let (st, bs) ← readNat 1 bs
  let (src, bs) ← readNat 1 bs
  let (l, bs) ← readNat 1 bs
  let (k, _) ← readNat 1 bs
  some (.enableStream o st src l k)

def argsStore (o : Origin) (bs : List Byte) : Option Instr := do
  let (p0, bs) ← readPair bs
  let (p1, bs) ← readPair bs
  let (p2, bs) ← readPair bs
  let (p3, bs) ← readPair bs
  let (p4, bs) ← readPair bs
  let (p5, bs) ← readPair bs
  let (p6, bs) ← readPair bs
  let (p7, _) ← readPair bs
  some (.configureStore o ⟨p0, p1, p2, p3, p4, p5, p6, p7⟩)

def argsGroup (o : Origin) (bs : List Byte) : Option Instr := do
  let (g, bs) ← readNat 1 bs
  let (l, bs) ← readCounted (readNat 1) bs
  let (d, bs) ← readNat 2 bs
  let (pre, bs) ← readNat 2 bs
  let (post, bs) ← readNat 2 bs
  let (r, _) ← readNat 1 bs
  some (.setMarkGroup o g l d pre post r)

def argsLabel (o : Origin) (bs : List Byte) : Option Instr := do
  let (id, bs) ← readNat 2 bs
  let (l, _) ← readCounted readByte bs
  some (.setClipLabel o id l)

def argsLine (o : Origin) (bs : List Byte) : Option Instr := do
  let (n, bs) ← readNat 1 bs
  let (f, bs) ← readNat 1 bs
  let (ch, bs) ← readNat 1 bs
  let (p, bs) ← readNat 1 bs
  let (a, bs) ← readNat 1 bs
  let (g, _) ← readNat 1 bs
  some (.configureLine o n f ch p a g)

def argsRoute (o : Origin) (bs : List Byte) : Option Instr := do
  let (r, _) ← readOptional readRoute bs
  some (.setNoticeRoute o r)

/-- The command of a request kind, its position in the request table of section 12.4, with its arguments; none when the
arguments are too short or malformed. Bytes beyond the arguments are ignored (R180). -/
def decodeArgs (o : Origin) (kind : Nat) (bs : List Byte) : Option Instr :=
  match kind with
  | 1 => args2 1 5 (.setHouseTime o) bs
  | 2 => argsEnable o bs
  | 3 => args1 1 (.disableStream o) bs
  | 4 => argsStore o bs
  | 5 => argsGroup o bs
  | 6 => args1 1 (.readMarkGroup o) bs
  | 7 => argsWith readTime (.markIn o) bs
  | 8 => argsWith readTime (.markOut o) bs
  | 9 => argsWith readTime (.markSpot o) bs
  | 10 => argsLabel o bs
  | 11 => args1 2 (.dropClip o) bs
  | 12 => args2 2 1 (.listClips o) bs
  | 13 => args1 2 (.readClip o) bs
  | 14 => args3 1 1 1 (.takeLatch o) bs
  | 15 => args1 2 (.protectClip o) bs
  | 16 => args1 2 (.releaseClip o) bs
  | 17 => argsWith readChannelArgs (.configureChannel o) bs
  | 18 => argsWith readBinding (.bindChannel o) bs
  | 19 => argsPlay o bs
  | 20 => args2 1 1 (.stop o) bs
  | 21 => argsWith (readInt 2) (.shuttle o) bs
  | 22 => argsWith (readInt 1) (.jog o) bs
  | 23 => argsWith readSeek (.seek o) bs
  | 24 => args2 1 1 (.angle o) bs
  | 25 => args1 1 (.halt o) bs
  | 26 => args1 1 (.resetChannel o) bs
  | 27 => args1 1 (.readChannel o) bs
  | 28 => args1 1 (.clearWarnings o) bs
  | 29 => argsWith (readCounted readCue) (.stageCues o) bs
  | 30 => some (.clearStaging o)
  | 31 => some (.readStaging o)
  | 32 => args1 1 (.commitCuePage o) bs
  | 33 => args1 1 (.readCuePage o) bs
  | 34 => args3 1 1 1 (.bindCues o) bs
  | 35 => args1 1 (.requestBreak o) bs
  | 36 => args1 1 (.continue_ o) bs
  | 37 => argsLine o bs
  | 38 => args1 1 (.setLines o) bs
  | 39 => args1 1 (.clearLines o) bs
  | 40 => args2 1 1 (.pulseLines o) bs
  | 41 => some (.readLines o)
  | 42 => args1 1 (.setNoticeEnables o) bs
  | 43 => argsRoute o bs
  | 44 => some (.readStatus o)
  | 45 => some (.clearStatus o)
  | 46 => some (.resetPart o)
  | k => some (.unknownRequest o k)

/-- A request record read (R184, R185). -/
def decodeRequest (o : Origin) (kind : Nat) (bs : List Byte) : Decoded :=
  match decodeArgs o kind bs with
  | some i => .request i
  | none => .malformed

/-! ## Writing requests (R180, R184) -/

def routeArgBytes (r : RouteArg) : List Byte := be 1 r.link ++ be 1 r.endpoint

def timeBytes : MarkTime → List Byte
  | .now => be 1 1
  | .explicit t => be 1 2 ++ be 7 t

def freePositionBytes : FreePosition → List Byte
  | .absolute t => be 1 1 ++ be 7 t
  | .liveMinus n => be 1 2 ++ be 3 n

def bindingBytes : BindForm → List Byte
  | .clip id a off => be 1 1 ++ be 2 id ++ be 1 a ++ be 4 off
  | .free st p => be 1 2 ++ be 1 st ++ freePositionBytes p

def seekBytes : SeekForm → List Byte
  | .relative off => be 1 1 ++ be 4 off
  | .absolute t => be 1 2 ++ be 7 t

def channelArgBytes (a : ChannelArgs) : List Byte :=
  be 2 a.programRamp ++ be 2 a.shuttleRamp ++ be 1 a.shuttleHoldOff ++ be 1 a.endAction ++ be 1 a.passPeriod ++
    be 2 a.breakLimit ++ be 1 a.mixMode ++ be 1 a.fill ++ optional routeArgBytes a.route

def pairBytes (p : Nat × Nat) : List Byte := be 3 p.1 ++ be 2 p.2

def bodyArgBytes : CueBody → List Byte
  | .speed v f => be 1 1 ++ beInt 2 v ++ be 1 f
  | .hold n => be 1 2 ++ be 2 n
  | .angle n => be 1 3 ++ be 1 n
  | .jump t => be 1 4 ++ be 4 t
  | .ret => be 1 5
  | .line m a n => be 1 6 ++ be 1 m ++ be 1 a ++ be 1 n
  | .note t => be 1 7 ++ be 1 t
  | .stop => be 1 8
  | .listEnd => be 1 9
  | .other c => be 1 c

def cueArgBytes (q : CueRecord) : List Byte := be 4 q.mark ++ be 1 q.passRepeat ++ be 1 q.passFirst ++ bodyArgBytes q.body

/-- The request a command stands for: its origin, its kind byte and its argument bytes; none for a command that is no
request. -/
def encodeRequest : Instr → Option (Origin × Nat × List Byte)
  | .setHouseTime o r n => some (o, 1, be 1 r ++ be 5 n)
  | .enableStream o st src l k => some (o, 2, be 1 st ++ be 1 src ++ be 1 l ++ be 1 k)
  | .disableStream o st => some (o, 3, be 1 st)
  | .configureStore o p => some (o, 4, pairBytes p.z0 ++ pairBytes p.z1 ++ pairBytes p.z2 ++ pairBytes p.z3 ++
      pairBytes p.z4 ++ pairBytes p.z5 ++ pairBytes p.z6 ++ pairBytes p.z7)
  | .setMarkGroup o g l d pre post r =>
    some (o, 5, be 1 g ++ counted 1 (be 1) l ++ be 2 d ++ be 2 pre ++ be 2 post ++ be 1 r)
  | .readMarkGroup o g => some (o, 6, be 1 g)
  | .markIn o g t => some (o, 7, be 1 g ++ timeBytes t)
  | .markOut o g t => some (o, 8, be 1 g ++ timeBytes t)
  | .markSpot o g t => some (o, 9, be 1 g ++ timeBytes t)
  | .setClipLabel o id l => some (o, 10, be 2 id ++ counted 1 (fun b => [b]) l)
  | .dropClip o id => some (o, 11, be 2 id)
  | .listClips o st n => some (o, 12, be 2 st ++ be 1 n)
  | .readClip o id => some (o, 13, be 2 id)
  | .takeLatch o n a g => some (o, 14, be 1 n ++ be 1 a ++ be 1 g)
  | .protectClip o id => some (o, 15, be 2 id)
  | .releaseClip o id => some (o, 16, be 2 id)
  | .configureChannel o ch a => some (o, 17, be 1 ch ++ channelArgBytes a)
  | .bindChannel o ch f => some (o, 18, be 1 ch ++ bindingBytes f)
  | .play o ch v f => some (o, 19, be 1 ch ++ beInt 2 v ++ be 1 f)
  | .stop o ch f => some (o, 20, be 1 ch ++ be 1 f)
  | .shuttle o ch v => some (o, 21, be 1 ch ++ beInt 2 v)
  | .jog o ch n => some (o, 22, be 1 ch ++ beInt 1 n)
  | .seek o ch f => some (o, 23, be 1 ch ++ seekBytes f)
  | .angle o ch n => some (o, 24, be 1 ch ++ be 1 n)
  | .halt o ch => some (o, 25, be 1 ch)
  | .resetChannel o ch => some (o, 26, be 1 ch)
  | .readChannel o ch => some (o, 27, be 1 ch)
  | .clearWarnings o ch => some (o, 28, be 1 ch)
  | .stageCues o st l => some (o, 29, be 1 st ++ counted 1 cueArgBytes l)
  | .clearStaging o => some (o, 30, [])
  | .readStaging o => some (o, 31, [])
  | .commitCuePage o p => some (o, 32, be 1 p)
  | .readCuePage o p => some (o, 33, be 1 p)
  | .bindCues o ch f n => some (o, 34, be 1 ch ++ be 1 f ++ be 1 n)
  | .requestBreak o ch => some (o, 35, be 1 ch)
  | .continue_ o ch => some (o, 36, be 1 ch)
  | .configureLine o n f ch p a g => some (o, 37, be 1 n ++ be 1 f ++ be 1 ch ++ be 1 p ++ be 1 a ++ be 1 g)
  | .setLines o m => some (o, 38, be 1 m)
  | .clearLines o m => some (o, 39, be 1 m)
  | .pulseLines o m n => some (o, 40, be 1 m ++ be 1 n)
  | .readLines o => some (o, 41, [])
  | .setNoticeEnables o c => some (o, 42, be 1 c)
  | .setNoticeRoute o r => some (o, 43, optional routeArgBytes r)
  | .readStatus o => some (o, 44, [])
  | .clearStatus o => some (o, 45, [])
  | .resetPart o => some (o, 46, [])
  | .unknownRequest o k => some (o, k, [])
  | .referencePulse _ | .flywheelExpiry | .lostFreeRun | .pulseEnd _ | .shuttleLapse _ | .holdCountExpiry _
  | .breakTimerExpiry _ | .fetchCompletion _ | .protectLookupServed | .withdrawnLookupEnd | .cueCommitComplete
  | .linkUp _ | .linkDown _ | .packetReceive _ _ | .transmitChoose _ | .transmitEnd _ | .linePinChange _ _
  | .resetPartActs | .lineReset _ _ | .powerOnReset _ _ | .resetNHeldLow => none

end Sys2Proof
end

