-- ==== Sys2Proof/Machine/Table.lean ====
section
/-! DEFINITION. Tables of numbered entries in ONE canonical form: a list of (number, entry) with strictly rising
numbers. A number that is not listed has no entry. The slot table, the directories, the clip table and the stacked
DRAM are held this way, so that equal contents are equal data. -/

namespace Sys2Proof

abbrev Table (α : Type) := List (Nat × α)

variable {α : Type}

/-- The entry numbered `k`, if one is listed. -/
def Table.find : Table α → Nat → Option α
  | [], _ => none
  | (n, a) :: t, k => if n = k then some a else Table.find t k

/-- The table with entry `k` made `a`: the form stays strictly rising. -/
def Table.insert : Table α → Nat → α → Table α
  | [], k, a => [(k, a)]
  | (n, b) :: t, k, a =>
    if k < n then (k, a) :: (n, b) :: t
    else if k = n then (k, a) :: t
    else (n, b) :: Table.insert t k a

/-- The table without entry `k`. -/
def Table.erase : Table α → Nat → Table α
  | [], _ => []
  | (n, b) :: t, k => if n = k then Table.erase t k else (n, b) :: Table.erase t k

/-- The canonical form: entry numbers strictly rising. -/
abbrev Table.wf (t : Table α) : Prop := (t.map Prod.fst).Pairwise (· < ·)

end Sys2Proof
end

