-- ==== Sys2Proof/Machine/State.lean ====
section
/-! DEFINITION. The state of the part, block by block, as the chapters of the spec give it, the state after reset, and
the reasons a step can stop. Everything is plain data. Quantities the spec derives from others (nominal period and
tolerance, slot owners, effective mix, page states, unheld counts, fetches in flight per channel) are computed where
they are read and are not stored a second time (log entry 29). -/

namespace Sys2Proof.Machine

/-! ## Reference Timer (chapter 1) -/

/-- The reference state (section 1.2). -/
inductive RefState where
  | unlocked | locking | locked | flywheel | lost
deriving DecidableEq, Repr

/-- The house rate (R2). -/
inductive HouseRate where
  | hz50 | hz5994
deriving DecidableEq, Repr

/-- The Reference Timer (section 1.2); nominal period and tolerance follow the rate (R2). `fresh` is the model's own: the
interval of R3 lasts, in which house time reads 0; no second reference pulse, no boundary and no SET HOUSE TIME has come
since the last reset (log entry 30). -/
structure Timer where
  state : RefState := .unlocked
  rate : HouseRate := .hz50
  /-- measured period L -/
  period : Nat := 4000000
  /-- local count c -/
  count : Nat := 0
  missing : Nat := 0
  /-- house frame count -/
  frames : Nat := 0
  offRate : Nat := 0
  fresh : Bool := true
deriving DecidableEq, Repr

/-! ## Recorder (chapter 2) -/

/-- A frame in assembly: its key, the slot it is written into and the band that must come next (R16). -/
structure Assembly where
  key : Nat
  slot : Nat
  next : Nat
deriving DecidableEq, Repr

/-- One stream record (R16); no assembly is WAITING. -/
structure Stream where
  enabled : Bool := false
  source : Nat := 0
  link : Fin 2 := 0
  /-- multiple k -/
  multiple : Nat := 1
  assembly : Option Assembly := none
  lastKey : Option Nat := none
  originKey : Option Nat := none
  torn : Nat := 0
  stale : Nat := 0
  skew : Nat := 0
deriving DecidableEq, Repr

/-! ## Frame Store (chapter 3) -/

/-- A slot's state with its key: the key is present in FILLING and FULL only (R35). -/
inductive Occupant where
  | empty
  | filling (key : Nat)
  | full (key : Nat)
deriving DecidableEq, Repr

/-- One slot record (R35); its owner follows the configuration (R34). -/
structure Slot where
  occupant : Occupant := .empty
  holds : Nat := 0
  generation : Nat := 0
deriving DecidableEq, Repr

/-- A stream's part of the Frame Store: allotment D, first slot and recall floor (R32), claim cursor (R39), held count
H (R42), directory as entry number ↦ (key, slot) (R43), and recall start in grains (R45). -/
structure Allotment where
  size : Nat := 0
  first : Option Nat := none
  floor : Nat := 0
  cursor : Option Nat := none
  held : Nat := 0
  directory : Table (Nat × Nat) := []
  recallStart : Option Nat := none
deriving DecidableEq, Repr

/-- The role of a fetch (R50). -/
inductive Role where
  | earlier | later
deriving DecidableEq, Repr

/-- An entry of the read service (R48): a fetch of a channel, with its standing at the Mixer (R160) and the mark of
R52, or a protect lookup of a stream's key. -/
inductive ReadEntry where
  | fetch (ch : Fin 4) (slot generation : Nat) (role : Role) (current superseded : Bool)
  | lookup (stream : Fin 8) (key : Nat)
deriving DecidableEq, Repr

/-- The Frame Store. An unlisted slot is EMPTY with hold count 0 and generation 0. `dram` holds the bands written to
the stacked DRAM, band `b` of slot `x` at place 135 × x + b. `service` is the entry the read service is serving,
`queue` the entries waiting for it, oldest first. -/
structure Store where
  configured : Bool := false
  allotments : Eight Allotment := Eight.fill {}
  slots : Table Slot := []
  dram : Table Band := []
  service : Option ReadEntry := none
  queue : List ReadEntry := []
  errors : Nat := 0
deriving DecidableEq, Repr

/-! ## Mark Unit and Clip Table (chapter 4) -/

/-- One mark group (R54). -/
structure MarkGroup where
  angles : List (Fin 8) := [0]
  defaultLength : Nat := 400
  preRoll : Nat := 150
  postRoll : Nat := 100
  recycle : Bool := false
  openClip : Option Nat := none
deriving DecidableEq, Repr

/-- One mark latch (R72); its action and group are the line's (R170). -/
structure Latch where
  captured : Option Nat := none
  overrun : Nat := 0
  ignored : Nat := 0
deriving DecidableEq, Repr

/-- A clip's state (R56). -/
inductive ClipState where
  | opened | closing | closed | protecting | protected_
deriving DecidableEq, Repr

/-- A run of consecutive keys in consecutive slots (R81). -/
structure Extent where
  firstKey : Nat
  count : Nat
  firstSlot : Nat
deriving DecidableEq, Repr

/-- The extent lists, one per angle, and the hole count of a PROTECTING or PROTECTED clip (R56). -/
structure Protection where
  extents : List (List Extent)
  holes : Nat := 0
deriving DecidableEq, Repr

/-- One clip record (R56); its id is its number in the clip table. -/
structure Clip where
  group : Fin 4
  state : ClipState
  inPoint : Nat
  outPoint : Option Nat
  angles : List (Fin 8)
  label : Option (List Byte) := none
  useCount : Nat := 0
  protection : Option Protection := none
deriving DecidableEq, Repr

/-! ## Protect Engine (chapter 5) -/

/-- The lookup field of the engine (R77). -/
inductive LookupState where
  | none | deferred | pending
deriving DecidableEq, Repr

/-- A walk record (R77): `periods` are the native periods of the clip's angles, read when PROTECT CLIP is taken and
kept for the walk (R79). -/
structure Walk where
  clip : Nat
  angle : Nat
  nextKey : Nat
  lastKey : Nat
  heldTotal : Nat
  periods : List Nat
deriving DecidableEq, Repr

/-- The Protect Engine (R77): IDLE when no walk is in flight. -/
structure Engine where
  walk : Option Walk := none
  lookup : LookupState := .none
  withdrawn : Bool := false
deriving DecidableEq, Repr

/-! ## Playout Channels (chapters 6 to 10) -/

inductive HaltCause where
  | request | linkDown | route
deriving DecidableEq, Repr

/-- A channel's state; the halt cause is present in HALTED only (R92). -/
inductive ChannelState where
  | idle | cued | running | inBreak
  | halted (cause : HaltCause)
deriving DecidableEq, Repr

/-- A channel's binding with its angle: an angle index with a clip, a stream with a free binding (R92). -/
inductive Binding where
  | unbound
  | clip (id angle : Nat)
  | free (origin : Nat) (stream : Fin 8)
deriving DecidableEq, Repr

inductive SpeedSource where
  | program | shuttle
deriving DecidableEq, Repr

inductive EndAction where
  | stop | loop | runOn
deriving DecidableEq, Repr

inductive MixMode where
  | blend | nearest | hold
deriving DecidableEq, Repr

inductive Fill where
  | black | last
deriving DecidableEq, Repr

/-- A link and a destination endpoint (R92, R187). -/
structure Route where
  link : Fin 2
  endpoint : Nat
deriving DecidableEq, Repr

/-- The nine configuration fields of a channel (R92). -/
structure ChannelConfig where
  programRamp : Nat := 8
  shuttleRamp : Nat := 24
  shuttleHoldOff : Nat := 25
  endAction : EndAction := .stop
  passPeriod : Nat := 1
  breakLimit : Nat := 0
  mixMode : MixMode := .blend
  fill : Fill := .black
  route : Option Route := none
deriving DecidableEq, Repr

inductive Warning where
  | gap | overtaken | stackOverflow | returnEmpty | cueRange | storeError
deriving DecidableEq, Repr

/-- A channel's warning set (R168). -/
structure Warnings where
  gap : Bool := false
  overtaken : Bool := false
  stackOverflow : Bool := false
  returnEmpty : Bool := false
  cueRange : Bool := false
  storeError : Bool := false
deriving DecidableEq, Repr

/-- A channel's conditions (R92). -/
structure Conditions where
  late : Bool := false
  degraded : Bool := false
  cueFault : Bool := false
deriving DecidableEq, Repr

inductive ScannerState where
  | waiting | active | ended | faulted
deriving DecidableEq, Repr

/-- A cue scanner (R138). -/
structure Scanner where
  state : ScannerState := .waiting
  index : Nat := 0
  lastMark : Option Nat := none
  reseek : Bool := true
deriving DecidableEq, Repr

/-- An entry of the return stack: a relative position and a list index (R145). -/
structure ReturnEntry where
  position : Int
  index : Nat
deriving DecidableEq, Repr

/-- A bound cue list: its first page and number of pages (R137). -/
structure CueBinding where
  first : Nat
  count : Nat
deriving DecidableEq, Repr

/-- What a prepared frame is (R160). -/
inductive PreparedKind where
  | blend (weight : Nat)
  | alone
  | again
deriving DecidableEq, Repr

/-- The frame in a preparation buffer (R160): its kind, how many fetches it was prepared with, the sources ready so
far, and the picture once it is complete (R162). -/
structure Prepared where
  kind : PreparedKind
  fetches : Nat
  earlier : Option Bands := none
  later : Option Bands := none
  picture : Option Bands := none
deriving DecidableEq, Repr

/-- A frame sent: a picture built from sources, or a fill frame (R160, R165). -/
inductive SentFrame where
  | picture (bands : Bands)
  | fillBlack
  | fillLast (bands : Bands)
deriving DecidableEq, Repr

/-- An emission under way: where its bands go, the house frame number they carry and the emission cursor; no emission
is DONE (R166). -/
structure Emission where
  link : Fin 2
  endpoint : Nat
  frame : Nat
  next : Nat
deriving DecidableEq, Repr

/-- The Mixer's record of a channel (R160); the fetches in flight stand in the read service. -/
structure Mixer where
  prepared : Option Prepared := none
  sent : Option SentFrame := none
  lastPicture : Option Bands := none
  emission : Option Emission := none
  score : Nat := 0
  slip : Nat := 0
deriving DecidableEq, Repr

/-- One playout channel (R92). -/
structure Channel where
  state : ChannelState := .idle
  binding : Binding := .unbound
  position : Nat := 0
  speed : Int := 0
  target : Int := 0
  source : SpeedSource := .program
  holdOff : Nat := 0
  hold : Nat := 0
  config : ChannelConfig := {}
  passCount : Nat := 0
  breakRequested : Bool := false
  breakAnnounced : Bool := false
  breakTimer : Nat := 0
  atLive : Bool := false
  warnings : Warnings := {}
  conditions : Conditions := {}
  level : Nat := 0
  cueBinding : Option CueBinding := none
  scanner : Scanner := {}
  stack : List ReturnEntry := []
  mixer : Mixer := {}
deriving DecidableEq, Repr

/-! ## Cue Memory (chapter 8) -/

/-- The LIST_END every cue is after a reset (R130). -/
def blankCue : CueRecord := { mark := 0, passRepeat := 1, passFirst := 0, body := .listEnd }

/-- The sixteen pages of 32 cues (R130), the staging buffer and its cursor (R131), and the page whose commit is in
flight: that page is UPDATING and every other page is READY (R130). -/
structure CueMemory where
  pages : List (List CueRecord) := List.replicate 16 (List.replicate 32 blankCue)
  staging : List (Option CueRecord) := List.replicate 32 none
  cursor : Nat := 0
  commit : Option Nat := none
deriving DecidableEq, Repr

/-! ## Line Unit (chapter 11) -/

inductive LineFunction where
  | input | mark | breakEnd | breakRequest | output | tally
deriving DecidableEq, Repr

inductive Polarity where
  | activeHigh | activeLow
deriving DecidableEq, Repr

inductive MarkAction where
  | latchOnly | autoIn | autoOut | autoSpot
deriving DecidableEq, Repr

/-- One line record (R170), with the level the outside gives the pin (`pinHigh`), which an input function reads. -/
structure Line where
  function : LineFunction := .input
  channel : Fin 4 := 0
  polarity : Polarity := .activeHigh
  markAction : MarkAction := .latchOnly
  markGroup : Fin 4 := 0
  inputActive : Bool := false
  outputActive : Bool := false
  pulseTimer : Nat := 0
  pulseFrame : Option Nat := none
  pinHigh : Bool := false
deriving DecidableEq, Repr

/-! ## Link Ports and Control Endpoint (chapter 12) -/

/-- The reply statuses, in the order of the status table of R185. -/
inductive Status where
  | ok | accepted | busy | refusedState | badArgument | notFound | notConfigured | inUse | tableFull | budget
  | holdLimit | floor | fragmented | noReference | unknownRequest
deriving DecidableEq, Repr

/-- A request waiting in a control queue: the endpoint that sent it and its payload (R184). -/
structure Request where
  source : Nat
  payload : List Byte
deriving DecidableEq, Repr

/-- A reply waiting in a reply queue (R184). -/
structure Reply where
  endpoint : Nat
  tag : Nat
  kind : Nat
  status : Status
  results : List Byte
deriving DecidableEq, Repr

/-- The notice classes, in the order of the table of R188. -/
inductive NoticeClass where
  | reference | mark | clip | operation | channel | break_ | cue | line
deriving DecidableEq, Repr

/-- The mark results (R65). -/
inductive MarkResult where
  | opened | remarked | closedOut | createdOut | createdSpot
deriving DecidableEq, Repr

inductive DropCause where
  | recycled | requested
deriving DecidableEq, Repr

/-- The results of a walk (R87). -/
inductive WalkResult where
  | ok | holdLimit | floor | fragmented | released
deriving DecidableEq, Repr

inductive BreakSource where
  | request | line
deriving DecidableEq, Repr

inductive BreakCause where
  | continue_ | line | timer
deriving DecidableEq, Repr

/-- What a channel notice says of the binding: a clip id, or FREE and the stream (R119, R159). -/
inductive BoundTo where
  | clip (id : Nat)
  | free (stream : Nat)
deriving DecidableEq, Repr

/-- The notices, in the order of the table of R188, with the details their owning rules give. -/
inductive NoticeBody where
  | referenceState (old new : RefState) (period frames : Nat)
  | markCaptured (line : Fin 8) (group : Fin 4) (time : Nat)
  | markFailed (line : Fin 8) (action : MarkAction) (group : Fin 4) (time : Nat) (status : Status)
  | clipMarked (id : Nat) (group : Fin 4) (result : MarkResult) (state : ClipState) (inPoint : Nat)
      (outPoint : Option Nat) (line : Option (Fin 8))
  | clipClosed (id inPoint : Nat) (outPoint : Option Nat)
  | clipDropped (id : Nat) (group : Fin 4) (inPoint : Nat) (outPoint : Option Nat) (cause : DropCause)
  | protectDone (id : Nat) (result : WalkResult) (holes held : Nat) (failure : Option (Nat × Nat))
  | commitDone (page : Nat) (failingIndex : Option Nat) (held : Nat)
  | shuttleLapse (ch : Fin 4) (speed : Int)
  | endReached (ch : Fin 4) (id : Nat) (action : EndAction) (noLive : Option Bool) (position : Nat)
  | startReached (ch : Fin 4) (bound : BoundTo) (position : Nat)
  | atLive (ch : Fin 4) (stream : Fin 8) (position : Nat)
  | overtaken (ch : Fin 4) (stream : Fin 8) (before : Int) (position : Nat)
  | faultLevel (ch : Fin 4) (old new : Nat) (conditions : Conditions) (warnings : Warnings)
      (cause : Option HaltCause)
  | breakAhead (ch : Fin 4) (bound : BoundTo) (passCount : Nat) (source : BreakSource) (action : EndAction)
  | breakStart (ch : Fin 4) (bound : BoundTo) (passCount timer : Nat)
  | breakEnd (ch : Fin 4) (bound : BoundTo) (cause : BreakCause) (passCount : Nat) (announced : Bool)
  | cueNote (ch : Fin 4) (tag index mark passCount : Nat)
  | cueFault (ch : Fin 4) (index mark lastMark : Nat)
  | cueWarning (ch : Fin 4) (warning : Warning) (index : Nat)
  | lineEdge (line : Fin 8) (function : LineFunction) (ch : Option (Fin 4)) (group : Option (Fin 4))
deriving DecidableEq, Repr

/-- A notice waiting in the notice queue: its house time and what it reports (R187). -/
structure Notice where
  time : Nat
  body : NoticeBody
deriving DecidableEq, Repr

/-- One Link Port (chapter 12): link state, the three queues, the packet in transmission, the rotation pointer of the
transmitter and the four link counters. -/
structure Link where
  up : Bool := false
  control : List Request := []
  replies : List Reply := []
  forward : List (List Byte) := []
  sending : Option (List Byte) := none
  rotation : Fin 4 := 3
  badCheck : Nat := 0
  unrouted : Nat := 0
  forwardDrop : Nat := 0
  replyDrop : Nat := 0
deriving DecidableEq, Repr

/-- How far a RESET PART has come (R191): none taken, its reply queued on a link, or its reply in transmission. -/
inductive ResetProgress where
  | none
  | queued (link : Fin 2)
  | sending (link : Fin 2)
deriving DecidableEq, Repr

/-- The Control Endpoint (chapter 12). `enables` has bit n set for the class at row n + 1 of the table of R188. -/
structure Endpoint where
  id : Nat := 224
  lastServed : Fin 2 := 1
  enables : BitVec 8 := 0
  route : Option Route := none
  notices : List Notice := []
  noticeLoss : Bool := false
  reset : ResetProgress := .none
deriving DecidableEq, Repr

/-! ## The whole part -/

/-- The state of the part. `resetHeld` is RESET_N held low (R192). `freeIndex` counts the free bytes used so far (the
model's own field, log entry 12). `pending` is the queue of commands waiting, first in, first out (the model's own). -/
structure State where
  timer : Timer := {}
  streams : Eight Stream := Eight.fill {}
  store : Store := {}
  groups : Four MarkGroup := Four.fill {}
  latches : Eight Latch := Eight.fill {}
  clips : Table Clip := []
  engine : Engine := {}
  channels : Four Channel := Four.fill {}
  cues : CueMemory := {}
  lines : Eight Line := Eight.fill {}
  links : Two Link := Two.fill {}
  endpoint : Endpoint := {}
  resetHeld : Bool := false
  freeIndex : Nat := 0
  pending : List Instr := []
deriving DecidableEq, Repr

/-- The part right after a power-on reset: every field at the After reset value of its chapter, the straps and the line
pins low, nothing ever written to the stacked DRAM (log entries 7, 12 and 16), and no command waiting. -/
def State.reset : State := {}

/-- Why the part stops. -/
inductive Fault where
  /-- Raised by a claim (R38) that finds no slot with hold count 0 in the stream's allotment, or no allotment. R38 and
  R40 say a claim always finds one, so no run from reset raises it. Safe: the model stops where the spec says the
  part cannot be. -/
  | noUnheldSlot
deriving DecidableEq, Repr

/-- Why the model has no meaning for a command. -/
inductive Refusal where
  /-- A command the model gives no meaning yet. Raised by the dispatch only. Safe: the model stops. -/
  | notModelled (mnemonic : String)
deriving DecidableEq, Repr

/-! ## Updates of one block -/

def State.onTimer (f : Timer → Timer) (s : State) : State := { s with timer := f s.timer }
def State.onStore (f : Store → Store) (s : State) : State := { s with store := f s.store }
def State.onEngine (f : Engine → Engine) (s : State) : State := { s with engine := f s.engine }
def State.onCues (f : CueMemory → CueMemory) (s : State) : State := { s with cues := f s.cues }
def State.onEndpoint (f : Endpoint → Endpoint) (s : State) : State := { s with endpoint := f s.endpoint }
def State.onClips (f : Table Clip → Table Clip) (s : State) : State := { s with clips := f s.clips }

def State.stream (s : State) (i : Fin 8) : Stream := s.streams.get i
def State.onStream (i : Fin 8) (f : Stream → Stream) (s : State) : State :=
  { s with streams := s.streams.set i (f (s.streams.get i)) }

def State.allotment (s : State) (i : Fin 8) : Allotment := s.store.allotments.get i
def State.onAllotment (i : Fin 8) (f : Allotment → Allotment) (s : State) : State :=
  { s with store := { s.store with allotments := s.store.allotments.set i (f (s.store.allotments.get i)) } }

def State.group (s : State) (i : Fin 4) : MarkGroup := s.groups.get i
def State.onGroup (i : Fin 4) (f : MarkGroup → MarkGroup) (s : State) : State :=
  { s with groups := s.groups.set i (f (s.groups.get i)) }

def State.latch (s : State) (i : Fin 8) : Latch := s.latches.get i
def State.onLatch (i : Fin 8) (f : Latch → Latch) (s : State) : State :=
  { s with latches := s.latches.set i (f (s.latches.get i)) }

def State.channel (s : State) (i : Fin 4) : Channel := s.channels.get i
def State.onChannel (i : Fin 4) (f : Channel → Channel) (s : State) : State :=
  { s with channels := s.channels.set i (f (s.channels.get i)) }

def State.line (s : State) (i : Fin 8) : Line := s.lines.get i
def State.onLine (i : Fin 8) (f : Line → Line) (s : State) : State :=
  { s with lines := s.lines.set i (f (s.lines.get i)) }

def State.port (s : State) (i : Fin 2) : Link := s.links.get i
def State.onPort (i : Fin 2) (f : Link → Link) (s : State) : State :=
  { s with links := s.links.set i (f (s.links.get i)) }

/-- The clip that holds an id, if any (R56). -/
def State.clip (s : State) (id : Nat) : Option Clip := s.clips.find id

end Sys2Proof.Machine
end

