-- ==== Sys2Proof/Machine/Operands.lean ====
section
/-! DEFINITION. How argument bytes name the values of the spec's lists, and the codes those values have in replies and
notices: the position in the list as the owning rule or table first writes it, counted from 1 (R180). Clamped
arguments are clamped here (R185). -/

namespace Sys2Proof.Machine

/-! ## Clamps -/

/-- `x` brought into `lo` to `hi`. -/
def clampInt (lo hi x : Int) : Int := max lo (min hi x)

/-- A target or shuttle speed, clamped without refusal (R97, R99). -/
def clampSpeed (v : Int) : Int := clampInt (-3072) 3072 v

/-- A ramp, clamped without refusal (R94). -/
def clampRamp (n : Nat) : Nat := min n 3072

/-- A pulse length, clamped without refusal (R174). -/
def clampPulse (n : Nat) : Nat := max 1 (min n 255)

/-- A signed position brought between two grain times (R95, R101, R102). -/
def clampPos (lo hi : Nat) (x : Int) : Nat := (clampInt lo hi x).toNat

/-! ## Argument codes -/

/-- A yes-or-no argument: 0 or 1; none for any other byte (R180). -/
def flagArg (n : Nat) : Option Bool := if n = 0 then some false else if n = 1 then some true else none

def HouseRate.ofCode : Nat → Option HouseRate
  | 1 => some .hz50
  | 2 => some .hz5994
  | _ => none

def EndAction.ofCode : Nat → Option EndAction
  | 1 => some .stop
  | 2 => some .loop
  | 3 => some .runOn
  | _ => none

def MixMode.ofCode : Nat → Option MixMode
  | 1 => some .blend
  | 2 => some .nearest
  | 3 => some .hold
  | _ => none

def Fill.ofCode : Nat → Option Fill
  | 1 => some .black
  | 2 => some .last
  | _ => none

def LineFunction.ofCode : Nat → Option LineFunction
  | 1 => some .input
  | 2 => some .mark
  | 3 => some .breakEnd
  | 4 => some .breakRequest
  | 5 => some .output
  | 6 => some .tally
  | _ => none

def Polarity.ofCode : Nat → Option Polarity
  | 1 => some .activeHigh
  | 2 => some .activeLow
  | _ => none

def MarkAction.ofCode : Nat → Option MarkAction
  | 1 => some .latchOnly
  | 2 => some .autoIn
  | 3 => some .autoOut
  | 4 => some .autoSpot
  | _ => none

/-- The three marks (section 4.3). -/
inductive MarkKind where
  | markIn | markOut | markSpot
deriving DecidableEq, Repr

/-- The actions of TAKE LATCH: a mark, or DISCARD (R75). -/
inductive TakeAction where
  | mark (k : MarkKind)
  | discard
deriving DecidableEq, Repr

def TakeAction.ofCode : Nat → Option TakeAction
  | 1 => some (.mark .markIn)
  | 2 => some (.mark .markOut)
  | 3 => some (.mark .markSpot)
  | 4 => some .discard
  | _ => none

/-- The actions on OUTPUT lines (R174). -/
inductive LineAction where
  | set | clear | pulse
deriving DecidableEq, Repr

def LineAction.ofCode : Nat → Option LineAction
  | 1 => some .set
  | 2 => some .clear
  | 3 => some .pulse
  | _ => none

/-- The multiples a stream can have (R17). -/
def multipleOk (k : Nat) : Bool := k == 1 || k == 2 || k == 3 || k == 4 || k == 6 || k == 8

/-- The pass periods and pass repeats allowed (R92, R128). -/
def periodOk (n : Nat) : Bool := n == 1 || n == 2 || n == 4 || n == 8 || n == 16 || n == 32 || n == 64

/-- The route of a channel: absent, or a link 0 or 1 and an endpoint up to `top`; the outer none is a refusal
(R94, R187). -/
def routeArg (top : Nat) : Option RouteArg → Option (Option Route)
  | none => some none
  | some r =>
    match recordNo 2 r.link with
    | none => none
    | some l => if r.endpoint ≤ top then some (some ⟨l, r.endpoint⟩) else none

/-- An angle list as a request gives it: 1 to 8 distinct streams (R55). -/
def anglesArg (l : List Nat) : Option (List (Fin 8)) :=
  if 1 ≤ l.length ∧ l.length ≤ 8 ∧ l.Nodup then l.mapM (recordNo 8) else none

/-! ## Reply and notice codes -/

def RefState.code : RefState → Nat
  | .unlocked => 1
  | .locking => 2
  | .locked => 3
  | .flywheel => 4
  | .lost => 5

def HouseRate.code : HouseRate → Nat
  | .hz50 => 1
  | .hz5994 => 2

def ClipState.code : ClipState → Nat
  | .opened => 1
  | .closing => 2
  | .closed => 3
  | .protecting => 4
  | .protected_ => 5

def ChannelState.code : ChannelState → Nat
  | .idle => 1
  | .cued => 2
  | .running => 3
  | .inBreak => 4
  | .halted _ => 5

def HaltCause.code : HaltCause → Nat
  | .request => 1
  | .linkDown => 2
  | .route => 3

def SpeedSource.code : SpeedSource → Nat
  | .program => 1
  | .shuttle => 2

/-- An end action's position in the list of R92, in an END_REACHED notice too (log entry 41). -/
def EndAction.code : EndAction → Nat
  | .stop => 1
  | .loop => 2
  | .runOn => 3

def MixMode.code : MixMode → Nat
  | .blend => 1
  | .nearest => 2
  | .hold => 3

def Fill.code : Fill → Nat
  | .black => 1
  | .last => 2

/-- A warning's position in the list of R92, in a CUE_WARNING notice too (log entry 40). -/
def Warning.code : Warning → Nat
  | .gap => 1
  | .overtaken => 2
  | .stackOverflow => 3
  | .returnEmpty => 4
  | .cueRange => 5
  | .storeError => 6

def ScannerState.code : ScannerState → Nat
  | .waiting => 1
  | .active => 2
  | .ended => 3
  | .faulted => 4

def LineFunction.code : LineFunction → Nat
  | .input => 1
  | .mark => 2
  | .breakEnd => 3
  | .breakRequest => 4
  | .output => 5
  | .tally => 6

def Polarity.code : Polarity → Nat
  | .activeHigh => 1
  | .activeLow => 2

/-- A mark action's position in the list of R72, in a MARK_FAILED notice too (log entry 41). -/
def MarkAction.code : MarkAction → Nat
  | .latchOnly => 1
  | .autoIn => 2
  | .autoOut => 3
  | .autoSpot => 4

def Status.code : Status → Nat
  | .ok => 1
  | .accepted => 2
  | .busy => 3
  | .refusedState => 4
  | .badArgument => 5
  | .notFound => 6
  | .notConfigured => 7
  | .inUse => 8
  | .tableFull => 9
  | .budget => 10
  | .holdLimit => 11
  | .floor => 12
  | .fragmented => 13
  | .noReference => 14
  | .unknownRequest => 15

def MarkResult.code : MarkResult → Nat
  | .opened => 1
  | .remarked => 2
  | .closedOut => 3
  | .createdOut => 4
  | .createdSpot => 5

def DropCause.code : DropCause → Nat
  | .recycled => 1
  | .requested => 2

def WalkResult.code : WalkResult → Nat
  | .ok => 1
  | .holdLimit => 2
  | .floor => 3
  | .fragmented => 4
  | .released => 5

def BreakSource.code : BreakSource → Nat
  | .request => 1
  | .line => 2

def BreakCause.code : BreakCause → Nat
  | .continue_ => 1
  | .line => 2
  | .timer => 3

/-- A level, listed as active, inactive (R170). -/
def levelCode (active : Bool) : Nat := if active then 1 else 2

/-- A one-byte mask whose bit n stands for the member at position n + 1 of a list (R180). -/
def maskOf (members : List Bool) : Nat :=
  members.foldr (fun b acc => 2 * acc + (if b then 1 else 0)) 0

end Sys2Proof.Machine
end

