-- ==== Sys2Proof/Machine/Flags.lean ====
section
/-! DEFINITION. The status flags of a channel computed from its record: warning set, conditions, effective mix, and
the fault level that sums them up (R92, R167 to R169). -/

namespace Sys2Proof.Machine

/-- Whether a warning stands in the set. -/
def Warnings.has (w : Warnings) : Warning → Bool
  | .gap => w.gap
  | .overtaken => w.overtaken
  | .stackOverflow => w.stackOverflow
  | .returnEmpty => w.returnEmpty
  | .cueRange => w.cueRange
  | .storeError => w.storeError

/-- A warning enters the set; one already in the set stays as it is (R168). -/
def Warnings.add (w : Warnings) : Warning → Warnings
  | .gap => { w with gap := true }
  | .overtaken => { w with overtaken := true }
  | .stackOverflow => { w with stackOverflow := true }
  | .returnEmpty => { w with returnEmpty := true }
  | .cueRange => { w with cueRange := true }
  | .storeError => { w with storeError := true }

def Warnings.any (w : Warnings) : Bool :=
  w.gap || w.overtaken || w.stackOverflow || w.returnEmpty || w.cueRange || w.storeError

/-- The set as a mask, in the order of the table of R92 (R180). -/
def Warnings.mask (w : Warnings) : Nat :=
  maskOf [w.gap, w.overtaken, w.stackOverflow, w.returnEmpty, w.cueRange, w.storeError]

/-- The conditions as a mask, in the order of the table of R92 (R180). -/
def Conditions.mask (c : Conditions) : Nat := maskOf [c.late, c.degraded, c.cueFault]

/-- The effective mix: the mix mode, but NEAREST while the mode is BLEND and DEGRADED stands (R92, R167). -/
def Channel.effectiveMix (c : Channel) : MixMode :=
  match c.config.mixMode with
  | .blend => if c.conditions.degraded then .nearest else .blend
  | m => m

/-- The fault level by the causes that hold: 3 when HALTED, 2 for DEGRADED or CUE_FAULT, 1 for LATE or a warning,
0 when none holds (R169). -/
def Channel.faultLevel (c : Channel) : Nat :=
  match c.state with
  | .halted _ => 3
  | _ =>
    if c.conditions.degraded || c.conditions.cueFault then 2
    else if c.conditions.late || c.warnings.any then 1
    else 0

def Channel.warn (w : Warning) (c : Channel) : Channel := { c with warnings := c.warnings.add w }

/-- The lateness score after a late frame or an on-time one, with the conditions it sets (R167): 4 reached from below
adds LATE, 7 reached adds DEGRADED, 0 reached removes both. -/
def Channel.rescore (new : Nat) (c : Channel) : Channel :=
  let old := c.mixer.score
  let conds : Conditions :=
    if new = 0 ∧ old ≠ 0 then { c.conditions with late := false, degraded := false }
    else if new = 4 ∧ old < 4 then { c.conditions with late := true }
    else if new = 7 ∧ old ≠ 7 then { c.conditions with degraded := true }
    else c.conditions
  { c with mixer := { c.mixer with score := new }, conditions := conds }

/-- A frame judged late: the score rises by one, at most to 7 (R164). -/
def Channel.scoreLate (c : Channel) : Channel := c.rescore (min 7 (c.mixer.score + 1))

/-- A frame on time that awaited a fetch: the score falls by one, at least to 0 (R164). -/
def Channel.scoreOnTime (c : Channel) : Channel := c.rescore (c.mixer.score - 1)

/-- Whether the channel is in a state that counts as on air for its TALLY lines (R176). -/
def Channel.onAir (c : Channel) : Bool :=
  match c.state with
  | .running | .inBreak => true
  | _ => false

/-- Whether the channel is CUED, RUNNING or BREAK: the states a halting event acts on (R93, R178). -/
def Channel.playing (c : Channel) : Bool :=
  match c.state with
  | .cued | .running | .inBreak => true
  | _ => false

/-- The halt cause, present in HALTED (R92). -/
def Channel.haltCause (c : Channel) : Option HaltCause :=
  match c.state with
  | .halted cause => some cause
  | _ => none

end Sys2Proof.Machine
end

