-- ==== Sys2Proof/Machine/Ops.lean ====
section
/-! DEFINITION. The operations every block shares: saturating counters, house time (R12), raising a notice (R187,
R188), settling a channel's fault level at the end of an event (R169), queueing a reply and taking a request (R184,
R185). -/

namespace Sys2Proof.Machine

/-- A 16-bit status counter after one more event: it stays at 65,535 (R190). -/
def bump (n : Nat) : Nat := if n < 65535 then n + 1 else n

/-! ## Time (chapter 1) -/

/-- The nominal period N of the house rate (R2). -/
def Timer.nominal (t : Timer) : Nat :=
  match t.rate with
  | .hz50 => 4000000
  | .hz5994 => 3336667

/-- The tolerance T = floor(N / 256) (R2). -/
def Timer.tolerance (t : Timer) : Nat := t.nominal / 256

/-- The phase: 0 in UNLOCKED, otherwise floor(c × 2880 / L) clamped to 2879 (R12). From a reset to the second
reference pulse or the first boundary R3 has house time read 0, LOCKING included, where R12 would count the phase: R3 is
followed there (log entry 30). -/
def Timer.phase (t : Timer) : Nat :=
  match t.state with
  | .unlocked => 0
  | .locking => if t.fresh then 0 else min 2879 (t.count * 2880 / t.period)
  | _ => min 2879 (t.count * 2880 / t.period)

/-- House time in grains (R12). -/
def State.houseTime (s : State) : Nat := s.timer.frames * 2880 + s.timer.phase

/-- The native period q of a multiple k (R13). -/
def nativePeriod (k : Nat) : Nat := 2880 / k

/-- The native period of a stream. -/
def State.period (s : State) (i : Fin 8) : Nat := nativePeriod (s.stream i).multiple

/-- The live edge of a stream: its live key × q (R27). -/
def State.liveEdge (s : State) (i : Fin 8) : Option Nat := (s.stream i).lastKey.map (· * s.period i)

/-- The recall start of a stream, as last recomputed (R45). -/
def State.recallStart (s : State) (i : Fin 8) : Option Nat := (s.allotment i).recallStart

/-! ## Notices (section 12.6) -/

/-- The class of a notice, by the table of R188. -/
def NoticeBody.noticeClass : NoticeBody → NoticeClass
  | .referenceState .. => .reference
  | .markCaptured .. | .markFailed .. => .mark
  | .clipMarked .. | .clipClosed .. | .clipDropped .. => .clip
  | .protectDone .. | .commitDone .. => .operation
  | .shuttleLapse .. | .endReached .. | .startReached .. | .atLive .. | .overtaken .. | .faultLevel .. => .channel
  | .breakAhead .. | .breakStart .. | .breakEnd .. => .break_
  | .cueNote .. | .cueFault .. | .cueWarning .. => .cue
  | .lineEdge .. => .line

/-- A class's row number in the table of R188. -/
def NoticeClass.code : NoticeClass → Nat
  | .reference => 1
  | .mark => 2
  | .clip => 3
  | .operation => 4
  | .channel => 5
  | .break_ => 6
  | .cue => 7
  | .line => 8

/-- Whether a class is enabled (R187). -/
def Endpoint.enabled (e : Endpoint) (c : NoticeClass) : Bool := e.enables.getLsbD (c.code - 1)

/-- The endpoint after a notice is raised: it joins the queue when its class is enabled and the route is present, and
is discarded with NOTICE_LOSS when the queue holds 32 (R187, R188). -/
def Endpoint.raise (n : Notice) (e : Endpoint) : Endpoint :=
  if e.enabled n.body.noticeClass && e.route.isSome then
    if e.notices.length < 32 then { e with notices := e.notices ++ [n] } else { e with noticeLoss := true }
  else e

/-- Raises a notice with the house time its owning rule gives (R187). -/
def raise (time : Nat) (body : NoticeBody) (s : State) : State := s.onEndpoint (Endpoint.raise ⟨time, body⟩)

/-- Recomputes a channel's fault level at the end of an event and raises one FAULT_LEVEL notice for its net change
(R169). -/
def settleFault (ch : Fin 4) (time : Nat) (s : State) : State :=
  let c := s.channel ch
  let new := c.faultLevel
  if new = c.level then s
  else
    raise time (.faultLevel ch c.level new c.conditions c.warnings c.haltCause)
      (s.onChannel ch fun c => { c with level := new })

/-! ## Replies and the taking of requests (section 12.4) -/

/-- What carrying out a request answers: the state, the reply's status and its results. -/
structure Answer where
  state : State
  status : Status
  results : List Byte

/-- A refusal: the state is as it was and the reply carries no results (R184). -/
def refuse (st : Status) (s : State) : Answer := ⟨s, st, []⟩

def accept (results : List Byte) (s : State) : Answer := ⟨s, .ok, results⟩

/-- The reply joins the reply queue of the link the request came in on (R184, R185). -/
def queueReply (o : Origin) (kind : Nat) (st : Status) (results : List Byte) (s : State) : State :=
  s.onPort o.link fun p => { p with replies := p.replies ++ [⟨o.source, o.tag, kind, st, results⟩] }

/-- Whether the endpoint arbiter can take a request that came in on a link: the link is UP, since a DOWN link's queues
are empty (R178); its reply queue holds fewer than 8 replies (R185); and no RESET PART has been taken (R191). -/
def State.canTake (s : State) (l : Fin 2) : Bool :=
  (s.port l).up && decide ((s.port l).replies.length < 8) && decide (s.endpoint.reset = .none)

/-- The arbiter takes a request and has it carried out as one event; its reply joins the queue in the same event, and
its link becomes the one served last (R185). A request the arbiter cannot take is not taken (log entry 4). -/
def takeRequest (o : Origin) (kind : Nat) (run : State → Answer) (s : State) : Host.Outcome State Fault Refusal :=
  if s.canTake o.link then
    let a := run (s.onEndpoint fun e => { e with lastServed := o.link })
    .next (queueReply o kind a.status a.results a.state)
  else .next s

/-- Carries out a channel request on the channel it names: a number outside 0 to 3 is refused before any other check
(R93). -/
def onChannelNo (n : Nat) (run : Fin 4 → State → Answer) (s : State) : Answer :=
  match recordNo 4 n with
  | none => refuse .badArgument s
  | some ch => run ch s

/-- Carries out a request with a yes-or-no argument; a byte that is neither 0 nor 1 is refused (R180, R185). -/
def withFlag (n : Nat) (run : Bool → State → Answer) (s : State) : Answer :=
  match flagArg n with
  | none => refuse .badArgument s
  | some b => run b s

end Sys2Proof.Machine
end

