-- ==== Sys2Proof/Machine/LineOps.lean ====
section
/-! DEFINITION. The Line Unit's levels and actions (chapter 11): which line is active, what the part drives, SET, CLEAR
and PULSE on OUTPUT lines, and the count-down of pulses. -/

namespace Sys2Proof.Machine

/-- Whether a function is an input function (R170). -/
def LineFunction.isInput : LineFunction → Bool
  | .input | .mark | .breakEnd | .breakRequest => true
  | .output | .tally => false

/-- A level is active when the pin is high under ACTIVE_HIGH, or low under ACTIVE_LOW (R170). -/
def Polarity.active : Polarity → Bool → Bool
  | .activeHigh, high => high
  | .activeLow, high => !high

/-- The pin level that shows a line as active or inactive (R170). -/
def Polarity.drive : Polarity → Bool → Bool
  | .activeHigh, active => active
  | .activeLow, active => !active

/-- Whether a line is active: the input level of an input function, the output level of OUTPUT, and its channel's state
for TALLY (R170, R176, R177). -/
def State.lineActive (s : State) (n : Fin 8) : Bool :=
  let l := s.line n
  match l.function with
  | .output => l.outputActive
  | .tally => (s.channel l.channel).onAir
  | _ => l.inputActive

/-- Whether the part drives a line's pin: an output function, while RESET_N is not held low (R170, R192). -/
def State.drivesPin (s : State) (n : Fin 8) : Bool := !(s.line n).function.isInput && !s.resetHeld

/-- Whether a line's pin is high: as the part drives it, or as the outside gives it (R170, R177). -/
def State.linePin (s : State) (n : Fin 8) : Bool :=
  if s.drivesPin n then (s.line n).polarity.drive (s.lineActive n) else (s.line n).pinHigh

/-- One action on one line: an OUTPUT line follows it, any other line is passed over (R174). `frames` is the house frame
count at this moment. -/
def Line.act (a : LineAction) (length frames : Nat) (l : Line) : Line :=
  match l.function with
  | .output =>
    match a with
    | .set => { l with outputActive := true, pulseTimer := 0, pulseFrame := none }
    | .clear => { l with outputActive := false, pulseTimer := 0, pulseFrame := none }
    | .pulse => { l with outputActive := true, pulseTimer := length, pulseFrame := some frames }
  | _ => l

/-- An action on the lines of a mask (R174): bit n stands for line n (R180). -/
def actOnLines (a : LineAction) (mask length : Nat) (s : State) : State :=
  allEight.foldl (fun t n => if mask.testBit n.val then t.onLine n (Line.act a length s.timer.frames) else t) s

/-- A running pulse timer at a boundary with house frame number `h`: counted down when `h` differs from the pulse frame,
and at 0 the output becomes inactive (R175). The comparison holds after a SET HOUSE TIME too (log entry 39). -/
def Line.countPulse (h : Nat) (l : Line) : Line :=
  if l.function = .output ∧ 0 < l.pulseTimer ∧ l.pulseFrame ≠ some h then
    if l.pulseTimer = 1 then { l with pulseTimer := 0, outputActive := false, pulseFrame := none }
    else { l with pulseTimer := l.pulseTimer - 1 }
  else l

/-- The Line Unit at a boundary (R11, R175). -/
def countPulses (h : Nat) (s : State) : State := allEight.foldl (fun t n => t.onLine n (Line.countPulse h)) s

/-- Whether any BREAK_REQUEST line of a channel is active (R153). -/
def breakLineActive (ch : Fin 4) (s : State) : Bool :=
  allEight.any fun n =>
    decide ((s.line n).function = .breakRequest ∧ (s.line n).channel = ch) && (s.line n).inputActive

end Sys2Proof.Machine
end

