-- ==== Sys2Proof/Config.lean ====
section
/-! DEFINITION. What the spec leaves without a value: constants with no body, so no proof can lean on one. -/

namespace Sys2Proof

/-- The byte at `offset` of a band place of the stacked DRAM that no band write has reached since power-on. The spec
gives the DRAM no contents at power-on (R35, R191, R192 say only that no reset clears it). Log entry 7. -/
opaque Config.dramPowerOn (place offset : Nat) : Byte

/-- The tag or kind byte of the reply to a request whose payload is too short to carry one, the `n`-th byte so
needed. The spec refuses such a payload (R185) and states no tag or kind for the reply. Log entry 12. -/
opaque Config.missingByte (n : Nat) : Byte

end Sys2Proof
end

