-- ==== Sys2Proof/Machine/Store.lean ====
section
/-! DEFINITION. The Frame Store (chapter 3): slots, lookups, claims, holds and releases, recall starts, the read
service, and CONFIGURE STORE. -/

namespace Sys2Proof.Machine

/-! ## The slot table and the stacked DRAM -/

def blankSlot : Slot := {}

/-- A slot record; an unlisted slot is EMPTY with hold count 0 and generation 0 (R35). -/
def Store.slot (st : Store) (x : Nat) : Slot := (st.slots.find x).getD blankSlot

/-- The slot table with a record changed; a blank record is not listed. -/
def Store.setSlot (x : Nat) (r : Slot) (st : Store) : Store :=
  { st with slots := if r = blankSlot then st.slots.erase x else st.slots.insert x r }

/-- Whether a slot lies in an allotment's range (R34). -/
def Allotment.owns (a : Allotment) (x : Nat) : Bool :=
  match a.first with
  | none => false
  | some f => decide (f ≤ x ∧ x < f + a.size)

/-- The owner of a slot: the stream whose range contains it, or none (R34, R35). -/
def Store.owner (st : Store) (x : Nat) : Option (Fin 8) := allEight.find? fun i => (st.allotments.get i).owns x

/-- The unheld count U = D − H of a stream's allotment (R42). -/
def Allotment.unheld (a : Allotment) : Nat := a.size - a.held

/-- The number of bands in a frame (chapter 2). -/
def bandsPerFrame : Nat := 135

/-- The number of bytes in one band of picture (R22). -/
def bandBytes : Nat := 38400

/-- A band of the stacked DRAM; a place nothing has written reads as free bytes (log entry 7). -/
def Store.band (st : Store) (place : Nat) : Band :=
  (st.dram.find place).getD ((List.range bandBytes).map (Config.dramPowerOn place))

/-- Writes a band into its place of a slot (R22, R23, R47). -/
def Store.writeBand (slot band : Nat) (bytes : Band) (st : Store) : Store :=
  { st with dram := st.dram.insert (bandsPerFrame * slot + band) bytes }

/-- The 135 bands of a slot, as a fetch reads them (R50). -/
def Store.slotBands (st : Store) (slot : Nat) : Bands :=
  (List.range bandsPerFrame).map fun b => st.band (bandsPerFrame * slot + b)

/-! ## Lookup (R44) -/

/-- Whether a slot's record names a stream and key and is FULL (R44). -/
def Store.holdsFrame (st : Store) (i : Fin 8) (key slot : Nat) : Bool :=
  decide (st.owner slot = some i ∧ (st.slot slot).occupant = .full key)

/-- A lookup of a key on a stream through its directory: the slot and its generation, or absent (R44). -/
def Store.lookup (st : Store) (i : Fin 8) (key : Nat) : Option (Nat × Nat) :=
  let a := st.allotments.get i
  if st.configured ∧ 0 < a.size then
    match a.directory.find (key % a.size) with
    | some (k, slot) =>
      if k = key ∧ st.holdsFrame i key slot then some (slot, (st.slot slot).generation) else none
    | none => none
  else none

/-! ## Recall start (R45) -/

/-- The recall start key: the greater of live key − (D − H) + 1, as a signed number, and the origin key (R45). -/
def recallKey (live size held origin : Nat) : Nat := (max ((live : Int) - (size - held : Int) + 1) (origin : Int)).toNat

/-- The Frame Store recomputes a stream's recall start; a stream without a live key has none (R45). -/
def recomputeRecall (i : Fin 8) (s : State) : State :=
  let r := s.stream i
  s.onAllotment i fun a =>
    { a with recallStart := r.lastKey.map fun live =>
        recallKey live a.size a.held (r.originKey.getD 0) * nativePeriod r.multiple }

/-! ## Claims (R38) -/

/-- The slot after `x` in a range, wrapping from its last slot to its first (R38). -/
def nextSlot (first size x : Nat) : Nat := if x + 1 < first + size then x + 1 else first

/-- The first slot with hold count 0, from `x` on, looking at no more than the given number of slots (R38). -/
def Store.scanUnheld (st : Store) (first size : Nat) : Nat → Nat → Option Nat
  | 0, _ => none
  | n + 1, x => if (st.slot x).holds = 0 then some x else Store.scanUnheld st first size n (nextSlot first size x)

/-- The claim of a slot for a key: the slot becomes FILLING with the key and a generation one higher, wrapping from
65,535 to 0, and the cursor moves to the slot after it (R37, R38). None when no slot is unheld. -/
def claim (i : Fin 8) (key : Nat) (s : State) : Option (Nat × State) :=
  let a := s.allotment i
  match a.first, a.cursor with
  | some first, some cursor =>
    match s.store.scanUnheld first a.size a.size cursor with
    | none => none
    | some x =>
      let r := s.store.slot x
      let r' : Slot := { r with occupant := .filling key, generation := (r.generation + 1) % 65536 }
      some (x, (s.onStore (Store.setSlot x r')).onAllotment i fun a =>
        { a with cursor := some (nextSlot first a.size x) })
  | _, _ => none

/-! ## Holds (R40 to R42) -/

/-- What a request to take a hold answers (R40). -/
inductive HoldResult where
  | absent | holdLimit | floor
  | held (slot : Nat)
deriving DecidableEq, Repr

/-- A request to take a hold, with the lookup it begins with (R40). A HELD result on an unheld slot changes the held
count, and the recall start is recomputed (R42). -/
def takeHold (i : Fin 8) (key : Nat) (s : State) : HoldResult × State :=
  match s.store.lookup i key with
  | none => (.absent, s)
  | some (x, _) =>
    let r := s.store.slot x
    let a := s.allotment i
    if r.holds = 15 then (.holdLimit, s)
    else if r.holds = 0 ∧ a.unheld < a.floor + 1 then (.floor, s)
    else
      let s1 := s.onStore (Store.setSlot x { r with holds := r.holds + 1 })
      if r.holds = 0 then
        (.held x, recomputeRecall i (s1.onAllotment i fun a => { a with held := a.held + 1 }))
      else (.held x, s1)

/-- The release of one hold on a slot (R41), without the recomputation of recall starts. -/
def releaseHold (s : State) (x : Nat) : State :=
  let r := s.store.slot x
  let s1 := s.onStore (Store.setSlot x { r with holds := r.holds - 1 })
  if r.holds = 1 then
    match s.store.owner x with
    | some i => s1.onAllotment i fun a => { a with held := a.held - 1 }
    | none => s1
  else s1

/-- The releases of one clip, made as one event: each stream whose held count changes has its recall start recomputed
once (R84). -/
def releaseHolds (slots : List Nat) (s : State) : State :=
  let s1 := slots.foldl releaseHold s
  allEight.foldl (fun t i => if (t.allotment i).held = (s.allotment i).held then t else recomputeRecall i t) s1

/-! ## The read service (R48) -/

/-- The read service takes the oldest waiting entry when it serves none (R48, log entry 6). -/
def Store.serve (st : Store) : Store :=
  match st.service, st.queue with
  | none, e :: q => { st with service := some e, queue := q }
  | _, _ => st

/-- An entry joins the read queue (R48, R50). -/
def Store.enqueue (e : ReadEntry) (st : Store) : Store := Store.serve { st with queue := st.queue ++ [e] }

/-- Whether an entry is a fetch of a channel. -/
def ReadEntry.ofChannel (ch : Fin 4) : ReadEntry → Bool
  | .fetch c .. => c = ch
  | .lookup .. => false

/-- Whether an entry is a CURRENT fetch of a channel (R160). -/
def ReadEntry.currentOf (ch : Fin 4) : ReadEntry → Bool
  | .fetch c _ _ _ current _ => current && c = ch
  | .lookup .. => false

/-- Whether an entry is a fetch of any channel. -/
def ReadEntry.isFetch : ReadEntry → Bool
  | .fetch .. => true
  | .lookup .. => false

/-- The entries waiting or in service, in order of issue (R48). -/
def Store.inFlight (st : Store) : List ReadEntry := st.service.toList ++ st.queue

/-- The number of fetches a channel has in flight (R50, R160). -/
def Store.fetchesOf (st : Store) (ch : Fin 4) : Nat := (st.inFlight.filter (ReadEntry.ofChannel ch)).length

/-- Whether a prepared frame of the channel still awaits a CURRENT fetch (R164). -/
def Store.awaits (st : Store) (ch : Fin 4) : Bool := st.inFlight.any (ReadEntry.currentOf ch)

/-- A fetch of the channel becomes DISCARDED (R160). -/
def ReadEntry.discard (ch : Fin 4) : ReadEntry → ReadEntry
  | .fetch c slot gen role current superseded => .fetch c slot gen role (current && !decide (c = ch)) superseded
  | e => e

/-- Every fetch of a channel in flight becomes DISCARDED (R160). -/
def Store.discardFetches (ch : Fin 4) (st : Store) : Store :=
  { st with service := st.service.map (ReadEntry.discard ch), queue := st.queue.map (ReadEntry.discard ch) }

/-- The channel's waiting fetches are withdrawn from the read queue (R125). -/
def Store.withdrawFetches (ch : Fin 4) (st : Store) : Store :=
  { st with queue := st.queue.filter fun e => !e.ofChannel ch }

/-- A waiting protect lookup is removed from the read queue (R89). -/
def Store.withdrawLookup (st : Store) : Store := { st with queue := st.queue.filter ReadEntry.isFetch }

/-- Whether a protect lookup is in service. -/
def Store.servingLookup (st : Store) : Bool :=
  match st.service with
  | some (.lookup ..) => true
  | _ => false

/-! ## CONFIGURE STORE (R33, R34, R52) -/

/-- An allotment value of check 1 of R33. -/
def allotmentOk (d : Nat) : Bool := d == 0 || (decide (512 ≤ d ∧ d ≤ 65536) && d % 256 == 0)

/-- The checks of R33, in their order. -/
def configureStoreCheck (pairs : List (Nat × Nat)) (s : State) : Option Status :=
  if !pairs.all (fun p => allotmentOk p.1) then some .badArgument
  else if 65536 < (pairs.map Prod.fst).sum then some .badArgument
  else if !pairs.all (fun p => p.1 == 0 || decide (64 ≤ p.2 ∧ p.2 ≤ p.1 / 2)) then some .badArgument
  else if allEight.any (fun i => (s.stream i).enabled) then some .inUse
  else if s.clips.any (fun c => c.2.state = .protecting ∨ c.2.state = .protected_) then some .inUse
  else if !allFour.all (fun ch => (s.channel ch).state = .idle) then some .inUse
  else none

/-- The allotment laid out from slot `start` (R34). -/
def layOut (start : Nat) (p : Nat × Nat) : Allotment :=
  if p.1 = 0 then {} else { size := p.1, first := some start, floor := p.2, cursor := some start }

/-- The eight allotments laid out as consecutive slot ranges in stream order (R34). -/
def layOutAll (p : Eight (Nat × Nat)) : Eight Allotment :=
  let s1 := p.z0.1
  let s2 := s1 + p.z1.1
  let s3 := s2 + p.z2.1
  let s4 := s3 + p.z3.1
  let s5 := s4 + p.z4.1
  let s6 := s5 + p.z5.1
  let s7 := s6 + p.z6.1
  ⟨layOut 0 p.z0, layOut s1 p.z1, layOut s2 p.z2, layOut s3 p.z3, layOut s4 p.z4, layOut s5 p.z5, layOut s6 p.z6,
    layOut s7 p.z7⟩

/-- The entry in service when CONFIGURE STORE is taken: a fetch stays and completes marked superseded, a withdrawn
lookup's service ends at once (R52). -/
def supersede : ReadEntry → Option ReadEntry
  | .fetch ch slot gen role current _ => some (.fetch ch slot gen role current true)
  | .lookup .. => none

/-- The Frame Store after CONFIGURE STORE is taken (R34, R52); the stacked DRAM keeps its contents. -/
def Store.configure (pairs : Eight (Nat × Nat)) (st : Store) : Store :=
  { st with
    configured := true
    allotments := layOutAll pairs
    slots := []
    queue := []
    service := st.service.bind supersede }

/-- A stream's keys become absent (R16, R34). -/
def Stream.forget (r : Stream) : Stream := { r with lastKey := none, originKey := none }

/-- Every stream's keys become absent (R34). -/
def forgetKeys (t : Eight Stream) : Eight Stream :=
  ⟨t.z0.forget, t.z1.forget, t.z2.forget, t.z3.forget, t.z4.forget, t.z5.forget, t.z6.forget, t.z7.forget⟩

def Eight.toList {α : Type} (t : Eight α) : List α := [t.z0, t.z1, t.z2, t.z3, t.z4, t.z5, t.z6, t.z7]

/-- CONFIGURE STORE (R33, R34): the reply carries each stream's first slot. -/
def configureStore (pairs : Eight (Nat × Nat)) (s : State) : Answer :=
  match configureStoreCheck (Eight.toList pairs) s with
  | some st => refuse st s
  | none =>
    let s1 := { s with
      store := s.store.configure pairs
      streams := forgetKeys s.streams
      engine := { s.engine with withdrawn := false } }
    accept ((Eight.toList s1.store.allotments).flatMap fun a => optional (be 2) a.first) s1

/-- CONFIGURE_STORE. -/
def execConfigureStore (o : Origin) (pairs : Eight (Nat × Nat)) (s : State) : Host.Outcome State Fault Refusal :=
  takeRequest o 4 (configureStore pairs) s

end Sys2Proof.Machine
end

