-- ==== Sys2Proof/Machine/Position.lean ====
section
/-! DEFINITION. Where a channel is and may be: the stream it plays, its base, its bounds (chapters 6 and 7). -/

namespace Sys2Proof.Machine

/-- The clip a channel is bound to, if it is bound to one that the table holds. -/
def State.boundClip (s : State) (ch : Fin 4) : Option Clip :=
  match (s.channel ch).binding with
  | .clip id _ => s.clip id
  | _ => none

/-- The stream a channel plays: the stream at its angle index in the clip's angle list, or the stream of a free binding
(R92, R120). -/
def State.playedStream (s : State) (ch : Fin 4) : Option (Fin 8) :=
  match (s.channel ch).binding with
  | .clip id angle => (s.clip id).bind fun c => c.angles[angle]?
  | .free _ stream => some stream
  | .unbound => none

/-- The grain time positions are measured from: the clip's in-point, or the cue origin (R92). -/
def State.base (s : State) (ch : Fin 4) : Nat :=
  match (s.channel ch).binding with
  | .clip id _ => (s.clip id).elim 0 Clip.inPoint
  | .free origin _ => origin
  | .unbound => 0

/-- A channel's relative position: p − in, or p − cue origin, signed for a free channel (section 8.5). -/
def State.relative (s : State) (ch : Fin 4) : Int := ((s.channel ch).position : Int) - s.base ch

/-- The bounds of a free channel on a stream: its recall start and live edge (R101, R116). -/
def State.streamBounds (s : State) (i : Fin 8) : Option (Nat × Nat) :=
  match s.recallStart i, s.liveEdge i with
  | some lo, some hi => some (lo, hi)
  | _, _ => none

/-- A channel's bounds: the clip's in and out points, or the recall start and live edge of the stream (R101). -/
def State.bounds (s : State) (ch : Fin 4) : Option (Nat × Nat) :=
  match (s.channel ch).binding with
  | .clip id _ => (s.clip id).bind fun c => c.outPoint.map fun out => (c.inPoint, out)
  | .free _ stream => s.streamBounds stream
  | .unbound => none

/-- A signed position clamped to bounds; without bounds, which no run from reset shows, it is only kept from going
below 0 (log entry 20). -/
def clampTo (b : Option (Nat × Nat)) (x : Int) : Nat :=
  match b with
  | some (lo, hi) => clampPos lo hi x
  | none => x.toNat

/-- The binding as a channel notice names it (R119, R159). -/
def Binding.boundTo : Binding → BoundTo
  | .clip id _ => .clip id
  | .free _ stream => .free stream.val
  | .unbound => .free 0

/-- A clip's use count falls by one when a channel bound to it leaves it (R59). -/
def leaveClip (b : Binding) (s : State) : State :=
  match b with
  | .clip id _ =>
    match s.clips.find id with
    | none => s
    | some c => { s with clips := s.clips.insert id { c with useCount := c.useCount - 1 } }
  | _ => s

/-- A clip's use count rises by one when a channel binds to it (R59). -/
def joinClip (b : Binding) (s : State) : State :=
  match b with
  | .clip id _ =>
    match s.clips.find id with
    | none => s
    | some c => { s with clips := s.clips.insert id { c with useCount := c.useCount + 1 } }
  | _ => s

/-- A position set by a request or a cue; one that lowers p flags the scanner for re-seek (R140). -/
def Channel.moveTo (p : Nat) (c : Channel) : Channel :=
  { c with position := p
           scanner := { c.scanner with reseek := c.scanner.reseek || decide (p < c.position) } }

/-- The length in cues of a channel's cue list (R137). -/
def Channel.listLength (c : Channel) : Nat := c.cueBinding.elim 0 fun b => 32 * b.count

/-- Whether a page belongs to a channel's cue list (R137). -/
def Channel.listHas (page : Nat) (c : Channel) : Bool :=
  c.cueBinding.any fun b => decide (b.first ≤ page ∧ page < b.first + b.count)

/-- Whether a page of the channel's cue list is UPDATING (R130, R135). -/
def State.listUpdating (s : State) (ch : Fin 4) : Bool := s.cues.commit.any fun p => (s.channel ch).listHas p

/-- A scanner reset (R138): WAITING without a cue list, ACTIVE with one; index 0, no last mark, re-seek flag set. -/
def Channel.resetScanner (c : Channel) : Channel :=
  { c with scanner :=
    { state := if c.cueBinding.isSome then .active else .waiting, index := 0, lastMark := none, reseek := true } }

/-- The scanner reset with the return stack emptied and CUE_FAULT removed (R96, R134, R137). -/
def Channel.clearCues (c : Channel) : Channel :=
  { c.resetScanner with stack := [], conditions := { c.conditions with cueFault := false } }

end Sys2Proof.Machine
end

