-- ==== Sys2Proof/Machine/Scanner.lean ====
section
/-! DEFINITION. The cue scanner (sections 8.5 to 8.7): matching, re-seek, scan, cue effects, and the scan of a wrap. -/

namespace Sys2Proof.Machine

/-- Whether a cue matches the channel's pass: pass count modulo pass repeat equals pass first (R129). -/
def cueMatches (q : CueRecord) (pass : Nat) : Bool := decide (pass % q.passRepeat = q.passFirst)

/-- The cue at a list index of a channel's cue list, read from cue memory (R137). -/
def State.cueAt (s : State) (c : Channel) (index : Nat) : CueRecord :=
  match c.cueBinding with
  | none => blankCue
  | some b => (s.cues.pages.getD (b.first + index / 32) []).getD (index % 32) blankCue

/-- The action a LINE cue carries (R128). -/
def lineCueAction (n : Nat) : LineAction := (LineAction.ofCode n).getD .set

/-! ## Small scanner moves -/

/-- The scanner is given a new state (R138). -/
def Channel.scannerTo (st : ScannerState) (c : Channel) : Channel := { c with scanner := { c.scanner with state := st } }

/-- The index moves to the next cue; past the last cue of the list the state becomes ENDED (R141). -/
def Channel.nextCue (c : Channel) : Channel :=
  let i := c.scanner.index + 1
  { c with scanner := { c.scanner with
      index := i
      state := if c.listLength ≤ i then .ended else c.scanner.state } }

/-- A cue has been executed: its mark becomes the last executed mark and the index moves on (R141). -/
def Channel.executed (mark : Nat) (c : Channel) : Channel :=
  Channel.nextCue { c with scanner := { c.scanner with lastMark := some mark } }

/-- A cue warning enters the set, with a CUE_WARNING notice when it was not already there (R148). -/
def warnCue (ch : Fin 4) (w : Warning) (index time : Nat) (s : State) : State :=
  if (s.channel ch).warnings.has w then s
  else raise time (.cueWarning ch w index) (s.onChannel ch (Channel.warn w))

/-! ## Cue effects (section 8.6) -/

/-- An ANGLE cue (R144): the state, and whether it lowered p. -/
def angleCue (ch : Fin 4) (n index time : Nat) (s : State) : State × Bool :=
  match (s.channel ch).binding with
  | .clip id _ =>
    if n < (s.clip id).elim 0 (fun c => c.angles.length) then
      (s.onChannel ch fun c => { c with binding := .clip id n }, false)
    else (warnCue ch .cueRange index time s, false)
  | .free origin _ =>
    match recordNo 8 n with
    | none => (warnCue ch .cueRange index time s, false)
    | some i =>
      match s.streamBounds i with
      | none => (warnCue ch .cueRange index time s, false)
      | some (lo, hi) =>
        let p := clampPos lo hi (s.channel ch).position
        (s.onChannel ch fun c => { c.moveTo p with binding := .free origin i }, decide (p < (s.channel ch).position))
  | .unbound => (s, false)

/-- The position a target mark names, from the channel's base: within the clip's span, or within the free channel's
bounds (R145, R146). -/
def State.markPosition (s : State) (ch : Fin 4) (target : Int) : Nat :=
  clampTo (s.bounds ch) ((s.base ch : Int) + target)

/-- A JUMP cue (R145): the return entry is pushed, the oldest being discarded from a full stack of 8; p becomes the
target, unless the channel is in BREAK, where it stays at the out-point (R150); the re-seek flag is set. -/
def jumpCue (ch : Fin 4) (target index time : Nat) (s : State) : State :=
  let c := s.channel ch
  let entry : ReturnEntry := ⟨s.relative ch, index + 1⟩
  let s1 := if 8 ≤ c.stack.length then warnCue ch .stackOverflow index time s else s
  let p := if c.state = .inBreak then c.position else s.markPosition ch target
  s1.onChannel ch fun c =>
    { c with position := p, stack := (entry :: c.stack).take 8, scanner := { c.scanner with reseek := true } }

/-- A RETURN cue that pops an entry (R146): p and the index are restored, the last executed mark becomes absent and the
re-seek flag is cleared. -/
def returnCue (ch : Fin 4) (entry : ReturnEntry) (rest : List ReturnEntry) (s : State) : State :=
  let c := s.channel ch
  let p := if c.state = .inBreak then c.position else s.markPosition ch entry.position
  s.onChannel ch fun c =>
    { c with
      position := p
      stack := rest
      scanner :=
        { state := if c.listLength ≤ entry.index then .ended else c.scanner.state
          index := entry.index
          lastMark := none
          reseek := false } }

/-- A matching cue is executed by its type (R141, R143 to R146): the state, and whether the scan ends with it. -/
def executeCue (ch : Fin 4) (q : CueRecord) (time : Nat) (s : State) : State × Bool :=
  let c := s.channel ch
  let index := c.scanner.index
  let done : State → State := State.onChannel ch (Channel.executed q.mark)
  match q.body with
  | .speed target immediate =>
    (done (s.onChannel ch fun c =>
      { c with target := target, speed := if immediate = 1 then target else c.speed }), false)
  | .hold frames => (done (s.onChannel ch fun c => { c with hold := frames }), false)
  | .stop => (done (s.onChannel ch fun c => { c with speed := 0, target := 0 }), false)
  | .note tag => (done (raise time (.cueNote ch tag index q.mark c.passCount) s), false)
  | .line mask action length => (done (actOnLines (lineCueAction action) mask length s), false)
  | .angle n =>
    let r := angleCue ch n index time s
    (done r.1, r.2)
  | .jump target => (done (jumpCue ch target index time s), true)
  | .ret =>
    match c.stack with
    | [] => (done (warnCue ch .returnEmpty index time s), false)
    | e :: rest => (returnCue ch e rest s, true)
  | .listEnd | .other _ => (s, true)

/-- The out-of-order fault: the scanner becomes FAULTED with the index on the cue, and the channel gains CUE_FAULT
(R142). -/
def cueFault (ch : Fin 4) (q : CueRecord) (last time : Nat) (s : State) : State :=
  raise time (.cueFault ch (s.channel ch).scanner.index q.mark last)
    (s.onChannel ch fun c =>
      { c.scannerTo .faulted with conditions := { c.conditions with cueFault := true } })

/-! ## Scan and re-seek (R140, R141) -/

/-- Whether a matching cue's mark is below the last executed mark (R141, R142). -/
def outOfOrder (last : Option Nat) (mark : Nat) : Bool := last.any fun m => decide (mark < m)

/-- A scan with a limit (R141). The fuel is the number of cues that can still be considered. -/
def scanLoop (ch : Fin 4) (limit : Int) (time : Nat) : Nat → State → State
  | 0, s => s
  | n + 1, s =>
    let c := s.channel ch
    if c.listLength ≤ c.scanner.index then s.onChannel ch (Channel.scannerTo .ended)
    else
      let q := s.cueAt c c.scanner.index
      if q.body = .listEnd then s.onChannel ch (Channel.scannerTo .ended)
      else if !cueMatches q c.passCount then scanLoop ch limit time n (s.onChannel ch Channel.nextCue)
      else if limit < q.mark then s.onChannel ch (Channel.scannerTo .active)
      else if outOfOrder c.scanner.lastMark q.mark then cueFault ch q (c.scanner.lastMark.getD 0) time s
      else
        let r := executeCue ch q time s
        if r.2 then r.1 else scanLoop ch limit time n r.1

/-- A scan over what is left of the channel's list (R141). -/
def scan (ch : Fin 4) (limit : Int) (time : Nat) (s : State) : State :=
  scanLoop ch limit time ((s.channel ch).listLength + 1) s

/-- The first matching cue with a mark at or above `from_`, looked for from a list index up to the first LIST_END or the
end of the list (R140). -/
def findCue (s : State) (c : Channel) (from_ : Int) : Nat → Nat → Option Nat
  | 0, _ => none
  | n + 1, i =>
    if c.listLength ≤ i then none
    else
      let q := s.cueAt c i
      if q.body = .listEnd then none
      else if cueMatches q c.passCount && decide (from_ ≤ q.mark) then some i
      else findCue s c from_ n (i + 1)

/-- The re-seek (R140): the flag is cleared and the last mark made absent, then the index takes the cue found, or the
state becomes ENDED. -/
def reseek (ch : Fin 4) (from_ : Int) (s : State) : State :=
  let c := s.channel ch
  let found := findCue s c from_ (c.listLength + 1) 0
  s.onChannel ch fun c =>
    { c with scanner :=
      { state := if found.isSome then .active else .ended
        index := found.getD c.scanner.index
        lastMark := none
        reseek := false } }

/-- Part (b3) of a step, when the conditions of R139 on the channel hold: re-seek if flagged, then scan (R139 to R141).
`from_` and `limit` are the relative positions of p0 and p1. A re-seek that finds no cue leaves nothing to scan. -/
def cueScan (ch : Fin 4) (from_ limit : Int) (time : Nat) (s : State) : State :=
  let s1 := if (s.channel ch).scanner.reseek then reseek ch from_ s else s
  if (s1.channel ch).scanner.state = .active then scan ch limit time s1 else s1

/-- Whether the scanner may run: ACTIVE, or ENDED with the re-seek flag set, and the speed source PROGRAM (R139). -/
def Channel.mayScan (c : Channel) : Bool :=
  decide (c.source = .program) &&
    (decide (c.scanner.state = .active) || (decide (c.scanner.state = .ended) && c.scanner.reseek))

/-! ## The scanner at a loop wrap (R147) -/

/-- The scanner and return stack in the event of a wrap: the cues at mark 0 that match the new pass are executed (R147),
whatever the speed source (log entry 34). -/
def wrapScan (ch : Fin 4) (time : Nat) (s : State) : State :=
  let s1 := s.onChannel ch fun c => { c with stack := [] }
  match (s.channel ch).scanner.state with
  | .faulted => s1.onChannel ch fun c => { c with scanner := { c.scanner with index := 0, lastMark := none } }
  | .waiting => s1
  | _ =>
    scan ch 0 time (s1.onChannel ch fun c =>
      { c with scanner := { state := .active, index := 0, lastMark := none, reseek := false } })

end Sys2Proof.Machine
end

