-- ==== Sys2Proof/Machine/Breaks.lean ====
section
/-! DEFINITION. Passes, wraps and pass breaks (chapter 9): sampling a break request, the wrap, the three ends of a
break, REQUEST BREAK and CONTINUE. -/

namespace Sys2Proof.Machine

/-- The source a standing break request has at a pass start: the flag, or an active BREAK_REQUEST line; none when no
request stands (R153). -/
def breakSource (ch : Fin 4) (s : State) : Option BreakSource :=
  if (s.channel ch).breakRequested then some .request
  else if breakLineActive ch s then some .line
  else none

/-- The pass that starts is announced when a request stands, and the requested flag is cleared (R153). -/
def Channel.announce (src : Option BreakSource) (c : Channel) : Channel :=
  if src.isSome then { c with breakAnnounced := true, breakRequested := false } else c

/-- The BREAK_AHEAD notice of a pass start that announces its pass (R153, R159). -/
def raiseAhead (ch : Fin 4) (src : Option BreakSource) (time : Nat) (s : State) : State :=
  match src with
  | none => s
  | some b =>
    let c := s.channel ch
    raise time (.breakAhead ch c.binding.boundTo c.passCount b c.config.endAction) s

/-- The break request is sampled at a pass start (R153). -/
def sampleBreak (ch : Fin 4) (time : Nat) (s : State) : State :=
  let src := breakSource ch s
  raiseAhead ch src time (s.onChannel ch (Channel.announce src))

/-- Actions 1 to 4 of a wrap (R151): p is the in-point, announcement and timer are cleared, the pass count advances, and
the channel is RUNNING. A lowered p flags the scanner (R140); the wrap's own scan then clears the flag where it resets the
scanner (R147, log entry 22). -/
def Channel.newPass (tin : Nat) (c : Channel) : Channel :=
  { c.moveTo tin with
    breakAnnounced := false
    breakTimer := 0
    passCount := (c.passCount + 1) % c.config.passPeriod
    state := .running }

/-- A wrap (R151), with the cause of the break it ends, if it ends one (R157). BREAK_END is raised before BREAK_AHEAD,
and both before the CUE notices of the mark-0 scan (R159). -/
def wrap (ch : Fin 4) (cause : Option BreakCause) (time : Nat) (s : State) : State :=
  let s1 := s.onChannel ch (Channel.newPass (s.base ch))
  let src := breakSource ch s1
  let s2 := s1.onChannel ch (Channel.announce src)
  let c := s2.channel ch
  let s3 := match cause with
    | none => s2
    | some b => raise time (.breakEnd ch c.binding.boundTo b c.passCount c.breakAnnounced) s2
  wrapScan ch time (raiseAhead ch src time s3)

/-- A break ends by a request or a line edge, in the event that ends it (R155 to R157). -/
def endBreak (ch : Fin 4) (cause : BreakCause) (s : State) : State :=
  settleFault ch s.houseTime (wrap ch (some cause) s.houseTime s)

/-- Part (b4) of a BREAK step (R154): a timer above 0 falls by one, and at 0 the break ends with cause TIMER. -/
def breakTimerStep (ch : Fin 4) (time : Nat) (s : State) : State :=
  let t := (s.channel ch).breakTimer
  if t = 0 then s
  else
    let s1 := s.onChannel ch fun c => { c with breakTimer := t - 1 }
    if t = 1 then wrap ch (some .timer) time s1 else s1

/-- A BREAK_END edge at its channel (R156). -/
def breakEndEdge (ch : Fin 4) (s : State) : State :=
  if (s.channel ch).state = .inBreak then endBreak ch .line s else s

/-- The break flags in a reply: requested, announced (R152, R155). -/
def Channel.breakFlags (c : Channel) : List Byte := flag c.breakRequested ++ flag c.breakAnnounced

/-- REQUEST BREAK (R152). -/
def requestBreak (ch : Fin 4) (s : State) : Answer :=
  if (s.channel ch).playing then
    let s1 := s.onChannel ch fun c => { c with breakRequested := true }
    accept (s1.channel ch).breakFlags s1
  else refuse .refusedState s

/-- CONTINUE (R155): results ENDED 1, CANCELLED 2, NONE 3, and the break flags. -/
def continueBreak (ch : Fin 4) (s : State) : Answer :=
  let c := s.channel ch
  match c.state with
  | .halted _ => refuse .refusedState s
  | .inBreak =>
    let s1 := endBreak ch .continue_ s
    accept (be 1 1 ++ (s1.channel ch).breakFlags) s1
  | .running =>
    if c.breakAnnounced then
      let s1 := s.onChannel ch fun c => { c with breakAnnounced := false }
      accept (be 1 2 ++ (s1.channel ch).breakFlags) s1
    else accept (be 1 3 ++ c.breakFlags) s
  | _ => accept (be 1 3 ++ c.breakFlags) s

/-- REQUEST_BREAK. -/
def execRequestBreak (o : Origin) (ch : Nat) (s : State) : Host.Outcome State Fault Refusal :=
  takeRequest o 35 (onChannelNo ch requestBreak) s

/-- CONTINUE. -/
def execContinue (o : Origin) (ch : Nat) (s : State) : Host.Outcome State Fault Refusal :=
  takeRequest o 36 (onChannelNo ch continueBreak) s

end Sys2Proof.Machine
end

