-- ==== Sys2Proof/Machine/Clips.lean ====
section
/-! DEFINITION. Marks and the Clip Table (chapter 4): mark groups, the clip list, the three marks, recycling, the mark
latches, and the clip requests. -/

namespace Sys2Proof.Machine

/-- The number of clips the table holds (R56). -/
def maxClips : Nat := 512

/-- The largest grain time: 2^52 − 1 (section "Units"). -/
def maxGrain : Nat := 2 ^ 52 - 1

/-! ## The clip list (R57) -/

/-- Clip-list order: by in-point, and by id among equal in-points (R57). -/
def clipBefore (a b : Nat × Clip) : Bool :=
  decide (a.2.inPoint < b.2.inPoint ∨ (a.2.inPoint = b.2.inPoint ∧ a.1 < b.1))

/-- A clip joins the list at the position its in-point and id give it (R57). -/
def joinList (e : Nat × Clip) : List (Nat × Clip) → List (Nat × Clip)
  | [] => [e]
  | f :: l => if clipBefore e f then e :: f :: l else f :: joinList e l

/-- The clip list: every clip of the table in order (R57). -/
def clipList (t : Table Clip) : List (Nat × Clip) := t.foldr joinList []

/-- The lowest id that no clip holds (R56). -/
def lowestFree (t : Table Clip) : Option Nat := (List.range maxClips).find? fun n => (t.find n).isNone

/-- The slots a protection holds: every slot of its extents (R81). -/
def Extent.slots (e : Extent) : List Nat := (List.range e.count).map (e.firstSlot + ·)

def Protection.slots (p : Protection) : List Nat := p.extents.flatten.flatMap Extent.slots

/-- A clip changes where it stands. -/
def State.onClip (id : Nat) (f : Clip → Clip) (s : State) : State :=
  match s.clips.find id with
  | none => s
  | some c => { s with clips := s.clips.insert id (f c) }

/-! ## Making room and creating (R56, R67) -/

/-- Whether recycling may take a clip: CLOSED, use count 0, and an out-point before the recall start of every stream of
its angle list (R67). -/
def recyclable (s : State) (c : Clip) : Bool :=
  decide (c.state = .closed ∧ c.useCount = 0) &&
    c.angles.all fun i =>
      match c.outPoint, s.recallStart i with
      | some out, some start => decide (out < start)
      | _, _ => false

/-- Room for one more clip: there is some, or recycling drops the first eligible clip in list order (R67). -/
def makeRoom (g : Fin 4) (s : State) : Except Status State :=
  if s.clips.length < maxClips then .ok s
  else if !(s.group g).recycle then .error .tableFull
  else
    match (clipList s.clips).find? fun e => recyclable s e.2 with
    | none => .error .tableFull
    | some (id, c) =>
      .ok (raise s.houseTime (.clipDropped id c.group c.inPoint c.outPoint .recycled)
        { s with clips := s.clips.erase id })

/-- A new clip of a group: the lowest free id, and a copy of the group's angle list (R54, R56, R67). -/
def createClip (g : Fin 4) (st : ClipState) (tin : Nat) (tout : Option Nat) (s : State) :
    Except Status (Nat × Clip × State) :=
  match makeRoom g s with
  | .error e => .error e
  | .ok s1 =>
    match lowestFree s1.clips with
    | none => .error .tableFull
    | some id =>
      let c : Clip := { group := g, state := st, inPoint := tin, outPoint := tout, angles := (s1.group g).angles }
      .ok (id, c, { s1 with clips := s1.clips.insert id c })

/-! ## The three marks (section 4.3) -/

/-- CLOSED when the out-point is at or before now, CLOSING when it is later (R62 to R64). -/
def closedBy (out now : Nat) : ClipState := if out ≤ now then .closed else .closing

/-- A mark that succeeded: the clip it made or changed, its result, and the state. -/
structure Marked where
  id : Nat
  clip : Clip
  result : MarkResult
  state : State

/-- The group's open clip with its id (R54). -/
def openClipOf (g : Fin 4) (s : State) : Option (Nat × Clip) :=
  (s.group g).openClip.bind fun id => (s.clip id).map fun c => (id, c)

/-- MARK IN at time `t` on a group: a re-mark of its open clip, or a new OPEN clip (R61). -/
def markIn (g : Fin 4) (t : Nat) (s : State) : Except Status Marked :=
  if s.houseTime < t then .error .badArgument
  else
    match openClipOf g s with
    | some (id, c) =>
      let c' := { c with inPoint := t }
      .ok ⟨id, c', .remarked, { s with clips := s.clips.insert id c' }⟩
    | none =>
      match createClip g .opened t none s with
      | .error e => .error e
      | .ok (id, c, s1) => .ok ⟨id, c, .opened, s1.onGroup g fun r => { r with openClip := some id }⟩

/-- MARK OUT at time `t` on a group: the open clip gets its out-point (R62), or a clip of the default length ending at
`t` is created (R63). -/
def markOut (g : Fin 4) (t : Nat) (s : State) : Except Status Marked :=
  match openClipOf g s with
  | some (id, c) =>
    if t ≤ c.inPoint ∨ 2 ^ 31 < t - c.inPoint then .error .badArgument
    else
      let c' := { c with outPoint := some t, state := closedBy t s.houseTime }
      .ok ⟨id, c', .closedOut,
        ({ s with clips := s.clips.insert id c' }).onGroup g fun r => { r with openClip := none }⟩
  | none =>
    let tin := t - (s.group g).defaultLength * 2880
    if t ≤ tin then .error .badArgument
    else
      match createClip g (closedBy t s.houseTime) tin (some t) s with
      | .error e => .error e
      | .ok (id, c, s1) => .ok ⟨id, c, .createdOut, s1⟩

/-- MARK SPOT at time `t` on a group: a clip around `t` (R64). -/
def markSpot (g : Fin 4) (t : Nat) (s : State) : Except Status Marked :=
  let r := s.group g
  let tin := t - r.preRoll * 2880
  let tout := if r.postRoll = 0 then t + 1 else t + r.postRoll * 2880
  if maxGrain < tout then .error .badArgument
  else
    match createClip g (closedBy tout s.houseTime) tin (some tout) s with
    | .error e => .error e
    | .ok (id, c, s1) => .ok ⟨id, c, .createdSpot, s1⟩

/-- A mark performed at time `t` on a group: checks 1 to 3 of R60, the mark's own rule, and the CLIP_MARKED notice
(R65), with the line number of a mark made through a latch. -/
def performMark (k : MarkKind) (g : Fin 4) (t : Nat) (line : Option (Fin 8)) (s : State) : Except Status Marked :=
  if maxGrain < t then .error .badArgument
  else if s.timer.state = .unlocked then .error .noReference
  else
    let run := match k with
      | .markIn => markIn g t s
      | .markOut => markOut g t s
      | .markSpot => markSpot g t s
    match run with
    | .error e => .error e
    | .ok m =>
      let note := NoticeBody.clipMarked m.id g m.result m.clip.state m.clip.inPoint m.clip.outPoint line
      .ok { m with state := raise s.houseTime note m.state }

/-- The results of a mark's reply: id, state, in-point, out-point where the clip has one, mark result (R61 to R64). The reply
of a TAKE LATCH is the mark's own (R75), so an OPEN clip has neither out-point nor presence byte there (log entry 33). -/
def Marked.results (m : Marked) : List Byte :=
  be 2 m.id ++ be 1 m.clip.state.code ++ be 7 m.clip.inPoint ++
    (match m.clip.outPoint with
      | none => []
      | some out => be 7 out) ++ be 1 m.result.code

/-- The answer of a mark made by a request. -/
def answerMark (r : Except Status Marked) (s : State) : Answer :=
  match r with
  | .error e => refuse e s
  | .ok m => accept m.results m.state

/-- A mark request (R60): the group and the time are read, then the mark is performed. -/
def markRequest (k : MarkKind) (group : Nat) (time : MarkTime) (s : State) : Answer :=
  match recordNo 4 group with
  | none => refuse .badArgument s
  | some g =>
    let t := match time with
      | .now => s.houseTime
      | .explicit t => t
    answerMark (performMark k g t none s) s

/-! ## Closing at boundaries (R66) -/

/-- One clip at a boundary: a CLOSING clip whose out-point has come becomes CLOSED, with its notice (R66). -/
def closeClip (time : Nat) (s : State) (e : Nat × Clip) : State :=
  match e.2.state, e.2.outPoint with
  | .closing, some out =>
    if out ≤ time then
      raise time (.clipClosed e.1 e.2.inPoint (some out))
        { s with clips := s.clips.insert e.1 { e.2 with state := .closed } }
    else s
  | _, _ => s

/-- The Clip Table at a boundary whose house time is `time`; notices in clip list order (R66). -/
def closeClips (time : Nat) (s : State) : State := (clipList s.clips).foldl (closeClip time) s

/-! ## Mark latches (section 4.7) -/

/-- The mark an automatic action performs (R74). -/
def MarkAction.kind : MarkAction → Option MarkKind
  | .latchOnly => none
  | .autoIn => some .markIn
  | .autoOut => some .markOut
  | .autoSpot => some .markSpot

/-- An inactive-to-active edge of a MARK line at its latch (R73, R74). -/
def latchEdge (n : Fin 8) (s : State) : State :=
  let l := s.line n
  if (s.latch n).captured.isSome then s.onLatch n fun t => { t with overrun := bump t.overrun }
  else if s.timer.state = .unlocked then s.onLatch n fun t => { t with ignored := bump t.ignored }
  else
    let now := s.houseTime
    let s1 := s.onLatch n fun t => { t with captured := some now }
    match l.markAction.kind with
    | none => raise now (.markCaptured n l.markGroup now) s1
    | some k =>
      match performMark k l.markGroup now (some n) s1 with
      | .ok m => m.state.onLatch n fun t => { t with captured := none }
      | .error e => raise now (.markFailed n l.markAction l.markGroup now e) s1

/-- TAKE LATCH on a line with a captured time (R75). -/
def takeCaptured (n : Fin 8) (a : TakeAction) (g : Fin 4) (t : Nat) (s : State) : Answer :=
  let empty : State → State := State.onLatch n fun r => { r with captured := none }
  match a with
  | .discard => accept [] (empty s)
  | .mark k =>
    match performMark k g t (some n) s with
    | .error e => refuse e s
    | .ok m => accept m.results (empty m.state)

/-- TAKE LATCH (R75). -/
def takeLatch (line action group : Nat) (s : State) : Answer :=
  match recordNo 8 line, TakeAction.ofCode action, recordNo 4 group with
  | some n, some a, some g =>
    match (s.latch n).captured with
    | none => refuse .notFound s
    | some t => takeCaptured n a g t s
  | _, _, _ => refuse .badArgument s

/-! ## Mark groups (R55) -/

/-- SET MARK GROUP (R55). -/
def setMarkGroup (group : Nat) (angles : List Nat) (defaultLength preRoll postRoll recycle : Nat) (s : State) :
    Answer :=
  match recordNo 4 group, anglesArg angles, flagArg recycle with
  | some g, some l, some r =>
    if 1 ≤ defaultLength ∧ defaultLength ≤ 3000 ∧ 1 ≤ preRoll ∧ preRoll ≤ 3000 ∧ postRoll ≤ 3000 then
      accept [] (s.onGroup g fun m =>
        { m with angles := l, defaultLength := defaultLength, preRoll := preRoll, postRoll := postRoll, recycle := r })
    else refuse .badArgument s
  | _, _, _ => refuse .badArgument s

/-- A stream number in a reply. -/
def streamByte (i : Fin 8) : List Byte := be 1 i.val

/-- READ MARK GROUP: the group's six fields (R55). -/
def readMarkGroup (group : Nat) (s : State) : Answer :=
  match recordNo 4 group with
  | none => refuse .badArgument s
  | some g =>
    let m := s.group g
    accept (counted 1 streamByte m.angles ++ be 2 m.defaultLength ++ be 2 m.preRoll ++ be 2 m.postRoll ++
      flag m.recycle ++ optional (be 2) m.openClip) s

/-! ## Clip requests (section 4.6) -/

/-- Carries out a request on the clip an id names: out of range is refused BAD_ARGUMENT, an id no clip holds NOT_FOUND
(R68, R69, R71, R78, R88). -/
def onClipNo (id : Nat) (run : Clip → State → Answer) (s : State) : Answer :=
  if maxClips ≤ id then refuse .badArgument s
  else
    match s.clip id with
    | none => refuse .notFound s
    | some c => run c s

/-- SET CLIP LABEL (R68). -/
def setClipLabel (id : Nat) (label : List Byte) (s : State) : Answer :=
  if 16 < label.length then refuse .badArgument s
  else onClipNo id (fun _ s => accept [] (s.onClip id fun c =>
    { c with label := if label = [] then none else some label })) s

/-- A clip leaves the table, and its group when it was the group's open clip (R69). -/
def removeClip (id : Nat) (c : Clip) (s : State) : State :=
  let s1 := { s with clips := s.clips.erase id }
  if (s.group c.group).openClip = some id then s1.onGroup c.group fun m => { m with openClip := none } else s1

/-- DROP CLIP: a PROTECTED clip has its holds released first, in the same event (R69, R90). -/
def dropClip (id : Nat) (s : State) : Answer :=
  onClipNo id (fun c s =>
    if c.state = .protecting then refuse .busy s
    else if c.useCount ≠ 0 then refuse .inUse s
    else
      let slots := match c.protection with
        | some p => p.slots
        | none => []
      accept [] (raise s.houseTime (.clipDropped id c.group c.inPoint c.outPoint .requested)
        (removeClip id c (releaseHolds slots s)))) s

/-- The summary of a clip (R70). The number of angles is sent once, as the count of the angle list (log entry 42). -/
def clipSummary (e : Nat × Clip) : List Byte :=
  let c := e.2
  be 2 e.1 ++ be 1 c.group.val ++ be 1 c.state.code ++ be 7 c.inPoint ++ optional (be 7) c.outPoint ++
    counted 1 streamByte c.angles ++ be 1 c.useCount ++ optional (be 4) (c.protection.map Protection.holes) ++
    optional (counted 1 fun b => [b]) c.label

/-- LIST CLIPS (R70). -/
def listClips (start count : Nat) (s : State) : Answer :=
  if maxClips ≤ start ∨ count = 0 ∨ 16 < count then refuse .badArgument s
  else
    accept (be 2 s.clips.length ++ be 2 start ++ counted 1 clipSummary (((clipList s.clips).drop start).take count)) s

/-- An extent in a reply (R81). -/
def extentBytes (e : Extent) : List Byte := be 6 e.firstKey ++ be 4 e.count ++ be 2 e.firstSlot

/-- A clip's position in the clip list (R57). -/
def clipPosition (id : Nat) (t : Table Clip) : Nat := (clipList t).findIdx fun e => decide (e.1 = id)

/-- READ CLIP: the whole clip record (R71). One presence byte stands before the run of extent lists, which has no count of
its own (log entry 32). -/
def readClip (id : Nat) (s : State) : Answer :=
  onClipNo id (fun c s =>
    accept (clipSummary (id, c) ++ be 2 (clipPosition id s.clips) ++
      optional (fun p : Protection => p.extents.flatMap (counted 1 extentBytes)) c.protection) s) s

/-! ## Meanings -/

/-- SET_MARK_GROUP. -/
def execSetMarkGroup (o : Origin) (group : Nat) (angles : List Nat) (defaultLength preRoll postRoll recycle : Nat)
    (s : State) : Host.Outcome State Fault Refusal :=
  takeRequest o 5 (setMarkGroup group angles defaultLength preRoll postRoll recycle) s

/-- READ_MARK_GROUP. -/
def execReadMarkGroup (o : Origin) (group : Nat) (s : State) : Host.Outcome State Fault Refusal :=
  takeRequest o 6 (readMarkGroup group) s

/-- MARK_IN. -/
def execMarkIn (o : Origin) (group : Nat) (time : MarkTime) (s : State) : Host.Outcome State Fault Refusal :=
  takeRequest o 7 (markRequest .markIn group time) s

/-- MARK_OUT. -/
def execMarkOut (o : Origin) (group : Nat) (time : MarkTime) (s : State) : Host.Outcome State Fault Refusal :=
  takeRequest o 8 (markRequest .markOut group time) s

/-- MARK_SPOT. -/
def execMarkSpot (o : Origin) (group : Nat) (time : MarkTime) (s : State) : Host.Outcome State Fault Refusal :=
  takeRequest o 9 (markRequest .markSpot group time) s

/-- SET_CLIP_LABEL. -/
def execSetClipLabel (o : Origin) (id : Nat) (label : List Byte) (s : State) : Host.Outcome State Fault Refusal :=
  takeRequest o 10 (setClipLabel id label) s

/-- DROP_CLIP. -/
def execDropClip (o : Origin) (id : Nat) (s : State) : Host.Outcome State Fault Refusal :=
  takeRequest o 11 (dropClip id) s

/-- LIST_CLIPS. -/
def execListClips (o : Origin) (start count : Nat) (s : State) : Host.Outcome State Fault Refusal :=
  takeRequest o 12 (listClips start count) s

/-- READ_CLIP. -/
def execReadClip (o : Origin) (id : Nat) (s : State) : Host.Outcome State Fault Refusal :=
  takeRequest o 13 (readClip id) s

/-- TAKE_LATCH. -/
def execTakeLatch (o : Origin) (line action group : Nat) (s : State) : Host.Outcome State Fault Refusal :=
  takeRequest o 14 (takeLatch line action group) s

end Sys2Proof.Machine
end

