-- ==== Sys2Proof/Machine/Channels.lean ====
section
/-! DEFINITION. The channel requests (chapter 6). -/

namespace Sys2Proof.Machine

/-! ## Halting (R104) -/

/-- A channel becomes HALTED; one already HALTED keeps its first cause. Its fetches in flight become DISCARDED (R104,
R160). -/
def haltChannel (ch : Fin 4) (cause : HaltCause) (s : State) : State :=
  (s.onChannel ch fun c =>
    match c.state with
    | .halted _ => c
    | _ => { c with state := .halted cause }).onStore (Store.discardFetches ch)

/-- HALT (R104). -/
def halt (ch : Fin 4) (s : State) : Answer :=
  accept [] (settleFault ch s.houseTime (haltChannel ch .request s))

/-! ## Configuring (R94) -/

/-- Check 1 of R94, and the nine fields with the ramps clamped. -/
def channelArgs (a : ChannelArgs) : Option ChannelConfig :=
  match EndAction.ofCode a.endAction, MixMode.ofCode a.mixMode, Fill.ofCode a.fill, routeArg 255 a.route with
  | some e, some m, some f, some r =>
    if 1 ≤ a.shuttleHoldOff ∧ a.shuttleHoldOff ≤ 250 ∧ periodOk a.passPeriod ∧ a.breakLimit ≤ 15000 then
      some
        { programRamp := clampRamp a.programRamp
          shuttleRamp := clampRamp a.shuttleRamp
          shuttleHoldOff := a.shuttleHoldOff
          endAction := e
          passPeriod := a.passPeriod
          breakLimit := a.breakLimit
          mixMode := m
          fill := f
          route := r }
    else none
  | _, _, _, _ => none

/-- Whether a route is present and its link UP (R94 to R96). -/
def routeUp (s : State) (r : Option Route) : Bool := r.any fun r => (s.port r.link).up

/-- A channel's nine fields take new values; a changed pass period makes the pass count 0 (R94, R149). -/
def Channel.configure (k : ChannelConfig) (c : Channel) : Channel :=
  { c with config := k, passCount := if k.passPeriod = c.config.passPeriod then c.passCount else 0 }

/-- CONFIGURE CHANNEL (R94): a CUED, RUNNING or BREAK channel whose new route is absent or DOWN is HALTED with cause
ROUTE in the same event. -/
def configureChannel (a : ChannelArgs) (ch : Fin 4) (s : State) : Answer :=
  match channelArgs a with
  | none => refuse .badArgument s
  | some k =>
    let c := s.channel ch
    if c.onAir ∧ k.passPeriod ≠ c.config.passPeriod then refuse .refusedState s
    else
      let s1 := s.onChannel ch (Channel.configure k)
      let s2 := if c.playing && !routeUp s k.route then haltChannel ch .route s1 else s1
      accept [] (settleFault ch s.houseTime s2)

/-! ## Binding (R95, R96) -/

/-- A binding request checked: the binding and the position it gives, or the status of the first check that fails (R95,
checks 3 to 6). -/
def bindTo (f : BindForm) (s : State) : Except Status (Binding × Nat) :=
  match f with
  | .clip id angle offset =>
    if maxClips ≤ id then .error .badArgument
    else
      match s.clip id with
      | none => .error .notFound
      | some c =>
        if ¬(c.state = .closed ∨ c.state = .protecting ∨ c.state = .protected_) then .error .refusedState
        else if c.angles.length ≤ angle then .error .badArgument
        else .ok (.clip id angle, min (c.inPoint + offset) (c.outPoint.getD c.inPoint))
  | .free stream pos =>
    match recordNo 8 stream with
    | none => .error .badArgument
    | some i =>
      let inRange := match pos with
        | .absolute _ => true
        | .liveMinus n => decide (n ≤ 1048575)
      if !inRange then .error .badArgument
      else
        match s.streamBounds i with
        | none => .error .notFound
        | some (lo, hi) =>
          let x : Int := match pos with
            | .absolute t => t
            | .liveMinus n => (hi : Int) - n * 2880
          .ok (.free (clampPos lo hi x) i, clampPos lo hi x)

/-- Actions 2 to 7 of R96 on the channel record. -/
def Channel.bindAt (b : Binding) (p : Nat) (c : Channel) : Channel :=
  { c.clearCues with
    binding := b
    position := p
    speed := 0
    target := 0
    source := .program
    holdOff := 0
    hold := 0
    passCount := 0
    breakRequested := false
    breakAnnounced := false
    breakTimer := 0
    atLive := false
    state := .cued }

/-- BIND CHANNEL (R95, R96): the reply carries the new position and the stream played. -/
def bindChannel (f : BindForm) (ch : Fin 4) (s : State) : Answer :=
  let c := s.channel ch
  match c.state with
  | .halted _ => refuse .refusedState s
  | _ =>
    if !routeUp s c.config.route then refuse .notConfigured s
    else
      match bindTo f s with
      | .error e => refuse e s
      | .ok (b, p) =>
        let s1 := (joinClip b (leaveClip c.binding s)).onChannel ch (Channel.bindAt b p)
        accept (be 7 p ++ (s1.playedStream ch).elim (be 1 0) streamByte) (settleFault ch s.houseTime s1)

/-! ## Speed requests (R97 to R99) -/

/-- PLAY on the channel record (R97): target, immediate speed, speed source, hold-off counter and re-seek flag. -/
def Channel.play (v : Int) (immediate : Bool) (c : Channel) : Channel :=
  { c with
    target := v
    speed := if immediate then v else c.speed
    source := .program
    holdOff := 0
    scanner := { c.scanner with reseek := c.scanner.reseek || decide (c.source = .shuttle) } }

/-- PLAY (R97, R135): from CUED the state becomes RUNNING and a pass starts (R153). -/
def play (target : Int) (immediate : Bool) (ch : Fin 4) (s : State) : Answer :=
  let c := s.channel ch
  let v := clampSpeed target
  if !c.playing then refuse .refusedState s
  else if s.listUpdating ch then refuse .busy s
  else
    let s1 := s.onChannel ch (Channel.play v immediate)
    let s2 :=
      if c.state = .cued then sampleBreak ch s.houseTime (s1.onChannel ch fun c => { c with state := .running })
      else s1
    accept (beInt 2 v) s2

/-- STOP (R98): v becomes 0 with the immediate flag, and in BREAK, where both kept speeds become 0. -/
def stopPlay (immediate : Bool) (ch : Fin 4) (s : State) : Answer :=
  if !(s.channel ch).playing then refuse .refusedState s
  else
    accept [] (s.onChannel ch fun c =>
      { c with target := 0, speed := if immediate ∨ c.state = .inBreak then 0 else c.speed })

/-- SHUTTLE (R99, R135). -/
def shuttle (speed : Int) (ch : Fin 4) (s : State) : Answer :=
  let c := s.channel ch
  let v := clampSpeed speed
  if ¬(c.state = .cued ∨ c.state = .running) then refuse .refusedState s
  else if s.listUpdating ch then refuse .busy s
  else
    accept (beInt 2 v) (s.onChannel ch fun c =>
      { c with source := .shuttle, target := v, holdOff := c.config.shuttleHoldOff, hold := 0, state := .running })

/-! ## Position requests (R101 to R103) -/

/-- The native period of the stream a channel plays. -/
def State.playedPeriod (s : State) (ch : Fin 4) : Nat := (s.playedStream ch).elim 2880 s.period

/-- JOG (R101). -/
def jog (n : Int) (ch : Fin 4) (s : State) : Answer :=
  let c := s.channel ch
  if (c.state = .cued ∨ c.state = .running) ∧ c.speed = 0 ∧ c.target = 0 then
    let q := s.playedPeriod ch
    let x := ((c.position / q : Nat) + clampInt (-127) 127 n) * (q : Int)
    let p := clampTo (s.bounds ch) x
    accept (be 7 p) (s.onChannel ch (Channel.moveTo p))
  else refuse .refusedState s

/-- SEEK (R102). -/
def seek (f : SeekForm) (ch : Fin 4) (s : State) : Answer :=
  let c := s.channel ch
  if c.state = .cued ∨ c.state = .running then
    let x : Int := match f with
      | .relative offset => (s.base ch + offset : Nat)
      | .absolute t => t
    let p := clampTo (s.bounds ch) x
    accept (be 7 p) (s.onChannel ch fun c => { c.moveTo p with hold := 0 })
  else refuse .refusedState s

/-- ANGLE (R103). -/
def angle (n : Nat) (ch : Fin 4) (s : State) : Answer :=
  let c := s.channel ch
  if !c.playing then refuse .refusedState s
  else
    match c.binding with
    | .clip id _ =>
      if n < (s.clip id).elim 0 (fun c => c.angles.length) then
        accept (be 7 c.position) (s.onChannel ch fun c => { c with binding := .clip id n })
      else refuse .badArgument s
    | .free origin _ =>
      match recordNo 8 n with
      | none => refuse .badArgument s
      | some i =>
        match s.streamBounds i with
        | none => refuse .notFound s
        | some (lo, hi) =>
          let p := clampPos lo hi c.position
          accept (be 7 p) (s.onChannel ch fun c => { c.moveTo p with binding := .free origin i })
    | .unbound => refuse .refusedState s

/-! ## Resetting and reading (R105 to R107) -/

/-- RESET CHANNEL on the channel record (R105, R160): After reset values but for the nine configuration fields, the cue
binding and the Mixer's kept fields. A frame whose emission is under way stays in the emission buffer. The fault level is
settled afterwards. -/
def Channel.reset (c : Channel) : Channel :=
  let m : Mixer :=
    { sent := if c.mixer.emission.isSome then c.mixer.sent else none
      lastPicture := c.mixer.lastPicture
      emission := c.mixer.emission
      slip := c.mixer.slip }
  Channel.resetScanner { config := c.config, cueBinding := c.cueBinding, level := c.level, mixer := m }

/-- RESET CHANNEL (R105). -/
def resetChannel (ch : Fin 4) (s : State) : Answer :=
  let s1 := ((leaveClip (s.channel ch).binding s).onChannel ch Channel.reset).onStore (Store.discardFetches ch)
  accept [] (settleFault ch s.houseTime s1)

/-- A route in a reply. -/
def routeBytes (r : Route) : List Byte := be 1 r.link.val ++ be 1 r.endpoint

/-- A binding in the reply of READ CHANNEL: clip id, FREE with its cue origin, or none; then the angle (log entry 13). -/
def Binding.bytes : Binding → List Byte
  | .clip id angle => be 1 1 ++ be 2 id ++ optional (be 1) (some angle)
  | .free origin stream => be 1 2 ++ be 7 origin ++ optional (be 1) (some stream.val)
  | .unbound => be 1 3 ++ optional (be 1) none

/-- The nine configuration fields in a reply, in the order of R92. -/
def ChannelConfig.bytes (k : ChannelConfig) : List Byte :=
  be 2 k.programRamp ++ be 2 k.shuttleRamp ++ be 1 k.shuttleHoldOff ++ be 1 k.endAction.code ++ be 1 k.passPeriod ++
    be 2 k.breakLimit ++ be 1 k.mixMode.code ++ be 1 k.fill.code ++ optional routeBytes k.route

/-- The results of READ CHANNEL, in the order of R106. -/
def channelBytes (ch : Fin 4) (s : State) : List Byte :=
  let c := s.channel ch
  let rel := match c.binding with
    | .unbound => none
    | _ => some (s.relative ch)
  be 1 c.state.code ++ optional (fun k => be 1 (HaltCause.code k)) c.haltCause ++
    c.binding.bytes ++ optional streamByte (s.playedStream ch) ++
    be 7 c.position ++ optional (beInt 7) rel ++
    beInt 2 c.speed ++ beInt 2 c.target ++ be 1 c.source.code ++ be 1 c.holdOff ++ be 2 c.hold ++
    c.config.bytes ++ be 1 c.effectiveMix.code ++
    be 1 c.passCount ++ c.breakFlags ++ be 2 c.breakTimer ++
    flag c.atLive ++ be 1 c.warnings.mask ++ be 1 c.conditions.mask ++ be 1 c.level ++
    optional (fun b : CueBinding => be 1 b.first ++ be 1 b.count) c.cueBinding ++ be 1 c.scanner.state.code ++
    be 2 c.scanner.index ++ be 1 c.stack.length ++
    be 1 c.mixer.score ++ be 1 (s.store.fetchesOf ch)

/-- READ CHANNEL (R106). -/
def readChannel (ch : Fin 4) (s : State) : Answer := accept (channelBytes ch s) s

/-- CLEAR WARNINGS (R107): the reply carries the warning set as it was. -/
def clearWarnings (ch : Fin 4) (s : State) : Answer :=
  accept (be 1 (s.channel ch).warnings.mask)
    (settleFault ch s.houseTime (s.onChannel ch fun c => { c with warnings := {} }))

/-! ## Meanings -/

/-- CONFIGURE_CHANNEL. -/
def execConfigureChannel (o : Origin) (ch : Nat) (a : ChannelArgs) (s : State) : Host.Outcome State Fault Refusal :=
  takeRequest o 17 (onChannelNo ch (configureChannel a)) s

/-- BIND_CHANNEL. -/
def execBindChannel (o : Origin) (ch : Nat) (f : BindForm) (s : State) : Host.Outcome State Fault Refusal :=
  takeRequest o 18 (onChannelNo ch (bindChannel f)) s

/-- PLAY. -/
def execPlay (o : Origin) (ch : Nat) (target : Int) (immediate : Nat) (s : State) : Host.Outcome State Fault Refusal :=
  takeRequest o 19 (onChannelNo ch fun ch => withFlag immediate fun b => play target b ch) s

/-- STOP. -/
def execStop (o : Origin) (ch immediate : Nat) (s : State) : Host.Outcome State Fault Refusal :=
  takeRequest o 20 (onChannelNo ch fun ch => withFlag immediate fun b => stopPlay b ch) s

/-- SHUTTLE. -/
def execShuttle (o : Origin) (ch : Nat) (speed : Int) (s : State) : Host.Outcome State Fault Refusal :=
  takeRequest o 21 (onChannelNo ch (shuttle speed)) s

/-- JOG. -/
def execJog (o : Origin) (ch : Nat) (n : Int) (s : State) : Host.Outcome State Fault Refusal :=
  takeRequest o 22 (onChannelNo ch (jog n)) s

/-- SEEK. -/
def execSeek (o : Origin) (ch : Nat) (f : SeekForm) (s : State) : Host.Outcome State Fault Refusal :=
  takeRequest o 23 (onChannelNo ch (seek f)) s

/-- ANGLE. -/
def execAngle (o : Origin) (ch n : Nat) (s : State) : Host.Outcome State Fault Refusal :=
  takeRequest o 24 (onChannelNo ch (angle n)) s

/-- HALT. -/
def execHalt (o : Origin) (ch : Nat) (s : State) : Host.Outcome State Fault Refusal :=
  takeRequest o 25 (onChannelNo ch halt) s

/-- RESET_CHANNEL. -/
def execResetChannel (o : Origin) (ch : Nat) (s : State) : Host.Outcome State Fault Refusal :=
  takeRequest o 26 (onChannelNo ch resetChannel) s

/-- READ_CHANNEL. -/
def execReadChannel (o : Origin) (ch : Nat) (s : State) : Host.Outcome State Fault Refusal :=
  takeRequest o 27 (onChannelNo ch readChannel) s

/-- CLEAR_WARNINGS. -/
def execClearWarnings (o : Origin) (ch : Nat) (s : State) : Host.Outcome State Fault Refusal :=
  takeRequest o 28 (onChannelNo ch clearWarnings) s

end Sys2Proof.Machine
end

