-- ==== Sys2Proof/Machine/Mixer.lean ====
section
/-! DEFINITION. The Mixer and Output Assembler (chapter 10): blends, fetch completions, the frame sent at a boundary,
and the beginning of its emission. -/

namespace Sys2Proof.Machine

/-! ## Samples and blends (R163) -/

/-- The 10-bit samples of a band, four in each five bytes, most significant bit first (log entry 8). -/
def unpackSamples : Band → List Nat
  | b0 :: b1 :: b2 :: b3 :: b4 :: rest =>
    let x := ofBE [b0, b1, b2, b3, b4]
    x / 2 ^ 30 :: x / 2 ^ 20 % 1024 :: x / 2 ^ 10 % 1024 :: x % 1024 :: unpackSamples rest
  | _ => []

/-- The bytes of a run of 10-bit samples, four in each five bytes (log entry 8). -/
def packSamples : List Nat → Band
  | a :: b :: c :: d :: rest => be 5 (a * 2 ^ 30 + b * 2 ^ 20 + c * 2 ^ 10 + d) ++ packSamples rest
  | _ => []

/-- One output sample of a blend: floor(((16 − w) × a + w × b + 8) / 16) (R163). -/
def mixSample (w a b : Nat) : Nat := ((16 - w) * a + w * b + 8) / 16

/-- One band of a blend, sample by sample (R163). -/
def mixBand (w : Nat) (a b : Band) : Band :=
  packSamples (List.zipWith (mixSample w) (unpackSamples a) (unpackSamples b))

/-- The blend of two sources with weight `w` (R163). -/
def mixFrames (w : Nat) (a b : Bands) : Bands := List.zipWith (mixBand w) a b

/-- One band of BLACK: luma samples 64 and chroma samples 512, chroma and luma in turn (R165, log entry 8). -/
def blackBand : Band := packSamples ((List.replicate (bandBytes * 8 / 20) [512, 64]).flatten)

/-- One band of a frame sent (R166). -/
def SentFrame.band (f : SentFrame) (b : Nat) : Band :=
  match f with
  | .picture bands | .fillLast bands => bands.getD b []
  | .fillBlack => blackBand

/-! ## Completions (R161, R162) -/

/-- The prepared frame once its last CURRENT fetch has completed: the substitution table of R124 applied to the sources
ready (R162). -/
def Prepared.finish (p : Prepared) : Prepared :=
  match p.kind, p.earlier, p.later with
  | .blend w, some a, some b => { p with kind := .blend w, picture := some (mixFrames w a b) }
  | _, some a, _ => { p with kind := .alone, picture := some a }
  | _, none, some b => { p with kind := .alone, picture := some b }
  | _, none, none => { p with kind := .again, picture := none }

/-- A source becomes ready under its role (R161). -/
def Prepared.ready (r : Role) (bands : Bands) (p : Prepared) : Prepared :=
  match r with
  | .earlier => { p with earlier := some bands }
  | .later => { p with later := some bands }

/-- The channel's frame is complete: GAP enters the warning set when no source is ready (R162). -/
def Channel.finishFrame (c : Channel) : Channel :=
  match c.mixer.prepared with
  | none => c
  | some p =>
    let p' := p.finish
    let c' := { c with mixer := { c.mixer with prepared := some p' } }
    if p'.kind = .again then c'.warn .gap else c'

/-- The completion of a CURRENT fetch: a GOOD result with equal generations makes its source ready, an ERROR adds
STORE_ERROR; the last completion finishes the frame (R161, R162). -/
def completeFetch (ch : Fin 4) (slot gen : Nat) (role : Role) (error : Bool) (s : State) : State :=
  let s1 :=
    if error then s.onChannel ch (Channel.warn .storeError)
    else if (s.store.slot slot).generation = gen then
      s.onChannel ch fun c =>
        { c with mixer := { c.mixer with prepared := c.mixer.prepared.map (Prepared.ready role (s.store.slotBands slot)) } }
    else s
  let s2 := if s1.store.awaits ch then s1 else s1.onChannel ch Channel.finishFrame
  settleFault ch s.houseTime s2

/-- The read service completes the fetch it serves (R51, R161): an ERROR counts, a DISCARDED or superseded fetch is
dropped, and the service takes its next entry (R48). -/
def fetchDone (ch : Fin 4) (slot gen : Nat) (role : Role) (current superseded error : Bool) (s : State) : State :=
  let s1 := s.onStore fun st =>
    { st with service := none, errors := if error then bump st.errors else st.errors }
  let s2 := if current && !superseded then completeFetch ch slot gen role error s1 else s1
  s2.onStore Store.serve

/-- FETCH_COMPLETION: when a fetch is in service (R51, R161). -/
def execFetchCompletion (error : Bool) (s : State) : Host.Outcome State Fault Refusal :=
  match s.store.service with
  | some (.fetch ch slot gen role current superseded) =>
    .next (fetchDone ch slot gen role current superseded error s)
  | _ => .next s

/-! ## The frame sent at a boundary (R164 to R166) -/

/-- The fill frame, chosen by the fill setting when it is sent (R165). -/
def Channel.fillFrame (c : Channel) : SentFrame :=
  match c.config.fill, c.mixer.lastPicture with
  | .last, some bands => .fillLast bands
  | _, _ => .fillBlack

/-- The emission of a frame begins (R166): an unfinished emission slips; without a route, or with its link DOWN, the
emission is DONE at once. `h` is the boundary's house frame number. -/
def Channel.beginEmission (links : Two Link) (h : Nat) (c : Channel) : Channel :=
  let slip := if c.mixer.emission.isSome then bump c.mixer.slip else c.mixer.slip
  let emission := c.config.route.bind fun r =>
    if (links.get r.link).up then some { link := r.link, endpoint := r.endpoint, frame := h, next := 0 } else none
  { c with mixer := { c.mixer with emission := emission, slip := slip } }

/-- The frame sent becomes the emission buffer's frame, the preparation buffer becomes empty, a picture becomes the last
picture, and the emission begins (R164, R166). -/
def Channel.send (links : Two Link) (h : Nat) (f : SentFrame) (c : Channel) : Channel :=
  let last := match f with
    | .picture bands => some bands
    | _ => c.mixer.lastPicture
  Channel.beginEmission links h
    { c with mixer := { c.mixer with prepared := none, sent := some f, lastPicture := last } }

/-- The emission buffer's frame sent again, or the fill frame when it is empty (R164). A picture sent again leaves the
last picture as it is. -/
def Channel.sendAgain (links : Two Link) (h : Nat) (c : Channel) : Channel :=
  Channel.beginEmission links h
    { c with mixer := { c.mixer with prepared := none, sent := some (c.mixer.sent.getD c.fillFrame) } }

/-- The frame of part (a), by the first case of R164 that applies, with the score it gives (R167). `late` says that the
prepared frame still awaits a CURRENT fetch. -/
def Channel.output (links : Two Link) (h : Nat) (late : Bool) (c : Channel) : Channel :=
  match c.state with
  | .idle | .halted _ => c.send links h c.fillFrame
  | _ =>
    match c.mixer.prepared with
    | none => c.send links h c.fillFrame
    | some p =>
      if late then (c.sendAgain links h).scoreLate
      else
        let c' := match p.picture with
          | some bands => c.send links h (.picture bands)
          | none => c.sendAgain links h
        if 0 < p.fetches then c'.scoreOnTime else c'

/-- Part (a) of a channel's step (R108, R164): a late frame's fetches become DISCARDED. -/
def outputStep (ch : Fin 4) (h : Nat) (s : State) : State :=
  (s.onChannel ch (Channel.output s.links h (s.store.awaits ch))).onStore (Store.discardFetches ch)

end Sys2Proof.Machine
end

