-- ==== Sys2Proof/Machine/Motion.lean ====
section
/-! DEFINITION. Part (b) of a RUNNING channel's step (chapter 7): shuttle count-down, hold, ramp, advance, bounds and end
actions. END_REACHED, START_REACHED and AT_LIVE carry p after the step (R119), which a cue of the same step can still
change: the operations that raise them take that position as `after`. -/

namespace Sys2Proof.Machine

/-! ## Timers, hold and ramp -/

/-- Part (b1): the shuttle hold-off count-down, with the lapse when it reaches 0 (R100). The notice carries the house time
of the boundary (log entry 35) and the speed before the ramp (log entry 27). -/
def shuttleStep (ch : Fin 4) (time : Nat) (s : State) : State :=
  let c := s.channel ch
  if c.source = .shuttle ∧ 0 < c.holdOff then
    let s1 := s.onChannel ch fun c => { c with holdOff := c.holdOff - 1 }
    if c.holdOff = 1 then
      raise time (.shuttleLapse ch c.speed) (s1.onChannel ch fun c => { c with target := 0 })
    else s1
  else s

/-- The ramp of the speed source (R111). -/
def Channel.ramp (c : Channel) : Nat :=
  match c.source with
  | .program => c.config.programRamp
  | .shuttle => c.config.shuttleRamp

/-- The speed one ramp step closer to the target; a ramp of 0 reaches it at once (R111). -/
def rampSpeed (a : Nat) (v target : Int) : Int :=
  if a = 0 then target else v + clampInt (-(a : Int)) a (target - v)

/-- The current speed after the ramp of a step (R111). -/
def Channel.ramped (c : Channel) : Channel := { c with speed := rampSpeed c.ramp c.speed c.target }

/-- The channel comes to rest at a position: v and the target become 0 (R113, R114, R117). -/
def Channel.restAt (p : Nat) (c : Channel) : Channel := { c with position := p, speed := 0, target := 0 }

/-! ## Bounds of a free channel (R116 to R118) -/

/-- A free channel overtaken by the recorder: moved up to the recall start, with the warning and, when it is new, its
notice (R115, R118). -/
def overtake (ch : Fin 4) (stream : Fin 8) (before : Int) (p time : Nat) (s : State) : State :=
  let had := (s.channel ch).warnings.overtaken
  let s1 := s.onChannel ch fun c => { c.warn .overtaken with position := p }
  if had then s1 else raise time (.overtaken ch stream before p) s1

/-- The AT_LIVE flag takes a value; a notice when it goes from clear to set (R116, R119). -/
def setAtLive (ch : Fin 4) (stream : Fin 8) (live : Bool) (time after : Nat) (s : State) : State :=
  let had := (s.channel ch).atLive
  let s1 := s.onChannel ch fun c => { c with atLive := live }
  if live && !had then raise time (.atLive ch stream after) s1 else s1

/-- The bounds of a free channel on `x`, the advanced position of a moving step or p of a hold step (R116 to R118). -/
def freeBounds (ch : Fin 4) (stream : Fin 8) (x : Int) (moving : Bool) (time after : Nat) (s : State) : State :=
  match s.streamBounds stream with
  | none => s.onChannel ch fun c => { c with position := x.toNat }
  | some (lo, hi) =>
    let s1 :=
      if (hi : Int) < x then s.onChannel ch fun c => { c with position := hi }
      else if x < lo then
        if moving && decide ((s.channel ch).speed < 0) then
          raise time (.startReached ch (.free stream.val) after) (s.onChannel ch (Channel.restAt lo))
        else overtake ch stream x lo time s
      else s.onChannel ch fun c => { c with position := x.toNat }
    setAtLive ch stream (decide ((s1.channel ch).position = hi)) time after s1

/-! ## Bounds and end actions of a clip-bound channel (R113 to R115, R150) -/

/-- End action STOP beyond the out-point (R114); `noLive` marks a RUN_ON that found no live key (R115). -/
def stopAtEnd (ch : Fin 4) (id out : Nat) (action : EndAction) (noLive : Option Bool) (time after : Nat) (s : State) :
    State :=
  raise time (.endReached ch id action noLive after) (s.onChannel ch (Channel.restAt out))

/-- End action RUN_ON on a stream with a live key: the channel becomes FREE, clamped to the stream's bounds (R115). -/
def runOn (ch : Fin 4) (id tin : Nat) (stream : Fin 8) (lo hi : Nat) (x : Int) (time after : Nat) (s : State) : State :=
  let s1 := (leaveClip (s.channel ch).binding s).onChannel ch fun c =>
    { c with binding := .free tin stream, position := clampPos lo hi x, breakTimer := 0 }
  let s2 :=
    if (hi : Int) < x then setAtLive ch stream true time after s1
    else if x < lo then overtake ch stream x lo time s1
    else s1
  raise time (.endReached ch id .runOn (some false) after) s2

/-- A loop end of an announced pass enters BREAK at the out-point (R150). -/
def enterBreak (ch : Fin 4) (out time : Nat) (s : State) : State :=
  let s1 := s.onChannel ch fun c => { c with state := .inBreak, position := out, breakTimer := c.config.breakLimit }
  let c := s1.channel ch
  raise time (.breakStart ch c.binding.boundTo c.passCount c.breakTimer) s1

/-- What part (b2) leaves: the state, and whether part (b3) may follow it (a moving step without a wrap, R139). -/
structure Moved where
  state : State
  mayScan : Bool

/-- The end action of a moving step beyond the out-point (R114, R115, R150). -/
def endAction (ch : Fin 4) (id : Nat) (tin out : Nat) (x : Int) (time after : Nat) (s : State) : Moved :=
  let c := s.channel ch
  match c.config.endAction with
  | .stop => ⟨stopAtEnd ch id out .stop none time after s, true⟩
  | .runOn =>
    match s.playedStream ch with
    | none => ⟨stopAtEnd ch id out .runOn (some true) time after s, true⟩
    | some i =>
      match s.streamBounds i with
      | none => ⟨stopAtEnd ch id out .runOn (some true) time after s, true⟩
      | some (lo, hi) => ⟨runOn ch id tin i lo hi x time after s, true⟩
  | .loop =>
    if c.breakAnnounced then ⟨enterBreak ch out time s, true⟩
    else ⟨wrap ch none time s, false⟩

/-- The bounds of a moving step of a clip-bound channel (R113). -/
def clipBounds (ch : Fin 4) (id : Nat) (tin out : Nat) (x : Int) (time after : Nat) (s : State) : Moved :=
  if x < tin then
    ⟨raise time (.startReached ch (.clip id) after) (s.onChannel ch (Channel.restAt tin)), true⟩
  else if (out : Int) < x then endAction ch id tin out x time after s
  else ⟨s.onChannel ch fun c => { c with position := x.toNat }, true⟩

/-! ## Part (b2) -/

/-- A hold step: the count falls, the speed ramps, and the bounds act on the unchanged position (R110). -/
def holdStep (ch : Fin 4) (time after : Nat) (s : State) : State :=
  let s1 := s.onChannel ch fun c => { c.ramped with hold := c.hold - 1 }
  match (s1.channel ch).binding with
  | .free _ stream => freeBounds ch stream ((s1.channel ch).position : Int) false time after s1
  | _ => s1

/-- A moving step: ramp, advance by 30 × v′, bounds and end action (R110 to R118). -/
def movingStep (ch : Fin 4) (time after : Nat) (s : State) : Moved :=
  let s1 := s.onChannel ch Channel.ramped
  let c := s1.channel ch
  let x : Int := (c.position : Int) + 30 * c.speed
  match c.binding with
  | .free _ stream => ⟨freeBounds ch stream x true time after s1, true⟩
  | .clip id _ =>
    match s1.bounds ch with
    | some (tin, out) => clipBounds ch id tin out x time after s1
    | none => ⟨s1, false⟩
  | .unbound => ⟨s1, false⟩

/-- A position lowered by part (b2) flags the scanner for re-seek (R140). -/
def flagReseek (ch : Fin 4) (p0 : Nat) (s : State) : State :=
  if (s.channel ch).position < p0 then
    s.onChannel ch fun c => { c with scanner := { c.scanner with reseek := true } }
  else s

/-- Parts (b2) and (b3) of a RUNNING channel's step (R110, R139), with its notices carrying a given position. A wrap has
flagged the scanner and made its own scan, and leaves the re-seek flag as that scan left it (R147, log entry 22). -/
def motionShowing (ch : Fin 4) (time after : Nat) (s : State) : State :=
  let p0 := (s.channel ch).position
  if 0 < (s.channel ch).hold then flagReseek ch p0 (holdStep ch time after s)
  else
    let from_ := s.relative ch
    let m := movingStep ch time after s
    if m.mayScan then
      let s1 := flagReseek ch p0 m.state
      if p0 < (s1.channel ch).position ∧ (s1.channel ch).mayScan then cueScan ch from_ (s1.relative ch) time s1 else s1
    else m.state

/-- Work whose notices carry the channel's position after it (R119). The position a notice carries changes no position, so
the work done with any position in its notices finds it. -/
def withPositionAfter (ch : Fin 4) (work : Nat → State → State) (s : State) : State :=
  work ((work 0 s).channel ch).position s

/-- Parts (b2) and (b3) of a RUNNING channel's step (R110, R119, R139). -/
def motion (ch : Fin 4) (time : Nat) (s : State) : State := withPositionAfter ch (motionShowing ch time) s

end Sys2Proof.Machine
end

