-- ==== Sys2Proof/Machine/Protect.lean ====
section
/-! DEFINITION. Clip protection (chapter 5): PROTECT CLIP, the walk's lookups and extents, its three ends, RELEASE CLIP,
and the withdrawn lookup. -/

namespace Sys2Proof.Machine

/-! ## Key ranges (R79) -/

/-- The first and last key whose stamps lie from `tin` to `tout` for the native period `q` (R79). -/
def keyRange (tin tout q : Nat) : Nat × Nat := ((tin + q - 1) / q, tout / q)

/-- The number of keys in a range (R78, R79). -/
def keyCount (r : Nat × Nat) : Nat := r.2 + 1 - r.1

/-- The key ranges of a clip's angles, by the native periods the walk keeps (R79). -/
def walkRanges (c : Clip) (periods : List Nat) : List (Nat × Nat) :=
  periods.map (keyRange c.inPoint (c.outPoint.getD c.inPoint))

/-- The first angle from index `n` on whose range is not empty (R79). -/
def nextAngle (ranges : List (Nat × Nat)) (n : Nat) : Option (Nat × Nat × Nat) :=
  ((ranges.zipIdx.drop n).find? fun e => decide (e.1.1 ≤ e.1.2)).map fun e => (e.2, e.1.1, e.1.2)

/-! ## Extents (R81, R91) -/

/-- The most extents an angle's list holds (R81). -/
def maxExtents : Nat := 32

/-- A held key and slot entered in an extent list: it extends the last extent or starts a new one; none when that
would be a 33rd (R81, R82). -/
def enterExtent (key slot : Nat) (l : List Extent) : Option (List Extent) :=
  let append := if l.length < maxExtents then some (l ++ [⟨key, 1, slot⟩]) else none
  match l.getLast? with
  | none => append
  | some e =>
    if key = e.firstKey + e.count ∧ slot = e.firstSlot + e.count then
      some (l.dropLast ++ [{ e with count := e.count + 1 }])
    else append

/-- The extent of a list that covers a key (R91). -/
def coveringExtent (key : Nat) (l : List Extent) : Option Extent :=
  l.find? fun e => decide (e.firstKey ≤ key ∧ key < e.firstKey + e.count)

/-! ## The read queue -/

/-- The engine issues a protect lookup: it joins the read queue and is PENDING (R78, R80). -/
def issueLookup (i : Fin 8) (key : Nat) (s : State) : State :=
  (s.onStore (Store.enqueue (.lookup i key))).onEngine fun e => { e with lookup := .pending }

/-- The stream of an angle of the clip a walk examines (R80). -/
def angleStream (c : Clip) (angle : Nat) : Fin 8 := c.angles.getD angle 0

/-- The first lookup of a walk: DEFERRED behind a withdrawn lookup, otherwise issued (R78). -/
def firstLookup (i : Fin 8) (key : Nat) (s : State) : State :=
  if s.engine.withdrawn then s.onEngine fun e => { e with lookup := .deferred } else issueLookup i key s

/-! ## The ends of a walk (R84 to R87) -/

/-- The engine becomes IDLE (R85, R86, R89). -/
def idleEngine (s : State) : State := s.onEngine fun e => { e with walk := none, lookup := .none }

/-- The walk has examined every key: the clip becomes PROTECTED and OP_DONE is raised with result OK (R85, R87). -/
def completeWalk (w : Walk) (s : State) : State :=
  let holes := ((s.clip w.clip).bind Clip.protection).elim 0 Protection.holes
  raise s.houseTime (.protectDone w.clip .ok holes w.heldTotal none)
    (idleEngine (s.onClip w.clip fun c => { c with state := .protected_ }))

/-- A walk ends without success: every hold of its extent lists, and the slots of `extra`, are released in the event
that makes the clip CLOSED and the engine IDLE, and OP_DONE is raised (R84, R86, R87, R89). -/
def unwindWalk (w : Walk) (result : WalkResult) (failure : Option (Nat × Nat)) (extra : List Nat) (s : State) : State :=
  let p := (s.clip w.clip).bind Clip.protection
  let s1 := releaseHolds (p.elim [] Protection.slots ++ extra) s
  raise s.houseTime (.protectDone w.clip result (p.elim 0 Protection.holes) w.heldTotal failure)
    (idleEngine (s1.onClip w.clip fun c => { c with state := .closed, protection := none }))

/-- The engine advances to the next key, or to the next angle with a key, or has examined them all (R79). -/
def advanceWalk (w : Walk) (s : State) : State :=
  match s.clip w.clip with
  | none => idleEngine s
  | some c =>
    if w.nextKey < w.lastKey then
      issueLookup (angleStream c w.angle) (w.nextKey + 1)
        (s.onEngine fun e => { e with walk := some { w with nextKey := w.nextKey + 1 } })
    else
      match nextAngle (walkRanges c w.periods) (w.angle + 1) with
      | some (a, lo, hi) =>
        issueLookup (angleStream c a) lo
          (s.onEngine fun e => { e with walk := some { w with angle := a, nextKey := lo, lastKey := hi } })
      | none => completeWalk w s

/-! ## Starting and serving (R78, R80) -/

/-- PROTECT CLIP is taken (R78): the clip becomes PROTECTING with empty extent lists, and the walk starts, or completes
at once when no angle has a key. -/
def startWalk (id : Nat) (c : Clip) (s : State) : State × Nat :=
  let periods := c.angles.map s.period
  let ranges := walkRanges c periods
  let s1 := s.onClip id fun c =>
    { c with state := .protecting, protection := some { extents := c.angles.map fun _ => [] } }
  let total := (ranges.map keyCount).sum
  match nextAngle ranges 0 with
  | some (a, lo, hi) =>
    let w : Walk := ⟨id, a, lo, hi, 0, periods⟩
    (firstLookup (angleStream c a) lo (s1.onEngine fun e => { e with walk := some w }), total)
  | none => (completeWalk ⟨id, 0, 0, 0, 0, periods⟩ s1, total)

/-- PROTECT CLIP (R78): the reply carries the clip id and the number of keys the walk will examine. -/
def protectClip (id : Nat) (s : State) : Answer :=
  onClipNo id (fun c s =>
    if c.state ≠ .closed then refuse .refusedState s
    else if s.engine.walk.isSome then refuse .busy s
    else
      let r := startWalk id c s
      ⟨r.1, .accepted, be 2 id ++ be 4 r.2⟩) s

/-- A HELD result: the slot is entered in the current angle's extent list, or the walk fails FRAGMENTED (R80 to
R82). -/
def walkHeld (w : Walk) (slot : Nat) (s : State) : State :=
  let w' := { w with heldTotal := w.heldTotal + 1 }
  match (s.clip w.clip).bind Clip.protection with
  | none => idleEngine s
  | some p =>
    match enterExtent w.nextKey slot (p.extents.getD w.angle []) with
    | none => unwindWalk w' .fragmented (some (w.angle, w.nextKey)) [slot] s
    | some l =>
      advanceWalk w' (s.onClip w.clip fun c => { c with protection := some { p with extents := p.extents.set w.angle l } })

/-- An ABSENT result: the hole count rises (R80). -/
def walkHole (w : Walk) (s : State) : State :=
  advanceWalk w (s.onClip w.clip fun c =>
    { c with protection := c.protection.map fun p => { p with holes := p.holes + 1 } })

/-- The read service ends its service of the entry it served. -/
def endService (s : State) : State := s.onStore fun st => { st with service := none }

/-- The read service takes its next entry (R48). -/
def serveNext (s : State) : State := s.onStore Store.serve

/-- A protect lookup is served: lookup and hold are one event with the engine's action on the result (R49, R80). -/
def serveLookup (w : Walk) (i : Fin 8) (key : Nat) (s : State) : State :=
  match takeHold i key s with
  | (.absent, s1) => walkHole w s1
  | (.held slot, s1) => walkHeld w slot s1
  | (.holdLimit, s1) => unwindWalk w .holdLimit (some (w.angle, w.nextKey)) [] s1
  | (.floor, s1) => unwindWalk w .floor (some (w.angle, w.nextKey)) [] s1

/-- PROTECT_LOOKUP_SERVED: when a protect lookup that is not withdrawn is in service (R49, R80, R89). -/
def execProtectLookupServed (s : State) : Host.Outcome State Fault Refusal :=
  match s.store.service, s.engine.walk with
  | some (.lookup i key), some w =>
    if s.engine.withdrawn then .next s else .next (serveNext (serveLookup w i key (endService s)))
  | _, _ => .next s

/-- WITHDRAWN_LOOKUP_END: the service of a withdrawn lookup ends with neither lookup, hold nor result; a DEFERRED first
lookup then joins the read queue (R78, R89). -/
def withdrawnEnd (s : State) : State :=
  let s1 := (endService s).onEngine fun e => { e with withdrawn := false }
  match s.engine.lookup, s.engine.walk with
  | .deferred, some w =>
    match s.clip w.clip with
    | some c => serveNext (issueLookup (angleStream c w.angle) w.nextKey s1)
    | none => serveNext s1
  | _, _ => serveNext s1

/-- WITHDRAWN_LOOKUP_END. -/
def execWithdrawnLookupEnd (s : State) : Host.Outcome State Fault Refusal :=
  if s.engine.withdrawn && s.store.servingLookup then .next (withdrawnEnd s) else .next s

/-! ## Releasing (R88, R89) -/

/-- RELEASE CLIP of a PROTECTED clip (R88). -/
def releaseProtected (id : Nat) (p : Protection) (s : State) : Answer :=
  accept (be 4 p.slots.length)
    ((releaseHolds p.slots s).onClip id fun c => { c with state := .closed, protection := none })

/-- The walk's PENDING lookup when its walk is stopped: a waiting one is removed, one in service becomes the withdrawn
lookup; a DEFERRED one is discarded with the walk (R89). -/
def stopLookup (s : State) : State :=
  match s.engine.lookup with
  | .pending =>
    if s.store.servingLookup then s.onEngine fun e => { e with withdrawn := true }
    else s.onStore Store.withdrawLookup
  | _ => s

/-- RELEASE CLIP of a PROTECTING clip: the walk stops as one event (R89). -/
def stopWalk (w : Walk) (s : State) : Answer :=
  let held := ((s.clip w.clip).bind Clip.protection).elim 0 fun p => p.slots.length
  accept (be 4 held) (unwindWalk w .released none [] (stopLookup s))

/-- RELEASE CLIP (R88, R89): the reply carries the number of holds released. -/
def releaseClip (id : Nat) (s : State) : Answer :=
  onClipNo id (fun c s =>
    if c.useCount ≠ 0 ∧ (c.state = .protecting ∨ c.state = .protected_) then refuse .inUse s
    else
      match c.state, c.protection, s.engine.walk with
      | .protected_, some p, _ => releaseProtected id p s
      | .protecting, _, some w => stopWalk w s
      | _, _, _ => refuse .refusedState s) s

/-! ## Meanings -/

/-- PROTECT_CLIP. -/
def execProtectClip (o : Origin) (id : Nat) (s : State) : Host.Outcome State Fault Refusal :=
  takeRequest o 15 (protectClip id) s

/-- RELEASE_CLIP. -/
def execReleaseClip (o : Origin) (id : Nat) (s : State) : Host.Outcome State Fault Refusal :=
  takeRequest o 16 (releaseClip id) s

end Sys2Proof.Machine
end

