-- ==== Sys2Proof/Machine/Select.lean ====
section
/-! DEFINITION. Part (c) of the step (sections 7.3 and 7.4): source keys and mix weight, lookups, and the issue of
fetches. -/

namespace Sys2Proof.Machine

/-- The mix weight: floor((32 × r + q) / (2 × q)) (R120). -/
def mixWeight (r q : Nat) : Nat := (32 * r + q) / (2 * q)

/-- The sources wanted at a position (R121, R122): whether key i and key i + 1 are wanted, by the effective mix and the
weight. -/
def wantedSources (m : MixMode) (w : Nat) : Bool × Bool :=
  match m with
  | .blend => (decide (w < 16), decide (0 < w))
  | .nearest => (decide (w < 8), decide (8 ≤ w))
  | .hold => (true, false)

/-- The extent list of the angle a channel plays, when its clip is PROTECTING or PROTECTED (R91). -/
def State.playedExtents (s : State) (ch : Fin 4) : List Extent :=
  match (s.channel ch).binding with
  | .clip id angle =>
    match (s.clip id).bind Clip.protection with
    | some p => p.extents.getD angle []
    | none => []
  | _ => []

/-- A channel's lookup of a source key (R91, R123): through the extent that covers it, otherwise through the directory. -/
def State.sourceLookup (s : State) (ch : Fin 4) (i : Fin 8) (key : Nat) : Option (Nat × Nat) :=
  match coveringExtent key (s.playedExtents ch) with
  | some e =>
    let slot := e.firstSlot + (key - e.firstKey)
    if s.store.holdsFrame i key slot then some (slot, (s.store.slot slot).generation) else none
  | none => s.store.lookup i key

/-- The number of the channel's fetches still in service, which cannot be withdrawn (R125). -/
def Store.servingChannel (st : Store) (ch : Fin 4) : Bool := st.service.any (ReadEntry.ofChannel ch)

/-- A source found: its role with its slot and generation. -/
structure Source where
  role : Role
  slot : Nat
  generation : Nat
deriving DecidableEq, Repr

/-- The sources wanted and found at a position, EARLIER first (R121 to R123). -/
def foundSources (s : State) (ch : Fin 4) (i : Fin 8) (key w : Nat) : List Source :=
  let want := wantedSources (s.channel ch).effectiveMix w
  let e := if want.1 then (s.sourceLookup ch i key).map fun x => Source.mk .earlier x.1 x.2 else none
  let l := if want.2 then (s.sourceLookup ch i (key + 1)).map fun x => Source.mk .later x.1 x.2 else none
  e.toList ++ l.toList

/-- The sources fetched: with a fetch of the channel still in service and two sources found, the one NEAREST would choose
at this weight (R125). -/
def fetchedSources (busy : Bool) (w : Nat) (found : List Source) : List Source :=
  match found with
  | [e, l] => if busy then (if w < 8 then [e] else [l]) else [e, l]
  | _ => found

/-- What the step prepares for the sources fetched (R124, R125). -/
def preparedFor (w : Nat) (fetched : List Source) : Prepared :=
  match fetched with
  | [] => { kind := .again, fetches := 0 }
  | [_] => { kind := .alone, fetches := 1 }
  | _ => { kind := .blend w, fetches := fetched.length }

/-- A fetch for a source joins the read queue, CURRENT (R50, R125, R160). -/
def issueFetch (ch : Fin 4) (s : State) (x : Source) : State :=
  s.onStore (Store.enqueue (.fetch ch x.slot x.generation x.role true false))

/-- A step that finds no source adds GAP (R124). -/
def Channel.prepare (p : Prepared) (c : Channel) : Channel :=
  let c' := { c with mixer := { c.mixer with prepared := some p } }
  if p.kind = .again then c'.warn .gap else c'

/-- Part (c) of the step (R120 to R125). -/
def selectSources (ch : Fin 4) (s : State) : State :=
  let s1 := s.onStore (Store.withdrawFetches ch)
  match s.playedStream ch with
  | none => s1.onChannel ch (Channel.prepare { kind := .again, fetches := 0 })
  | some i =>
    let q := s.period i
    let p := (s.channel ch).position
    let w := mixWeight (p % q) q
    let fetched := fetchedSources (s.store.servingChannel ch) w (foundSources s ch i (p / q) w)
    fetched.foldl (issueFetch ch) (s1.onChannel ch (Channel.prepare (preparedFor w fetched)))

end Sys2Proof.Machine
end

