-- ==== Sys2Proof/Machine/Boundary.lean ====
section
/-! DEFINITION. The channel's step (R108) and the delivery of a house frame boundary to its receivers (R10, R11). -/

namespace Sys2Proof.Machine

/-- Part (b) of a step, for the state the channel had when the step began (R108). -/
def stepPartB (ch : Fin 4) (time : Nat) (began : ChannelState) (s : State) : State :=
  match began with
  | .running => motion ch time (shuttleStep ch time s)
  | .inBreak => breakTimerStep ch time s
  | _ => s

/-- Part (c) of a step, for a CUED, RUNNING or BREAK channel (R108). -/
def stepPartC (ch : Fin 4) (s : State) : State :=
  if (s.channel ch).playing then selectSources ch s else s

/-- A channel's step at the boundary with house frame number `h` (R108): output, part (b), part (c), and the fault level
for the net change of the event (R169). -/
def channelStep (h : Nat) (s : State) (ch : Fin 4) : State :=
  let time := h * 2880
  let began := (s.channel ch).state
  settleFault ch time (stepPartC ch (stepPartB ch time began (outputStep ch h s)))

/-- The house frame count after one more boundary: it stays at 2^40 − 1 (R10). -/
def nextFrame (n : Nat) : Nat := if n < 2 ^ 40 - 1 then n + 1 else n

/-- A house frame boundary: the count advances, and the channels, the Clip Table and the Line Unit take it (R10, R11,
log entry 9). -/
def boundary (s : State) : State :=
  let h := nextFrame s.timer.frames
  let s1 := s.onTimer fun t => { t with frames := h, fresh := false }
  countPulses h (closeClips (h * 2880) (allFour.foldl (channelStep h) s1))

end Sys2Proof.Machine
end

