-- ==== Sys2Proof/Machine/TimerEvents.lean ====
section
/-! DEFINITION. The Reference Timer's events (chapter 1): reference pulses, the expiries, the local clock, and SET HOUSE
TIME. -/

namespace Sys2Proof.Machine

/-- The absolute difference of two counts. -/
def distance (a b : Nat) : Nat := (a - b) + (b - a)

/-- Raises the REFERENCE_STATE notice of an event that changed the reference state from `old` (R9). -/
def noteState (old : RefState) (s : State) : State :=
  if s.timer.state = old then s
  else raise s.houseTime (.referenceState old s.timer.state s.timer.period s.timer.frames) s

/-- The measured period after an accepted pulse taken at count `c`: `c` when it lies within T of N (R5, R8). -/
def Timer.measured (t : Timer) (c : Nat) : Nat := if distance c t.nominal ≤ t.tolerance then c else t.period

/-- An accepted pulse taken at count `c` (R5, R8). -/
def acceptPulse (c : Nat) (s : State) : State :=
  noteState s.timer.state ((boundary s).onTimer fun t =>
    { t with period := t.measured c, count := 0, missing := 0, state := .locked })

/-- A pulse of LOST or an early pulse of LOCKING, taken at count `c`: a boundary when 2 × c ≥ L, otherwise a retime; the
state becomes LOCKING (R7, R8). It is not the first pulse since a reset, so the interval of R3 is over. -/
def retimePulse (c : Nat) (s : State) : State :=
  let s1 := if s.timer.period ≤ 2 * c then boundary s else s
  noteState s.timer.state (s1.onTimer fun t => { t with count := 0, missing := 0, state := .locking, fresh := false })

/-- A reference pulse taken at count `c` (R4, R5, R7, R8). -/
def takePulse (c : Nat) (s : State) : State :=
  let t := s.timer
  match t.state with
  | .unlocked =>
    noteState .unlocked (s.onTimer fun t => { t with count := 0, missing := 0, state := .locking })
  | .locked | .flywheel =>
    if distance c t.period ≤ t.tolerance then acceptPulse c s
    else s.onTimer fun t => { t with count := c, offRate := bump t.offRate }
  | .locking => if distance c t.period ≤ t.tolerance then acceptPulse c s else retimePulse c s
  | .lost => retimePulse c s

/-- The count at which the timer's own next event falls due: L in LOST, L + T in LOCKING, LOCKED and FLYWHEEL; in UNLOCKED
the count stays at 0 (R1, R6 to R8). -/
def Timer.due (t : Timer) : Nat :=
  match t.state with
  | .unlocked => 0
  | .lost => t.period
  | _ => t.period + t.tolerance

/-- REFERENCE_PULSE: a rising edge taken when the local count is `c`. The local clock runs on to `c`; an edge at a count
that is already past, or past the next expiry, is no event of the part (R1, log entry 2). In UNLOCKED the count is held at
0 and `c` is not read. -/
def execReferencePulse (c : Nat) (s : State) : Host.Outcome State Fault Refusal :=
  let t := s.timer
  if t.state = .unlocked then .next (takePulse 0 s)
  else if t.count ≤ c ∧ c ≤ t.due then .next (takePulse c (s.onTimer fun t => { t with count := c }))
  else .next s

/-- The state and missing count after an expiry at L + T (R6, R8). -/
def Timer.expired (t : Timer) : Timer :=
  match t.state with
  | .locking => { t with count := t.tolerance, missing := 3, state := .lost }
  | _ => { t with
      count := t.tolerance
      missing := t.missing + 1
      state := if t.missing + 1 < 3 then .flywheel else .lost }

/-- FLYWHEEL_EXPIRY: in LOCKING, LOCKED or FLYWHEEL the local clock runs on to L + T without a pulse (R6, R8, log entry
2). -/
def execFlywheelExpiry (s : State) : Host.Outcome State Fault Refusal :=
  match s.timer.state with
  | .locking | .locked | .flywheel =>
    .next (noteState s.timer.state ((boundary (s.onTimer fun t => { t with count := t.due })).onTimer Timer.expired))
  | _ => .next s

/-- LOST_FREE_RUN: in LOST the local clock runs on to L (R7, log entry 2). -/
def execLostFreeRun (s : State) : Host.Outcome State Fault Refusal :=
  match s.timer.state with
  | .lost => .next ((boundary (s.onTimer fun t => { t with count := t.due })).onTimer fun t => { t with count := 0 })
  | _ => .next s

/-- One period of the local clock, which passes when no command waits (R1, log entry 1): the count rises by one, and at the
count where an expiry falls due the expiry happens. -/
def clockTick (s : State) : Host.Outcome State Fault Refusal :=
  let t := s.timer
  match t.state with
  | .unlocked => .next s
  | .lost => if t.count < t.due then .next (s.onTimer fun t => { t with count := t.count + 1 }) else execLostFreeRun s
  | _ => if t.count < t.due then .next (s.onTimer fun t => { t with count := t.count + 1 }) else execFlywheelExpiry s

/-- SET HOUSE TIME (R14): the reply carries the house time after the request. -/
def setHouseTime (rate count : Nat) (s : State) : Answer :=
  match HouseRate.ofCode rate with
  | none => refuse .badArgument s
  | some r =>
    if 2 ^ 40 ≤ count then refuse .badArgument s
    else if allEight.any (fun i => (s.stream i).enabled) then refuse .inUse s
    else
      let s1 := s.onTimer fun t =>
        { t with
          state := .unlocked
          rate := r
          period := Timer.nominal { t with rate := r }
          count := 0
          missing := 0
          frames := count
          fresh := false }
      accept (be 7 s1.houseTime) (noteState s.timer.state s1)

/-- SET_HOUSE_TIME. -/
def execSetHouseTime (o : Origin) (rate count : Nat) (s : State) : Host.Outcome State Fault Refusal :=
  takeRequest o 1 (setHouseTime rate count) s

end Sys2Proof.Machine
end

