-- ==== Sys2Proof/Machine/Counters.lean ====
section
/-! DEFINITION. The four rows that are the last count of a counter. R11 and R175 count only at a boundary, so each row is
the boundary whose step makes that count (log entry 5). -/

namespace Sys2Proof.Machine

/-- The next boundary that the Reference Timer makes without a pulse (R6 to R8); in UNLOCKED none comes (R4). -/
def nextBoundary (s : State) : Host.Outcome State Fault Refusal :=
  match s.timer.state with
  | .unlocked => .next s
  | .lost => execLostFreeRun s
  | _ => execFlywheelExpiry s

/-- Whether the next boundary's step brings a channel's hold-off counter to 0 (R100). -/
def Channel.lapses (c : Channel) : Bool := decide (c.state = .running ∧ c.source = .shuttle ∧ c.holdOff = 1)

/-- Whether the next boundary's step brings a channel's hold counter to 0 (R110). -/
def Channel.holdEnds (c : Channel) : Bool := decide (c.state = .running ∧ c.hold = 1)

/-- Whether the next boundary's step brings a channel's break timer to 0 (R154). -/
def Channel.breakExpires (c : Channel) : Bool := decide (c.state = .inBreak ∧ c.breakTimer = 1)

/-- Whether a boundary with house frame number `h` brings a line's pulse timer to 0 (R175). -/
def Line.pulseEnds (h : Nat) (l : Line) : Bool :=
  decide (l.function = .output ∧ l.pulseTimer = 1 ∧ l.pulseFrame ≠ some h)

/-- SHUTTLE_LAPSE: the boundary in whose step the hold-off counter reaches 0 (R11, R100). -/
def execShuttleLapse (ch : Fin 4) (s : State) : Host.Outcome State Fault Refusal :=
  if (s.channel ch).lapses then nextBoundary s else .next s

/-- HOLD_COUNT_EXPIRY: the boundary in whose step the hold counter reaches 0 (R11, R110). -/
def execHoldCountExpiry (ch : Fin 4) (s : State) : Host.Outcome State Fault Refusal :=
  if (s.channel ch).holdEnds then nextBoundary s else .next s

/-- BREAK_TIMER_EXPIRY: the boundary in whose step the break timer reaches 0 (R11, R154). -/
def execBreakTimerExpiry (ch : Fin 4) (s : State) : Host.Outcome State Fault Refusal :=
  if (s.channel ch).breakExpires then nextBoundary s else .next s

/-- PULSE_END: the boundary at which the pulse timer reaches 0 (R11, R175). -/
def execPulseEnd (n : Fin 8) (s : State) : Host.Outcome State Fault Refusal :=
  if (s.line n).pulseEnds (nextFrame s.timer.frames) then nextBoundary s else .next s

end Sys2Proof.Machine
end

