-- ==== Sys2Proof/Machine/Cues.lean ====
section
/-! DEFINITION. Cue memory (sections 8.1 to 8.4): staging, the commit of a page, and BIND CUES. -/

namespace Sys2Proof.Machine

/-! ## Staging (R131, R132) -/

/-- The number of pages, and of cues on a page (R130). -/
def pageCount : Nat := 16
def pageLength : Nat := 32

/-- One record is written at the cursor, which rises unless it stands at 31 (R131). -/
def CueMemory.stage (m : CueMemory) (r : CueRecord) : CueMemory :=
  { m with staging := m.staging.set m.cursor (some r), cursor := min 31 (m.cursor + 1) }

/-- STAGE CUES (R131, R132): the reply carries the count written, the count overwritten at 31 and the cursor. -/
def stageCues (start : Nat) (records : List CueRecord) (s : State) : Answer :=
  if 31 < start ∨ records.length = 0 ∨ 32 < records.length then refuse .badArgument s
  else if s.cues.commit.isSome then refuse .busy s
  else
    let m := records.foldl CueMemory.stage { s.cues with cursor := start }
    let written := min records.length (32 - start)
    accept (be 1 written ++ be 1 (records.length - written) ++ be 1 m.cursor) (s.onCues fun _ => m)

/-- The staging buffer emptied, its cursor 0 (R132, R134). -/
def CueMemory.emptyStaging (m : CueMemory) : CueMemory :=
  { m with staging := List.replicate pageLength none, cursor := 0 }

/-- CLEAR STAGING (R132). -/
def clearStaging (s : State) : Answer :=
  if s.cues.commit.isSome then refuse .busy s else accept [] (s.onCues CueMemory.emptyStaging)

/-! ## Cue records in replies (R128, R180) -/

/-- A cue's type byte and parameters (R128); a type outside the nine carries no parameters (log entry 23). -/
def CueBody.bytes : CueBody → List Byte
  | .speed target immediate => be 1 1 ++ beInt 2 target ++ be 1 immediate
  | .hold frames => be 1 2 ++ be 2 frames
  | .angle n => be 1 3 ++ be 1 n
  | .jump target => be 1 4 ++ be 4 target
  | .ret => be 1 5
  | .line mask action length => be 1 6 ++ be 1 mask ++ be 1 action ++ be 1 length
  | .note tag => be 1 7 ++ be 1 tag
  | .stop => be 1 8
  | .listEnd => be 1 9
  | .other code => be 1 code

/-- A cue record (R128). -/
def cueBytes (q : CueRecord) : List Byte := be 4 q.mark ++ be 1 q.passRepeat ++ be 1 q.passFirst ++ CueBody.bytes q.body

/-- READ STAGING (R132). -/
def readStaging (s : State) : Answer :=
  accept (s.cues.staging.flatMap (optional cueBytes) ++ be 1 s.cues.cursor) s

/-! ## Commit (R133, R134) -/

/-- COMMIT CUE PAGE (R133). -/
def commitCuePage (page : Nat) (s : State) : Answer :=
  if pageCount ≤ page then refuse .badArgument s
  else if s.cues.commit.isSome then refuse .busy s
  else if allFour.any (fun ch => (s.channel ch).listHas page && (s.channel ch).onAir) then refuse .inUse s
  else ⟨s.onCues fun m => { m with commit := some page }, .accepted, []⟩

/-- Whether a cue's parameters lie in the ranges of R128, the pulse length being checked for PULSE only (R134). R185 lists
hold frames and speeds among the values clamped without refusal. That those of a cue fail the commit instead, as R134
says, is the model's choice between the rules (DESIGN CHOICE, log entry 44). -/
def bodyOk : CueBody → Bool
  | .speed target immediate => decide (-3072 ≤ target ∧ target ≤ 3072) && decide (immediate ≤ 1)
  | .hold frames => decide (1 ≤ frames ∧ frames ≤ 1023)
  | .angle n => decide (n ≤ 7)
  | .jump target => decide (target < 2 ^ 32)
  | .line mask action length =>
    decide (mask ≤ 255) &&
      match LineAction.ofCode action with
      | none => false
      | some .pulse => decide (1 ≤ length ∧ length ≤ 255)
      | some _ => true
  | .note tag => decide (tag ≤ 255)
  | .ret | .stop | .listEnd => true
  | .other _ => false

/-- Whether a cue passes the checks of a commit (R134). -/
def cueOk (q : CueRecord) : Bool := periodOk q.passRepeat && decide (q.passFirst < q.passRepeat) && bodyOk q.body

/-- Whether a staging entry passes: an empty entry does (R134). -/
def entryOk (e : Option CueRecord) : Bool := e.all cueOk

/-- The first failing index of the staging buffer (R134). -/
def failingIndex (l : List (Option CueRecord)) : Option Nat := l.findIdx? fun e => !entryOk e

/-- The number of entries that hold a cue (R134). -/
def heldEntries (l : List (Option CueRecord)) : Nat := (l.filter Option.isSome).length

/-- The page the staging buffer makes: every empty entry is a LIST_END (R134). -/
def pageOf (l : List (Option CueRecord)) : List CueRecord := l.map fun e => e.getD blankCue

/-- A channel whose cue list contains a replaced page: scanner reset, stack emptied, CUE_FAULT removed (R134, R138). -/
def Channel.pageReplaced (page : Nat) (c : Channel) : Channel := if c.listHas page then c.clearCues else c

/-- A channel at the successful completion of a commit, with its fault level (R134, R169). -/
def channelCommitted (page time : Nat) (s : State) (ch : Fin 4) : State :=
  settleFault ch time (s.onChannel ch (Channel.pageReplaced page))

/-- The commit in flight completes, with success or at its first failing index; OP_DONE either way (R134), before the
FAULT_LEVEL notices of the channels (log entry 36). -/
def completeCommit (page : Nat) (s : State) : State :=
  let l := s.cues.staging
  let note := raise s.houseTime (.commitDone page (failingIndex l) (heldEntries l))
  match failingIndex l with
  | some _ => note (s.onCues fun m => { m with commit := none })
  | none =>
    allFour.foldl (channelCommitted page s.houseTime) (note (s.onCues fun m =>
      { m.emptyStaging with pages := m.pages.set page (pageOf l), commit := none }))

/-- CUE_COMMIT_COMPLETE: when a commit is in flight (R134). -/
def execCueCommitComplete (s : State) : Host.Outcome State Fault Refusal :=
  match s.cues.commit with
  | some page => .next (completeCommit page s)
  | none => .next s

/-- READ CUE PAGE (R136): page state, the 32 cues, and the channels whose lists contain the page, in rising channel number
(log entry 43). -/
def readCuePage (page : Nat) (s : State) : Answer :=
  if pageCount ≤ page then refuse .badArgument s
  else
    accept (be 1 (if s.cues.commit = some page then 2 else 1) ++ (s.cues.pages.getD page []).flatMap cueBytes ++
      counted 1 (fun ch : Fin 4 => be 1 ch.val) (allFour.filter fun ch => (s.channel ch).listHas page)) s

/-! ## Binding (R137) -/

/-- BIND CUES (R137). -/
def bindCues (first count : Nat) (ch : Fin 4) (s : State) : Answer :=
  if 16 < count ∨ (0 < count ∧ (15 < first ∨ 16 < first + count)) then refuse .badArgument s
  else if (s.channel ch).onAir then refuse .refusedState s
  else
    accept [] (settleFault ch s.houseTime (s.onChannel ch fun c =>
      Channel.clearCues { c with cueBinding := if count = 0 then none else some ⟨first, count⟩ }))

/-! ## Meanings -/

/-- STAGE_CUES. -/
def execStageCues (o : Origin) (start : Nat) (records : List CueRecord) (s : State) :
    Host.Outcome State Fault Refusal :=
  takeRequest o 29 (stageCues start records) s

/-- CLEAR_STAGING. -/
def execClearStaging (o : Origin) (s : State) : Host.Outcome State Fault Refusal := takeRequest o 30 clearStaging s

/-- READ_STAGING. -/
def execReadStaging (o : Origin) (s : State) : Host.Outcome State Fault Refusal := takeRequest o 31 readStaging s

/-- COMMIT_CUE_PAGE. -/
def execCommitCuePage (o : Origin) (page : Nat) (s : State) : Host.Outcome State Fault Refusal :=
  takeRequest o 32 (commitCuePage page) s

/-- READ_CUE_PAGE. -/
def execReadCuePage (o : Origin) (page : Nat) (s : State) : Host.Outcome State Fault Refusal :=
  takeRequest o 33 (readCuePage page) s

/-- BIND_CUES. -/
def execBindCues (o : Origin) (ch first count : Nat) (s : State) : Host.Outcome State Fault Refusal :=
  takeRequest o 34 (onChannelNo ch (bindCues first count)) s

end Sys2Proof.Machine
end

