-- ==== Sys2Proof/Machine/Lines.lean ====
section
/-! DEFINITION. The Line Unit's requests and pin events (chapter 11). -/

namespace Sys2Proof.Machine

/-! ## Inputs (R172, R173) -/

/-- The LINE_EDGE notice of an edge (R173). -/
def raiseEdge (n : Fin 8) (s : State) : State :=
  let l := s.line n
  let ch := match l.function with
    | .breakEnd | .breakRequest => some l.channel
    | _ => none
  let group := match l.function with
    | .mark => some l.markGroup
    | _ => none
  raise s.houseTime (.lineEdge n l.function ch group) s

/-- An edge delivered by the line's function (R172). -/
def deliverEdge (n : Fin 8) (s : State) : State :=
  let l := s.line n
  match l.function with
  | .mark => latchEdge n s
  | .breakEnd => breakEndEdge l.channel s
  | _ => s

/-- A change of the pin of a line with an input function, judged under its polarity against its input level (R172). The
LINE_EDGE notice is raised before what the edge does (log entry 26). -/
def judgePin (n : Fin 8) (s : State) : State :=
  let l := s.line n
  let now := l.polarity.active l.pinHigh
  let s1 := s.onLine n fun l => { l with inputActive := now }
  if now && !l.inputActive then deliverEdge n (raiseEdge n s1) else s1

/-- LINE_PIN_CHANGE: the outside makes the pin high or low. An output line's pin is not read (R172), but the level the
outside gives is kept for when the line becomes an input (log entry 38). -/
def execLinePinChange (n : Fin 8) (high : Bool) (s : State) : Host.Outcome State Fault Refusal :=
  let s1 := s.onLine n fun l => { l with pinHigh := high }
  if (s.line n).function.isInput then .next (judgePin n s1) else .next s1

/-! ## CONFIGURE LINE (R171) -/

/-- The line record after CONFIGURE LINE (R171): a line that leaves OUTPUT becomes inactive as an output, and a line with
an input function takes its input level from the pin, as the outside gives it, under the new polarity (log entry 38). -/
def Line.configure (f : LineFunction) (ch : Fin 4) (p : Polarity) (a : MarkAction) (g : Fin 4) (l : Line) : Line :=
  let stays := decide (f = .output ∧ l.function = .output)
  { function := f
    channel := ch
    polarity := p
    markAction := a
    markGroup := g
    inputActive := f.isInput && p.active l.pinHigh
    outputActive := stays && l.outputActive
    pulseTimer := if stays then l.pulseTimer else 0
    pulseFrame := if stays then l.pulseFrame else none
    pinHigh := l.pinHigh }

/-- A line record in a reply, in the order of R170 (R171): the input level is kept for input functions and the output
level for OUTPUT, so each can be absent; the pulse timer cannot (log entry 37). -/
def Line.bytes (l : Line) : List Byte :=
  be 1 l.function.code ++ be 1 l.channel.val ++ be 1 l.polarity.code ++ be 1 l.markAction.code ++ be 1 l.markGroup.val ++
    optional (fun b => be 1 (levelCode b)) (if l.function.isInput then some l.inputActive else none) ++
    optional (fun b => be 1 (levelCode b)) (if l.function = .output then some l.outputActive else none) ++
    be 1 l.pulseTimer ++ optional (be 5) l.pulseFrame

/-- CONFIGURE LINE (R171): a line that leaves MARK has its latch emptied; the reply carries the line's record. -/
def configureLine (line function channel polarity action group : Nat) (s : State) : Answer :=
  match recordNo 8 line, LineFunction.ofCode function, recordNo 4 channel, Polarity.ofCode polarity,
    MarkAction.ofCode action, recordNo 4 group with
  | some n, some f, some ch, some p, some a, some g =>
    let s1 := s.onLine n (Line.configure f ch p a g)
    let s2 := if f = .mark then s1 else s1.onLatch n fun t => { t with captured := none }
    accept (s2.line n).bytes s2
  | _, _, _, _, _, _ => refuse .badArgument s

/-! ## SET, CLEAR, PULSE and READ LINES (R174, R177) -/

/-- The output levels of all eight lines (R174), each without a presence byte (log entry 37). -/
def outputLevels (s : State) : List Byte := allEight.flatMap fun n => be 1 (levelCode (s.line n).outputActive)

/-- A line action by request (R174). -/
def lineRequest (a : LineAction) (mask length : Nat) (s : State) : Answer :=
  let s1 := actOnLines a mask length s
  accept (outputLevels s1) s1

/-- A line's entry in the reply of READ LINES (R177): a pin is reported high 1 or low 2. -/
def lineEntry (n : Fin 8) (s : State) : List Byte :=
  let l := s.line n
  let t := s.latch n
  be 1 l.function.code ++ be 1 l.channel.val ++ be 1 l.polarity.code ++ be 1 l.markAction.code ++ be 1 l.markGroup.val ++
    be 1 (levelCode (s.lineActive n)) ++ be 1 (levelCode (s.linePin n)) ++
    optional (be 1) (if l.function = .output then some l.pulseTimer else none) ++
    optional (be 5) (if l.function = .output then l.pulseFrame else none) ++
    optional (be 7) t.captured ++ be 2 t.overrun ++ be 2 t.ignored

/-- READ LINES (R177). -/
def readLines (s : State) : Answer := accept (allEight.flatMap fun n => lineEntry n s) s

/-! ## Meanings -/

/-- CONFIGURE_LINE. -/
def execConfigureLine (o : Origin) (line function channel polarity action group : Nat) (s : State) :
    Host.Outcome State Fault Refusal :=
  takeRequest o 37 (configureLine line function channel polarity action group) s

/-- SET_LINES. -/
def execSetLines (o : Origin) (mask : Nat) (s : State) : Host.Outcome State Fault Refusal :=
  takeRequest o 38 (lineRequest .set mask 0) s

/-- CLEAR_LINES. -/
def execClearLines (o : Origin) (mask : Nat) (s : State) : Host.Outcome State Fault Refusal :=
  takeRequest o 39 (lineRequest .clear mask 0) s

/-- PULSE_LINES: the length is clamped into 1 to 255 (R174). -/
def execPulseLines (o : Origin) (mask length : Nat) (s : State) : Host.Outcome State Fault Refusal :=
  takeRequest o 40 (lineRequest .pulse mask (clampPulse length)) s

/-- READ_LINES. -/
def execReadLines (o : Origin) (s : State) : Host.Outcome State Fault Refusal := takeRequest o 41 readLines s

end Sys2Proof.Machine
end

