-- ==== Sys2Proof/Machine/Packet.lean ====
section
/-! DEFINITION. Packets (section 12.2): the header, the check, and the payloads of replies and notices (R179, R180). -/

namespace Sys2Proof.Machine

/-! ## The check (R179) -/

/-- One bit of the check: the register shifted left, with 04C11DB7 added when the bit shifted out is 1. -/
def crcShift (r : BitVec 32) : BitVec 32 := if r.msb then (r <<< 1) ^^^ 0x04C11DB7#32 else r <<< 1

/-- One byte enters the check most significant bit first. -/
def crcByte (r : BitVec 32) (b : Byte) : BitVec 32 :=
  let x := r ^^^ (b.setWidth 32 <<< 24)
  crcShift (crcShift (crcShift (crcShift (crcShift (crcShift (crcShift (crcShift x)))))))

/-- The check of a run of bytes: starting value all ones, inverted result, not bit-reversed (R179). -/
def crc (bytes : List Byte) : BitVec 32 := ~~~(bytes.foldl crcByte 0xFFFFFFFF#32)

/-! ## Headers and whole packets (R179) -/

/-- A packet's header fields and payload (R179). -/
structure Packet where
  kind : Nat
  destination : Nat
  source : Nat
  route : Nat
  frame : Nat
  sub : Nat
  band : Nat
  payload : List Byte
deriving DecidableEq, Repr

/-- The 13-byte header and the payload (R179). -/
def Packet.body (p : Packet) : List Byte :=
  be 1 p.kind ++ be 1 p.destination ++ be 1 p.source ++ be 1 p.route ++ be 5 p.frame ++ be 1 p.sub ++ be 1 p.band ++
    be 2 p.payload.length ++ p.payload

/-- The packet as sent: header, payload, and the check most significant byte first (R179). -/
def Packet.bytes (p : Packet) : List Byte := p.body ++ be 4 (crc p.body).toNat

/-- A received packet read and checked as a whole (R181): none when its check does not match or its payload is not the
length its header gives. -/
def readPacket (bytes : List Byte) : Option Packet :=
  let body := bytes.take (bytes.length - 4)
  let p : Packet :=
    { kind := ofBE (bytes.take 1)
      destination := ofBE ((bytes.drop 1).take 1)
      source := ofBE ((bytes.drop 2).take 1)
      route := ofBE ((bytes.drop 3).take 1)
      frame := ofBE ((bytes.drop 4).take 5)
      sub := ofBE ((bytes.drop 9).take 1)
      band := ofBE ((bytes.drop 10).take 1)
      payload := body.drop 13 }
  if 17 ≤ bytes.length ∧ p.payload.length = ofBE ((bytes.drop 11).take 2) ∧
      ofBE (bytes.drop (bytes.length - 4)) = (crc body).toNat then some p
  else none

/-! ## Replies and notices as packets (R179, R180) -/

/-- A reply as a packet from this endpoint (R184). -/
def Reply.packet (id : Nat) (r : Reply) : Packet :=
  { kind := 3, destination := r.endpoint, source := id, route := 0, frame := 0, sub := 0, band := 0
    payload := be 2 r.tag ++ be 1 r.kind ++ be 1 r.status.code ++ r.results }

/-- A notice kind's position in the table of R188. -/
def NoticeBody.code : NoticeBody → Nat
  | .referenceState .. => 1
  | .markCaptured .. => 2
  | .markFailed .. => 3
  | .clipMarked .. => 4
  | .clipClosed .. => 5
  | .clipDropped .. => 6
  | .protectDone .. | .commitDone .. => 7
  | .shuttleLapse .. => 8
  | .endReached .. => 9
  | .startReached .. => 10
  | .atLive .. => 11
  | .overtaken .. => 12
  | .faultLevel .. => 13
  | .breakAhead .. => 14
  | .breakStart .. => 15
  | .breakEnd .. => 16
  | .cueNote .. => 17
  | .cueFault .. => 18
  | .cueWarning .. => 19
  | .lineEdge .. => 20

/-- A record number in a notice. -/
def noByte {k : Nat} (n : Fin k) : List Byte := be 1 n.val

/-- A binding in a notice: a clip id, or FREE and the stream (R119, R159). -/
def BoundTo.bytes : BoundTo → List Byte
  | .clip id => be 1 1 ++ be 2 id
  | .free stream => be 1 2 ++ be 1 stream

/-- A notice's details, in the order its owning rule names them (R180; log entry 24). Warnings, end actions and mark
actions have the codes of their full lists (log entries 40 and 41). -/
def NoticeBody.details : NoticeBody → List Byte
  | .referenceState old new period frames => be 1 old.code ++ be 1 new.code ++ be 3 period ++ be 5 frames
  | .markCaptured line group time => noByte line ++ noByte group ++ be 7 time
  | .markFailed line action group time status =>
    noByte line ++ be 1 action.code ++ noByte group ++ be 7 time ++ be 1 status.code
  | .clipMarked id group result state tin tout line =>
    be 2 id ++ noByte group ++ be 1 result.code ++ be 1 state.code ++ be 7 tin ++ optional (be 7) tout ++
      optional noByte line
  | .clipClosed id tin tout => be 2 id ++ be 7 tin ++ tout.elim [] (be 7)
  | .clipDropped id group tin tout cause =>
    be 2 id ++ noByte group ++ be 7 tin ++ optional (be 7) tout ++ be 1 cause.code
  | .protectDone id result holes held failure =>
    be 1 1 ++ be 2 id ++ be 1 result.code ++ be 4 holes ++ be 4 held ++
      optional (fun f : Nat × Nat => be 1 f.1 ++ be 6 f.2) failure
  | .commitDone page failing held =>
    be 1 2 ++ be 1 page ++ be 1 (if failing.isSome then 2 else 1) ++ optional (be 1) failing ++ be 1 held
  | .shuttleLapse ch speed => noByte ch ++ beInt 2 speed
  | .endReached ch id action noLive p =>
    noByte ch ++ be 2 id ++ be 1 action.code ++ optional (fun b => be 1 (if b then 2 else 1)) noLive ++ be 7 p
  | .startReached ch bound p => noByte ch ++ bound.bytes ++ be 7 p
  | .atLive ch stream p => noByte ch ++ noByte stream ++ be 7 p
  | .overtaken ch stream before p => noByte ch ++ noByte stream ++ beInt 7 before ++ be 7 p
  | .faultLevel ch old new conditions warnings cause =>
    noByte ch ++ be 1 old ++ be 1 new ++ be 1 conditions.mask ++ be 1 warnings.mask ++
      optional (fun k => be 1 (HaltCause.code k)) cause
  | .breakAhead ch bound pass source action =>
    noByte ch ++ bound.bytes ++ be 1 pass ++ be 1 source.code ++ be 1 action.code
  | .breakStart ch bound pass timer => noByte ch ++ bound.bytes ++ be 1 pass ++ be 2 timer
  | .breakEnd ch bound cause pass announced => noByte ch ++ bound.bytes ++ be 1 cause.code ++ be 1 pass ++ flag announced
  | .cueNote ch tag index mark pass => noByte ch ++ be 1 tag ++ be 2 index ++ be 4 mark ++ be 1 pass
  | .cueFault ch index mark last => noByte ch ++ be 2 index ++ be 4 mark ++ be 4 last
  | .cueWarning ch w index => noByte ch ++ be 1 w.code ++ be 2 index
  | .lineEdge line function ch group => noByte line ++ be 1 function.code ++ optional noByte ch ++ optional noByte group

/-- A notice as a packet from this endpoint to the route's endpoint (R188). -/
def Notice.packet (id endpoint : Nat) (n : Notice) : Packet :=
  { kind := 4, destination := endpoint, source := id, route := 0, frame := 0, sub := 0, band := 0
    payload := be 1 n.body.code ++ be 1 n.body.noticeClass.code ++ be 7 n.time ++ n.body.details }

end Sys2Proof.Machine
end

