-- ==== Sys2Proof/Machine/Recorder.lean ====
section
/-! DEFINITION. The Recorder (chapter 2): ENABLE STREAM, DISABLE STREAM, and the assembly of frames from bands. -/

namespace Sys2Proof.Machine

/-! ## Assembly (section 2.3) -/

/-- A frame in assembly is abandoned: its slot becomes EMPTY with its generation kept, the torn counter rises and the
stream waits (R20). A WAITING stream is left as it is. -/
def abandon (i : Fin 8) (s : State) : State :=
  match (s.stream i).assembly with
  | none => s
  | some a =>
    let r := s.store.slot a.slot
    (s.onStore (Store.setSlot a.slot { r with occupant := .empty })).onStream i fun t =>
      { t with assembly := none, torn := bump t.torn }

/-- The frame commits: its slot becomes FULL, the directory names it, the live key and origin key follow, and the
recall start is recomputed (R25, R45). -/
def commitFrame (i : Fin 8) (key slot : Nat) (s : State) : State :=
  let r := s.store.slot slot
  let s1 := (s.onStore (Store.setSlot slot { r with occupant := .full key })).onAllotment i fun a =>
    { a with directory := a.directory.insert (key % a.size) (key, slot) }
  recomputeRecall i (s1.onStream i fun t =>
    { t with lastKey := some key, originKey := t.originKey.or (some key), assembly := none })

/-- The three time checks of R21. -/
def passesTimeChecks (t : Timer) (k h j : Nat) : Bool :=
  decide (t.state ≠ .unlocked) && decide (h ≤ t.frames + 4 ∧ t.frames ≤ h + 4) && decide (j < k)

/-- A well-formed band 0 that is not stale starts a frame: a slot is claimed and the band written to its first place
(R22). -/
def startFrame (i : Fin 8) (key : Nat) (payload : Band) (s : State) : Host.Outcome State Fault Refusal :=
  match claim i key s with
  | none => .fault .noUnheldSlot
  | some (x, s1) =>
    .next ((s1.onStore (Store.writeBand x 0 payload)).onStream i fun t => { t with assembly := some ⟨key, x, 1⟩ })

/-- A band 0 with exactly one band of picture (R22): it tears a frame in assembly, and is stale or starts a frame. -/
def bandZero (i : Fin 8) (key : Nat) (payload : Band) (s : State) : Host.Outcome State Fault Refusal :=
  let s1 := abandon i s
  match (s1.stream i).lastKey with
  | some live =>
    if key ≤ live then .next (s1.onStream i fun t => { t with stale := bump t.stale })
    else startFrame i key payload s1
  | none => startFrame i key payload s1

/-- A band that continues the frame in assembly: written, and after band 134 the frame commits (R23). -/
def continueFrame (i : Fin 8) (a : Assembly) (payload : Band) (s : State) : State :=
  let s1 := s.onStore (Store.writeBand a.slot a.next payload)
  if a.next = 134 then commitFrame i a.key a.slot s1
  else s1.onStream i fun t => { t with assembly := some { a with next := a.next + 1 } }

/-- A band with a later index that passes the time checks: it continues the frame or misfits (R23, R24). -/
def laterBand (i : Fin 8) (key band : Nat) (payload : Band) (s : State) : State :=
  match (s.stream i).assembly with
  | some a =>
    if a.key = key ∧ a.next = band ∧ band ≤ 134 ∧ payload.length = bandBytes then continueFrame i a payload s
    else abandon i s
  | none => s

/-- One band delivered to an enabled stream, taken as a whole (R21 to R24). -/
def takeBand (i : Fin 8) (h j band : Nat) (payload : Band) (s : State) : Host.Outcome State Fault Refusal :=
  let k := (s.stream i).multiple
  if !passesTimeChecks s.timer k h j then .next (s.onStream i fun t => { t with skew := bump t.skew })
  else if band = 0 then
    if payload.length = bandBytes then bandZero i (h * k + j) payload s else .next (abandon i s)
  else .next (laterBand i (h * k + j) band payload s)

/-! ## ENABLE STREAM and DISABLE STREAM (section 2.2) -/

/-- The sum of the multiples of the other enabled streams (R17, check 6). -/
def budgetOfOthers (i : Fin 8) (s : State) : Nat :=
  ((allEight.filter fun n => decide (n ≠ i) && (s.stream n).enabled).map fun n => (s.stream n).multiple).sum

/-- Whether another enabled stream has the same source id and link (R17, check 5). -/
def routeTaken (i : Fin 8) (sourceId : Nat) (l : Fin 2) (s : State) : Bool :=
  allEight.any fun n =>
    decide (n ≠ i) && (s.stream n).enabled && decide ((s.stream n).source = sourceId ∧ (s.stream n).link = l)

/-- ENABLE STREAM with the stream and link numbers read: checks 2 to 6 of R17 in order, then R18. -/
def enableStreamAt (i : Fin 8) (l : Fin 2) (sourceId k : Nat) (s : State) : Answer :=
  let r := s.stream i
  if r.enabled then refuse .refusedState s
  else if !(s.store.configured && decide (0 < (s.allotment i).size)) then refuse .notConfigured s
  else if r.lastKey.isSome ∧ k ≠ r.multiple then refuse .inUse s
  else if routeTaken i sourceId l s then refuse .inUse s
  else if 32 < budgetOfOthers i s + k then refuse .budget s
  else
    accept (optional (be 6) r.lastKey) (s.onStream i fun t =>
      { t with enabled := true, source := sourceId, link := l, multiple := k, assembly := none })

/-- ENABLE STREAM (R17, R18): the reply carries the last committed key, or absent. -/
def enableStream (stream sourceId link k : Nat) (s : State) : Answer :=
  match recordNo 8 stream, recordNo 2 link with
  | some i, some l =>
    if multipleOk k ∧ sourceId ≤ 255 then enableStreamAt i l sourceId k s else refuse .badArgument s
  | _, _ => refuse .badArgument s

/-- DISABLE STREAM (R19): the reply carries the last committed key (log entry 15). -/
def disableStream (stream : Nat) (s : State) : Answer :=
  match recordNo 8 stream with
  | none => refuse .badArgument s
  | some i =>
    let s1 := if (s.stream i).enabled then (abandon i s).onStream i fun t => { t with enabled := false } else s
    accept (optional (be 6) (s1.stream i).lastKey) s1

/-- ENABLE_STREAM. -/
def execEnableStream (o : Origin) (stream sourceId link k : Nat) (s : State) : Host.Outcome State Fault Refusal :=
  takeRequest o 2 (enableStream stream sourceId link k) s

/-- DISABLE_STREAM. -/
def execDisableStream (o : Origin) (stream : Nat) (s : State) : Host.Outcome State Fault Refusal :=
  takeRequest o 3 (disableStream stream) s

end Sys2Proof.Machine
end

