-- ==== Sys2Proof/Machine/Resets.lean ====
section
/-! DEFINITION. The resets (R191, R192) and a link going DOWN (R178), which can make a RESET PART act. -/

namespace Sys2Proof.Machine

/-- A line after a reset: an INPUT line, ACTIVE_HIGH, whose input level is taken from the pin, as the outside gives it,
without an edge (R170, log entry 38). -/
def Line.afterReset (l : Line) : Line := { inputActive := l.pinHigh, pinHigh := l.pinHigh }

/-- Every line after a reset (R170). -/
def linesAfterReset (t : Eight Line) : Eight Line :=
  ⟨t.z0.afterReset, t.z1.afterReset, t.z2.afterReset, t.z3.afterReset, t.z4.afterReset, t.z5.afterReset,
    t.z6.afterReset, t.z7.afterReset⟩

/-- Every block at its After reset values, with an endpoint id and link ports: the stacked DRAM keeps its contents (R191,
R192). The pins, the model's own fields and the queue of commands are not the part's to reset. -/
def resetBlocks (id : Nat) (links : Two Link) (s : State) : State :=
  { store := { dram := s.store.dram }
    lines := linesAfterReset s.lines
    links := links
    endpoint := { id := id }
    freeIndex := s.freeIndex
    pending := s.pending }

/-- A link port at RESET PART: its state is kept, every queue is emptied, and a packet in transmission is finished
(R191). -/
def Link.afterResetPart (p : Link) : Link := { up := p.up, sending := p.sending }

/-- The RESET PART reset acts (R191). -/
def actResetPart (s : State) : State :=
  { resetBlocks s.endpoint.id ⟨s.links.z0.afterResetPart, s.links.z1.afterResetPart⟩ s with resetHeld := s.resetHeld }

/-- The endpoint id the straps give: 224, plus 1 for STRAP_A high and 2 for STRAP_B high (R182). -/
def strapId (a b : Bool) : Nat := 224 + (if a then 1 else 0) + (if b then 2 else 0)

/-- A line reset or power-on reset (R192): both links DOWN, the id read from the straps. -/
def lineReset (a b : Bool) (s : State) : State := resetBlocks (strapId a b) (Two.fill {}) s

/-! ## A link going DOWN (R178) -/

/-- The port of a link that goes DOWN: its queues are emptied and a packet in transmission is cut off (R178). -/
def Link.goDown (p : Link) : Link :=
  { p with up := false, control := [], replies := [], forward := [], sending := none }

/-- A stream at a link going DOWN: an enabled stream of the link has its assembly abandoned (R26). -/
def streamDown (l : Fin 2) (s : State) (i : Fin 8) : State :=
  if (s.stream i).enabled ∧ (s.stream i).link = l then abandon i s else s

/-- An emission on a link going DOWN ends with its remaining bands dropped and no slip (R166). -/
def Channel.dropEmission (l : Fin 2) (c : Channel) : Channel :=
  { c with mixer := { c.mixer with emission := c.mixer.emission.filter fun e => decide (e.link ≠ l) } }

/-- A channel at a link going DOWN (R178): a CUED, RUNNING or BREAK channel routed to it is HALTED with cause
LINK_DOWN. -/
def channelDown (l : Fin 2) (s : State) (ch : Fin 4) : State :=
  let s1 := s.onChannel ch (Channel.dropEmission l)
  let c := s1.channel ch
  if c.playing && c.config.route.any (fun r => decide (r.link = l)) then
    settleFault ch s.houseTime (haltChannel ch .linkDown s1)
  else s1

/-- Whether a RESET PART waits for its reply to leave on a link (R191). -/
def ResetProgress.onLink (l : Fin 2) : ResetProgress → Bool
  | .none => false
  | .queued k => decide (k = l)
  | .sending k => decide (k = l)

/-- A link goes DOWN, as one event (R178); a RESET PART whose reply is lost with it acts at this event (R191). -/
def linkGoesDown (l : Fin 2) (s : State) : State :=
  let s1 := allFour.foldl (channelDown l) (allEight.foldl (streamDown l) (s.onPort l Link.goDown))
  if s1.endpoint.reset.onLink l then actResetPart s1 else s1

/-- LINK_UP: nothing is restored (R178). While RESET_N is held low the links stay DOWN (R192). -/
def execLinkUp (l : Fin 2) (s : State) : Host.Outcome State Fault Refusal :=
  if s.resetHeld then .next s else .next (s.onPort l fun p => { p with up := true })

/-- LINK_DOWN: of a link that is UP (R178). -/
def execLinkDown (l : Fin 2) (s : State) : Host.Outcome State Fault Refusal :=
  if (s.port l).up then .next (linkGoesDown l s) else .next s

/-- RESET_PART_ACTS: the reply's transmission ends and the reset acts (R191). -/
def execResetPartActs (s : State) : Host.Outcome State Fault Refusal :=
  match s.endpoint.reset with
  | .sending l => .next (actResetPart (s.onPort l fun p => { p with sending := none }))
  | _ => .next s

/-- LINE_RESET: RESET_N rises (R192, log entry 17). -/
def execLineReset (a b : Bool) (s : State) : Host.Outcome State Fault Refusal := .next (lineReset a b s)

/-- POWER_ON_RESET: acts as a line reset does (R192). -/
def execPowerOnReset (a b : Bool) (s : State) : Host.Outcome State Fault Refusal := .next (lineReset a b s)

/-- RESET_N_HELD_LOW: the links go DOWN, and until RESET_N rises the part transmits, forwards and drives nothing (R192,
log entry 17). -/
def execResetNHeldLow (s : State) : Host.Outcome State Fault Refusal :=
  let down : State → Fin 2 → State := fun t l => if (t.port l).up then linkGoesDown l t else t
  .next (allLinks.foldl down { s with resetHeld := true })

end Sys2Proof.Machine
end

