-- ==== Sys2Proof/Machine/Links.lean ====
section
/-! DEFINITION. Link Ports (chapter 12): a packet received and classified, and the transmitter. -/

namespace Sys2Proof.Machine

/-! ## Receiving (R181, R183) -/

/-- The other link. -/
def otherLink (l : Fin 2) : Fin 2 :=
  match l with
  | 0 => 1
  | 1 => 0

/-- A packet for elsewhere joins the forward queue of the other link, or is dropped and counted there when that queue
holds 16 or its link is DOWN (R183). -/
def Link.takeForward (bytes : List Byte) (p : Link) : Link :=
  if p.up ∧ p.forward.length < 16 then { p with forward := p.forward ++ [bytes] }
  else { p with forwardDrop := bump p.forwardDrop }

def forwardPacket (l : Fin 2) (bytes : List Byte) (s : State) : State :=
  s.onPort (otherLink l) (Link.takeForward bytes)

/-- The enabled stream with a source id on a link (R183). -/
def streamFor (l : Fin 2) (sourceId : Nat) (s : State) : Option (Fin 8) :=
  allEight.find? fun i =>
    (s.stream i).enabled && decide ((s.stream i).source = sourceId ∧ (s.stream i).link = l)

/-- A byte of a request's tag and kind; one the payload does not reach is a free byte (log entry 12). -/
def headByte (payload : List Byte) (free i : Nat) : Byte := payload.getD i (Config.missingByte (free + i))

/-- A request's tag and kind, as its reply returns them (R184). -/
def requestHead (payload : List Byte) (free : Nat) : Nat × Nat :=
  (ofBE [headByte payload free 0, headByte payload free 1], (headByte payload free 2).toNat)

/-- The free bytes a request's head used up. -/
def useFree (payload : List Byte) (s : State) : State :=
  if payload.length < 3 then { s with freeIndex := s.freeIndex + 3 } else s

/-- The BUSY reply of a request that finds a full control queue: queued if there is room, otherwise dropped and counted
(R185). -/
def busyReply (l : Fin 2) (source : Nat) (payload : List Byte) (s : State) : State :=
  let head := requestHead payload s.freeIndex
  if (s.port l).replies.length < 8 then
    queueReply ⟨l, source, head.1⟩ head.2 .busy [] (useFree payload s)
  else s.onPort l fun p => { p with replyDrop := bump p.replyDrop }

/-- A request addressed to this endpoint (R183, R185). -/
def takeControl (l : Fin 2) (p : Packet) (s : State) : State :=
  if (s.port l).control.length < 4 then
    s.onPort l fun q => { q with control := q.control ++ [⟨p.source, p.payload⟩] }
  else busyReply l p.source p.payload s

/-- A packet that passed the check, classified by destination and kind as one event (R183). -/
def classify (l : Fin 2) (p : Packet) (bytes : List Byte) (s : State) : Host.Outcome State Fault Refusal :=
  let band : Fin 8 → State → Host.Outcome State Fault Refusal := fun i => takeBand i p.frame p.sub p.band p.payload
  if p.destination = s.endpoint.id then
    if p.kind = 1 then
      match streamFor l p.route s with
      | some i => band i s
      | none => .next (s.onPort l fun q => { q with unrouted := bump q.unrouted })
    else if p.kind = 2 then .next (takeControl l p s)
    else .next s
  else if p.destination = 255 ∧ p.kind = 1 then
    match streamFor l p.route s with
    | some i => band i (forwardPacket l bytes s)
    | none => .next (forwardPacket l bytes s)
  else .next (forwardPacket l bytes s)

/-- PACKET_RECEIVE on a link that is UP: checked as a whole, then dropped with a count or classified (R178, R181,
R183). -/
def execPacketReceive (l : Fin 2) (bytes : List Byte) (s : State) : Host.Outcome State Fault Refusal :=
  if (s.port l).up then
    match readPacket bytes with
    | none => .next (s.onPort l fun q => { q with badCheck := bump q.badCheck })
    | some p => classify l p bytes s
  else .next s

/-! ## The transmitter (R186) -/

/-- The channels in rotation, from the one after the one served last (R186). -/
def rotationFrom (r : Fin 4) : List (Fin 4) := [r + 1, r + 2, r + 3, r]

/-- The first channel in rotation whose emission is on a link (R186). -/
def bandReady (l : Fin 2) (s : State) : Option (Fin 4 × Emission) :=
  (rotationFrom (s.port l).rotation).findSome? fun ch =>
    match (s.channel ch).mixer.emission with
    | some e => if e.link = l then some (ch, e) else none
    | none => none

/-- The emission after the band at its cursor has been handed on: DONE after band 134 (R166). -/
def Emission.after (e : Emission) : Option Emission := if e.next < 134 then some { e with next := e.next + 1 } else none

/-- The BAND packet of an emission's next band (R166). -/
def bandPacket (id : Nat) (ch : Fin 4) (e : Emission) (c : Channel) : Packet :=
  { kind := 1, destination := e.endpoint, source := id, route := ch.val, frame := e.frame, sub := 0, band := e.next
    payload := (c.mixer.sent.map fun f => f.band e.next).getD [] }

/-- An output band is chosen (R166, R186). -/
def sendBand (l : Fin 2) (ch : Fin 4) (e : Emission) (s : State) : State :=
  let p := bandPacket s.endpoint.id ch e (s.channel ch)
  (s.onChannel ch fun c => { c with mixer := { c.mixer with emission := e.after } }).onPort l fun q =>
    { q with sending := some p.bytes, rotation := ch }

/-- Whether a reply is that of the RESET PART taken (R191). -/
def Reply.ofReset (r : Reply) : Bool := decide (r.kind = 46 ∧ r.status = .ok)

/-- A reply is chosen; when it is the RESET PART's, its transmission is what the reset waits for (R191). -/
def sendReply (l : Fin 2) (r : Reply) (rest : List Reply) (s : State) : State :=
  let s1 := s.onPort l fun q => { q with sending := some (r.packet s.endpoint.id).bytes, replies := rest }
  if r.ofReset ∧ s.endpoint.reset = .queued l then s1.onEndpoint fun e => { e with reset := .sending l } else s1

/-- The head of the notice queue is chosen, when the notice route names the link (R186, R188). -/
def sendNotice (l : Fin 2) (s : State) : State :=
  match s.endpoint.route, s.endpoint.notices with
  | some r, n :: rest =>
    if r.link = l then
      (s.onEndpoint fun e => { e with notices := rest }).onPort l fun q =>
        { q with sending := some (n.packet s.endpoint.id r.endpoint).bytes }
    else s
  | _, _ => s

/-- An idle transmitter chooses from the first source that has a packet: output bands, forward queue, reply queue, notice
queue (R186). -/
def chooseNext (l : Fin 2) (s : State) : State :=
  match bandReady l s with
  | some (ch, e) => sendBand l ch e s
  | none =>
    match (s.port l).forward with
    | b :: rest => s.onPort l fun q => { q with sending := some b, forward := rest }
    | [] =>
      match (s.port l).replies with
      | r :: rest => sendReply l r rest s
      | [] => sendNotice l s

/-- Whether the RESET PART's reply is in transmission: nothing follows the packets in transmission until the reset has
acted (R191, log entry 18). -/
def ResetProgress.isSending : ResetProgress → Bool
  | .sending _ => true
  | _ => false

/-- TRANSMIT_CHOOSE: by the idle transmitter of a link that is UP (R178, R186, R191, R192). -/
def execTransmitChoose (l : Fin 2) (s : State) : Host.Outcome State Fault Refusal :=
  let p := s.port l
  if p.up && p.sending.isNone && !s.resetHeld && !s.endpoint.reset.isSending then .next (chooseNext l s) else .next s

/-- TRANSMIT_END: the transmission on a link ends; when it was the RESET PART's reply, the reset acts (R186, R191). -/
def execTransmitEnd (l : Fin 2) (s : State) : Host.Outcome State Fault Refusal :=
  let s1 := s.onPort l fun p => { p with sending := none }
  if s.endpoint.reset = .sending l then .next (actResetPart s1) else .next s1

end Sys2Proof.Machine
end

