-- ==== Sys2Proof/Machine/PartStatus.lean ====
section
/-! DEFINITION. The Control Endpoint's own requests (sections 12.6 and 12.7): notice enables and route, READ STATUS, CLEAR
STATUS, RESET PART, and the refusal of an unknown request. -/

namespace Sys2Proof.Machine

/-! ## Notice enables and route (R187) -/

/-- The enables and the route in a reply (R187). -/
def noticeSettings (e : Endpoint) : List Byte := be 1 e.enables.toNat ++ optional routeBytes e.route

/-- SET NOTICE ENABLES (R187). -/
def setNoticeEnables (classes : Nat) (s : State) : Answer :=
  if 255 < classes then refuse .badArgument s
  else
    let s1 := s.onEndpoint fun e => { e with enables := BitVec.ofNat 8 classes }
    accept (noticeSettings s1.endpoint) s1

/-- The endpoint with a notice route; NONE empties the notice queue without setting NOTICE_LOSS (R187). -/
def Endpoint.setRoute (r : Option Route) (e : Endpoint) : Endpoint :=
  { e with route := r, notices := if r.isNone then [] else e.notices }

/-- SET NOTICE ROUTE (R187). -/
def setNoticeRoute (a : Option RouteArg) (s : State) : Answer :=
  match routeArg 254 a with
  | none => refuse .badArgument s
  | some r =>
    let s1 := s.onEndpoint (Endpoint.setRoute r)
    accept (noticeSettings s1.endpoint) s1

/-! ## READ STATUS (R189) -/

/-- The reference part (R15). -/
def referencePart (s : State) : List Byte :=
  be 1 s.timer.state.code ++ be 1 s.timer.rate.code ++ be 3 s.timer.period ++ be 7 s.houseTime

/-- One stream of the stream part (R31). -/
def streamPart (i : Fin 8) (s : State) : List Byte :=
  let r := s.stream i
  let oldest := if r.lastKey.isSome then s.recallStart i else none
  flag r.enabled ++ be 1 r.source ++ be 1 r.link.val ++ be 1 r.multiple ++
    be 1 (if r.assembly.isSome then 2 else 1) ++ optional (fun a : Assembly => be 6 a.key) r.assembly ++
    optional (be 6) r.lastKey ++ optional (be 6) r.originKey ++ optional (be 7) oldest ++
    be 2 r.torn ++ be 2 r.stale ++ be 2 r.skew

/-- One stream of the store part (R53): H and U are sent for every stream, 0 for one without an allotment, and only first
slot and cursor can be absent (log entry 31). -/
def allotmentPart (a : Allotment) : List Byte :=
  be 3 a.size ++ optional (be 2) a.first ++ be 2 a.floor ++ be 2 a.held ++ be 3 a.unheld ++ optional (be 2) a.cursor

/-- The store part (R53). -/
def storePart (s : State) : List Byte :=
  flag s.store.configured ++ (allEight.flatMap fun i => allotmentPart (s.allotment i)) ++ be 2 s.store.errors

/-- A link's four counters (R189). -/
def linkCounters (p : Link) : List Byte := be 2 p.badCheck ++ be 2 p.unrouted ++ be 2 p.forwardDrop ++ be 2 p.replyDrop

/-- The counters of the last item of R189. -/
def counterPart (s : State) : List Byte :=
  (allLinks.flatMap fun l => linkCounters (s.port l)) ++ be 2 s.timer.offRate ++
    (allEight.flatMap fun i => be 2 (s.stream i).torn ++ be 2 (s.stream i).stale ++ be 2 (s.stream i).skew) ++
    be 2 s.store.errors ++ (allEight.flatMap fun n => be 2 (s.latch n).overrun ++ be 2 (s.latch n).ignored) ++
    (allFour.flatMap fun ch => be 2 (s.channel ch).mixer.slip)

/-- The results of READ STATUS, in the order of R189; a link state is UP 1 or DOWN 2 (R178). -/
def statusBytes (s : State) : List Byte :=
  let e := s.endpoint
  be 1 e.id ++ (allLinks.flatMap fun l => be 1 (if (s.port l).up then 1 else 2)) ++ noticeSettings e ++
    be 1 e.notices.length ++ flag e.noticeLoss ++ referencePart s ++ (allEight.flatMap fun i => streamPart i s) ++
    storePart s ++ counterPart s

/-- READ STATUS (R189). -/
def readStatus (s : State) : Answer := accept (statusBytes s) s

/-! ## CLEAR STATUS (R189, R190) -/

def Link.clearCounters (p : Link) : Link := { p with badCheck := 0, unrouted := 0, forwardDrop := 0, replyDrop := 0 }
def Stream.clearCounters (r : Stream) : Stream := { r with torn := 0, stale := 0, skew := 0 }
def Latch.clearCounters (t : Latch) : Latch := { t with overrun := 0, ignored := 0 }
def Channel.clearSlip (c : Channel) : Channel := { c with mixer := { c.mixer with slip := 0 } }

/-- Every counter of R189 is set to 0 and NOTICE_LOSS cleared; all other state stays (R189, R190). -/
def clearCounters (s : State) : State :=
  { s with
    timer := { s.timer with offRate := 0 }
    streams :=
      ⟨s.streams.z0.clearCounters, s.streams.z1.clearCounters, s.streams.z2.clearCounters, s.streams.z3.clearCounters,
        s.streams.z4.clearCounters, s.streams.z5.clearCounters, s.streams.z6.clearCounters, s.streams.z7.clearCounters⟩
    store := { s.store with errors := 0 }
    latches :=
      ⟨s.latches.z0.clearCounters, s.latches.z1.clearCounters, s.latches.z2.clearCounters, s.latches.z3.clearCounters,
        s.latches.z4.clearCounters, s.latches.z5.clearCounters, s.latches.z6.clearCounters, s.latches.z7.clearCounters⟩
    channels :=
      ⟨s.channels.z0.clearSlip, s.channels.z1.clearSlip, s.channels.z2.clearSlip, s.channels.z3.clearSlip⟩
    links := ⟨s.links.z0.clearCounters, s.links.z1.clearCounters⟩
    endpoint := { s.endpoint with noticeLoss := false } }

/-- CLEAR STATUS (R189). -/
def clearStatus (s : State) : Answer := accept [] (clearCounters s)

/-! ## RESET PART and unknown requests (R185, R191) -/

/-- RESET PART: its OK reply is queued, and from then on the arbiter takes no request (R191). -/
def resetPart (l : Fin 2) (s : State) : Answer := accept [] (s.onEndpoint fun e => { e with reset := .queued l })

/-! ## Meanings -/

/-- SET_NOTICE_ENABLES. -/
def execSetNoticeEnables (o : Origin) (classes : Nat) (s : State) : Host.Outcome State Fault Refusal :=
  takeRequest o 42 (setNoticeEnables classes) s

/-- SET_NOTICE_ROUTE. -/
def execSetNoticeRoute (o : Origin) (r : Option RouteArg) (s : State) : Host.Outcome State Fault Refusal :=
  takeRequest o 43 (setNoticeRoute r) s

/-- READ_STATUS. -/
def execReadStatus (o : Origin) (s : State) : Host.Outcome State Fault Refusal := takeRequest o 44 readStatus s

/-- CLEAR_STATUS. -/
def execClearStatus (o : Origin) (s : State) : Host.Outcome State Fault Refusal := takeRequest o 45 clearStatus s

/-- RESET_PART. -/
def execResetPart (o : Origin) (s : State) : Host.Outcome State Fault Refusal := takeRequest o 46 (resetPart o.link) s

/-- UNKNOWN_REQUEST: a kind outside the request table, 1 to 46, is refused (R185). A kind of the table is not this
event. -/
def execUnknownRequest (o : Origin) (kind : Nat) (s : State) : Host.Outcome State Fault Refusal :=
  if 1 ≤ kind ∧ kind ≤ 46 then .next s else takeRequest o kind (refuse .unknownRequest) s

end Sys2Proof.Machine
end

