-- ==== Sys2Proof/Machine/Dispatch.lean ====
section
/-! DEFINITION. The meaning of each command, one arm per constructor of `Instr`. -/

namespace Sys2Proof.Machine

def exec (i : Instr) (s : State) : Host.Outcome State Fault Refusal :=
  match i with
  | .referencePulse c => Sys2Proof.Machine.execReferencePulse c s
  | .flywheelExpiry => Sys2Proof.Machine.execFlywheelExpiry s
  | .lostFreeRun => Sys2Proof.Machine.execLostFreeRun s
  | .pulseEnd line => Sys2Proof.Machine.execPulseEnd line s
  | .shuttleLapse ch => Sys2Proof.Machine.execShuttleLapse ch s
  | .holdCountExpiry ch => Sys2Proof.Machine.execHoldCountExpiry ch s
  | .breakTimerExpiry ch => Sys2Proof.Machine.execBreakTimerExpiry ch s
  | .fetchCompletion error => Sys2Proof.Machine.execFetchCompletion error s
  | .protectLookupServed => Sys2Proof.Machine.execProtectLookupServed s
  | .withdrawnLookupEnd => Sys2Proof.Machine.execWithdrawnLookupEnd s
  | .cueCommitComplete => Sys2Proof.Machine.execCueCommitComplete s
  | .linkUp link => Sys2Proof.Machine.execLinkUp link s
  | .linkDown link => Sys2Proof.Machine.execLinkDown link s
  | .packetReceive link bytes => Sys2Proof.Machine.execPacketReceive link bytes s
  | .transmitChoose link => Sys2Proof.Machine.execTransmitChoose link s
  | .transmitEnd link => Sys2Proof.Machine.execTransmitEnd link s
  | .linePinChange line high => Sys2Proof.Machine.execLinePinChange line high s
  | .setHouseTime o rate count => Sys2Proof.Machine.execSetHouseTime o rate count s
  | .enableStream o stream sourceId link multiple => Sys2Proof.Machine.execEnableStream o stream sourceId link multiple s
  | .disableStream o stream => Sys2Proof.Machine.execDisableStream o stream s
  | .configureStore o pairs => Sys2Proof.Machine.execConfigureStore o pairs s
  | .setMarkGroup o group angles defaultLength preRoll postRoll recycle => Sys2Proof.Machine.execSetMarkGroup o group angles defaultLength preRoll postRoll recycle s
  | .readMarkGroup o group => Sys2Proof.Machine.execReadMarkGroup o group s
  | .markIn o group time => Sys2Proof.Machine.execMarkIn o group time s
  | .markOut o group time => Sys2Proof.Machine.execMarkOut o group time s
  | .markSpot o group time => Sys2Proof.Machine.execMarkSpot o group time s
  | .setClipLabel o id label => Sys2Proof.Machine.execSetClipLabel o id label s
  | .dropClip o id => Sys2Proof.Machine.execDropClip o id s
  | .listClips o start count => Sys2Proof.Machine.execListClips o start count s
  | .readClip o id => Sys2Proof.Machine.execReadClip o id s
  | .takeLatch o line action group => Sys2Proof.Machine.execTakeLatch o line action group s
  | .protectClip o id => Sys2Proof.Machine.execProtectClip o id s
  | .releaseClip o id => Sys2Proof.Machine.execReleaseClip o id s
  | .configureChannel o ch args => Sys2Proof.Machine.execConfigureChannel o ch args s
  | .bindChannel o ch form => Sys2Proof.Machine.execBindChannel o ch form s
  | .play o ch target immediate => Sys2Proof.Machine.execPlay o ch target immediate s
  | .stop o ch immediate => Sys2Proof.Machine.execStop o ch immediate s
  | .shuttle o ch speed => Sys2Proof.Machine.execShuttle o ch speed s
  | .jog o ch n => Sys2Proof.Machine.execJog o ch n s
  | .seek o ch form => Sys2Proof.Machine.execSeek o ch form s
  | .angle o ch number => Sys2Proof.Machine.execAngle o ch number s
  | .halt o ch => Sys2Proof.Machine.execHalt o ch s
  | .resetChannel o ch => Sys2Proof.Machine.execResetChannel o ch s
  | .readChannel o ch => Sys2Proof.Machine.execReadChannel o ch s
  | .clearWarnings o ch => Sys2Proof.Machine.execClearWarnings o ch s
  | .stageCues o start records => Sys2Proof.Machine.execStageCues o start records s
  | .clearStaging o => Sys2Proof.Machine.execClearStaging o s
  | .readStaging o => Sys2Proof.Machine.execReadStaging o s
  | .commitCuePage o page => Sys2Proof.Machine.execCommitCuePage o page s
  | .readCuePage o page => Sys2Proof.Machine.execReadCuePage o page s
  | .bindCues o ch first count => Sys2Proof.Machine.execBindCues o ch first count s
  | .requestBreak o ch => Sys2Proof.Machine.execRequestBreak o ch s
  | .continue_ o ch => Sys2Proof.Machine.execContinue o ch s
  | .configureLine o line function channel polarity action group => Sys2Proof.Machine.execConfigureLine o line function channel polarity action group s
  | .setLines o mask => Sys2Proof.Machine.execSetLines o mask s
  | .clearLines o mask => Sys2Proof.Machine.execClearLines o mask s
  | .pulseLines o mask length => Sys2Proof.Machine.execPulseLines o mask length s
  | .readLines o => Sys2Proof.Machine.execReadLines o s
  | .setNoticeEnables o classes => Sys2Proof.Machine.execSetNoticeEnables o classes s
  | .setNoticeRoute o route => Sys2Proof.Machine.execSetNoticeRoute o route s
  | .readStatus o => Sys2Proof.Machine.execReadStatus o s
  | .clearStatus o => Sys2Proof.Machine.execClearStatus o s
  | .resetPart o => Sys2Proof.Machine.execResetPart o s
  | .unknownRequest o kind => Sys2Proof.Machine.execUnknownRequest o kind s
  | .resetPartActs => Sys2Proof.Machine.execResetPartActs s
  | .lineReset strapA strapB => Sys2Proof.Machine.execLineReset strapA strapB s
  | .powerOnReset strapA strapB => Sys2Proof.Machine.execPowerOnReset strapA strapB s
  | .resetNHeldLow => Sys2Proof.Machine.execResetNHeldLow s

end Sys2Proof.Machine
end

