-- ==== Sys2Proof/Machine/Arbiter.lean ====
section
/-! DEFINITION. The endpoint arbiter (section 12.4): which control queue it serves, and the request it takes from it. -/

namespace Sys2Proof.Machine

/-- Whether a link offers the arbiter a request: one waits in its control queue, and the arbiter can take requests of
this link (R185, R191). -/
def State.offers (s : State) (l : Fin 2) : Bool := s.canTake l && !(s.port l).control.isEmpty

/-- The link whose request the arbiter takes next: the only one that offers, or with both offering the one not served
last (R185). -/
def State.nextServed (s : State) : Option (Fin 2) :=
  let other := otherLink s.endpoint.lastServed
  if s.offers other then some other
  else if s.offers s.endpoint.lastServed then some s.endpoint.lastServed
  else none

/-- A request with its origin, kind and argument bytes is carried out; arguments that are too short or malformed are
refused BAD_ARGUMENT (R185, log entry 10). -/
def serveRequest (o : Origin) (kind : Nat) (args : List Byte) (s : State) : Host.Outcome State Fault Refusal :=
  match decodeRequest o kind args with
  | .request i => exec i s
  | .malformed => takeRequest o kind (refuse .badArgument) s

/-- The oldest request of a link's control queue leaves the queue and is taken (R184, R185). A payload too short for a tag
and a kind is refused BAD_ARGUMENT (log entry 12). -/
def takeOffered (l : Fin 2) (s : State) : Host.Outcome State Fault Refusal :=
  match (s.port l).control with
  | [] => .next s
  | r :: rest =>
    let head := requestHead r.payload s.freeIndex
    let o : Origin := ⟨l, r.source, head.1⟩
    let s1 := useFree r.payload (s.onPort l fun p => { p with control := rest })
    if r.payload.length < 3 then takeRequest o head.2 (refuse .badArgument) s1
    else serveRequest o head.2 (r.payload.drop 3) s1

/-- What the part does when no command waits: the arbiter takes a request that is offered, and otherwise a period of the
local clock passes (log entry 1). -/
def idle (s : State) : Host.Outcome State Fault Refusal :=
  match s.nextServed with
  | some l => takeOffered l s
  | none => clockTick s

end Sys2Proof.Machine
end

