-- ==== Sys2Proof/Safety.lean ====
section
/-! DEFINITION. The terms statements use: a request answered, a band delivered, what a boundary leaves alone, and the
invariants of the part that every step keeps. -/

namespace Sys2Proof.Machine

/-! ## Answers -/

/-- The link of a request becomes the one served last (R185). -/
def State.served (o : Origin) (s : State) : State := s.onEndpoint fun e => { e with lastServed := o.link }

/-- A request refused: only its reply and the arbiter's turn change (R184). -/
def State.refused (o : Origin) (kind : Nat) (st : Status) (s : State) : State := queueReply o kind st [] (s.served o)

/-! ## Packets delivered -/

/-- A packet's route byte names an enabled stream of the link it came in on (R183): the first one, if a state no run from
reset shows has two. -/
def State.takes (s : State) (l : Fin 2) (p : Packet) (i : Fin 8) : Prop :=
  (s.stream i).enabled = true ∧ (s.stream i).source = p.route ∧ (s.stream i).link = l ∧
    ∀ n, n < i → ¬((s.stream n).enabled = true ∧ (s.stream n).source = p.route ∧ (s.stream n).link = l)

/-- A packet that arrives on a link that is UP, passes the check and is a BAND of this endpoint for an enabled stream
(R181, R183). -/
def State.delivers (s : State) (l : Fin 2) (bytes : List Byte) (i : Fin 8) (p : Packet) : Prop :=
  (s.port l).up = true ∧ readPacket bytes = some p ∧ p.destination = s.endpoint.id ∧ p.kind = 1 ∧ s.takes l p i

/-- A band a stream takes that passes the three time checks (R21). -/
def State.delivered (s : State) (l : Fin 2) (bytes : List Byte) (i : Fin 8) (p : Packet) : Prop :=
  s.delivers l bytes i p ∧ s.timer.state ≠ .unlocked ∧ p.frame ≤ s.timer.frames + 4 ∧ s.timer.frames ≤ p.frame + 4 ∧
    p.sub < (s.stream i).multiple

/-- The frame key of a band for a stream (R13). -/
def State.bandKey (s : State) (i : Fin 8) (p : Packet) : Nat := p.frame * (s.stream i).multiple + p.sub

/-! ## A channel's bounds -/

/-- A channel's positions lie from `lo` to `hi` (R101): the in and out points of its clip, or the recall start and live
edge of its stream. -/
def State.boundedBy (s : State) (ch : Fin 4) (lo hi : Nat) : Prop :=
  (∃ id a c, (s.channel ch).binding = .clip id a ∧ s.clip id = some c ∧ c.inPoint = lo ∧ c.outPoint = some hi) ∨
    ∃ origin i, (s.channel ch).binding = .free origin i ∧ s.recallStart i = some lo ∧ s.liveEdge i = some hi

/-- A signed position brought between bounds (R101, R102). -/
def within (lo hi : Nat) (x : Int) : Nat := if x ≤ lo then lo else if (hi : Int) ≤ x then hi else x.toNat

/-! ## What a boundary leaves alone -/

/-- The fields of a line that only a request or a pin changes (R170). -/
def Line.sameSetting (l m : Line) : Prop :=
  m.function = l.function ∧ m.channel = l.channel ∧ m.polarity = l.polarity ∧ m.markAction = l.markAction ∧
    m.markGroup = l.markGroup ∧ m.inputActive = l.inputActive ∧ m.pinHigh = l.pinHigh

/-- What a house frame boundary leaves as it was (R10, R11): the streams, mark groups, latches, the Protect Engine, cue
memory and the link ports; the store's configuration, slots, band data and error counter; the endpoint but for its
notices; the configuration and cue binding of every channel; and the settings and inputs of every line. -/
structure BoundaryFrame (s t : State) : Prop where
  timer : t.timer = { s.timer with frames := nextFrame s.timer.frames, fresh := false }
  streams : t.streams = s.streams
  groups : t.groups = s.groups
  latches : t.latches = s.latches
  engine : t.engine = s.engine
  cues : t.cues = s.cues
  links : t.links = s.links
  store : t.store.configured = s.store.configured ∧ t.store.allotments = s.store.allotments ∧
    t.store.slots = s.store.slots ∧ t.store.dram = s.store.dram ∧ t.store.errors = s.store.errors
  endpoint : t.endpoint.id = s.endpoint.id ∧ t.endpoint.lastServed = s.endpoint.lastServed ∧
    t.endpoint.enables = s.endpoint.enables ∧ t.endpoint.route = s.endpoint.route ∧ t.endpoint.reset = s.endpoint.reset
  channels : ∀ ch, (t.channel ch).config = (s.channel ch).config ∧ (t.channel ch).cueBinding = (s.channel ch).cueBinding
  lines : ∀ n, (s.line n).sameSetting (t.line n)
  rest : t.resetHeld = s.resetHeld ∧ t.freeIndex = s.freeIndex ∧ t.pending = s.pending

/-! ## After a reset -/

/-- Every record at the After reset values of its chapter, field by field, with an endpoint id and the levels the outside
gives the line pins. The stacked DRAM, the links' states, the packets in transmission, the level of RESET_N and the
model's own `freeIndex` and `pending` are left to the statements. -/
structure AfterReset (id : Nat) (pin : Fin 8 → Bool) (s : State) : Prop where
  /-- Section 1.2, with `fresh` for the interval of R3. -/
  timer : s.timer =
    { state := .unlocked, rate := .hz50, period := 4000000, count := 0, missing := 0, frames := 0, offRate := 0,
      fresh := true }
  rate : s.timer.nominal = 4000000 ∧ s.timer.tolerance = 15625
  /-- Section 2.1. -/
  streams : ∀ i, s.stream i =
    { enabled := false, source := 0, link := 0, multiple := 1, assembly := none, lastKey := none, originKey := none,
      torn := 0, stale := 0, skew := 0 }
  /-- Sections 3.1 to 3.6: no allotment, range, cursor, directory or recall start. -/
  allotments : ∀ i, s.allotment i =
    { size := 0, first := none, floor := 0, cursor := none, held := 0, directory := [], recallStart := none }
  /-- Section 3.2. -/
  slots : s.store.slots = [] ∧ ∀ x, s.store.slot x = { occupant := .empty, holds := 0, generation := 0 } ∧
    s.store.owner x = none
  store : s.store.configured = false ∧ s.store.service = none ∧ s.store.queue = [] ∧ s.store.errors = 0
  /-- Section 4.1. -/
  groups : ∀ g, s.group g =
    { angles := [0], defaultLength := 400, preRoll := 150, postRoll := 100, recycle := false, openClip := none }
  clips : s.clips = []
  /-- Section 4.7; the mark action and group of a latch are its line's. -/
  latches : ∀ n, s.latch n = { captured := none, overrun := 0, ignored := 0 }
  /-- Section 5.1. -/
  engine : s.engine = { walk := none, lookup := .none, withdrawn := false }
  /-- Section 6.1, with the scanner of section 8.5 and the Mixer of section 10.1. -/
  channels : ∀ ch, s.channel ch =
    { state := .idle, binding := .unbound, position := 0, speed := 0, target := 0, source := .program, holdOff := 0
      hold := 0
      config :=
        { programRamp := 8, shuttleRamp := 24, shuttleHoldOff := 25, endAction := .stop, passPeriod := 1,
          breakLimit := 0, mixMode := .blend, fill := .black, route := none }
      passCount := 0, breakRequested := false, breakAnnounced := false, breakTimer := 0, atLive := false
      warnings :=
        { gap := false, overtaken := false, stackOverflow := false, returnEmpty := false, cueRange := false,
          storeError := false }
      conditions := { late := false, degraded := false, cueFault := false }
      level := 0, cueBinding := none
      scanner := { state := .waiting, index := 0, lastMark := none, reseek := true }
      stack := []
      mixer := { prepared := none, sent := none, lastPicture := none, emission := none, score := 0, slip := 0 } }
  mix : ∀ ch, (s.channel ch).effectiveMix = .blend
  /-- Sections 8.2 and 8.3. -/
  cues : s.cues =
    { pages := List.replicate 16 (List.replicate 32 { mark := 0, passRepeat := 1, passFirst := 0, body := .listEnd })
      staging := List.replicate 32 none, cursor := 0, commit := none }
  /-- Section 11.1: the input level is taken from the pin. -/
  lines : ∀ n, s.line n =
    { function := .input, channel := 0, polarity := .activeHigh, markAction := .latchOnly, markGroup := 0
      inputActive := pin n, outputActive := false, pulseTimer := 0, pulseFrame := none, pinHigh := pin n }
  /-- Sections 12.3 to 12.6: empty queues, the rotation at channel 3, counters at 0. -/
  links : ∀ l, s.port l =
    { up := (s.port l).up, sending := (s.port l).sending, control := [], replies := [], forward := [], rotation := 3,
      badCheck := 0, unrouted := 0, forwardDrop := 0, replyDrop := 0 }
  endpoint : s.endpoint =
    { id := id, lastServed := 1, enables := 0, route := none, notices := [], noticeLoss := false, reset := .none }

/-! ## Invariants -/

/-- The queues of a link port hold what R183 and R185 let them hold, and a DOWN link's are empty with nothing in
transmission (R178). -/
def Link.bounded (p : Link) : Prop :=
  p.control.length ≤ 4 ∧ p.replies.length ≤ 8 ∧ p.forward.length ≤ 16 ∧
    (p.up = false → p.control = [] ∧ p.replies = [] ∧ p.forward = [] ∧ p.sending = none)

/-- The notice queue holds at most 32 notices (R188), and none while there is no notice route (R187). -/
def Endpoint.bounded (e : Endpoint) : Prop := e.notices.length ≤ 32 ∧ (e.route = none → e.notices = [])

/-- Every queue of chapter 12 within its bounds. -/
def QueuesBounded (s : State) : Prop := (∀ l, (s.port l).bounded) ∧ s.endpoint.bounded

/-- The number of protect lookups waiting or in service (R48). -/
def Store.lookupsInFlight (st : Store) : Nat := (st.inFlight.filter fun e => !e.isFetch).length

/-- What the read service may have waiting or in service (R48): at most two fetches of each channel (R125), and one lookup,
which is the PENDING one of the walk or the withdrawn one (R80, R89). A withdrawn lookup is in service, and no other is
PENDING beside it (R78, R89); without a walk the engine has no lookup (R77). -/
def ReadsBounded (s : State) : Prop :=
  (∀ ch, s.store.fetchesOf ch ≤ 2) ∧ s.store.lookupsInFlight ≤ 1 ∧
    (0 < s.store.lookupsInFlight → s.engine.lookup = .pending ∨ s.engine.withdrawn = true) ∧
    (s.engine.withdrawn = true → s.store.servingLookup = true ∧ s.engine.lookup ≠ .pending) ∧
    (s.engine.walk = none → s.engine.lookup = .none)

/-- The streams as ENABLE STREAM lets them be (R17): source ids and multiples in their ranges, no two enabled streams with
one source id and link, and the multiples of the enabled streams at most 32 in sum. -/
def StreamsBudgeted (s : State) : Prop :=
  (∀ i, (s.stream i).source ≤ 255 ∧ (s.stream i).multiple ∈ [1, 2, 3, 4, 6, 8]) ∧
    (∀ i j, (s.stream i).enabled = true → (s.stream j).enabled = true → (s.stream i).source = (s.stream j).source →
      (s.stream i).link = (s.stream j).link → i = j) ∧
    ((allEight.filter fun i => (s.stream i).enabled).map fun i => (s.stream i).multiple).sum ≤ 32

/-- No hold count is above 15 (R40), and every clip id is below 512 (R56). -/
def HoldsAndIdsBounded (s : State) : Prop := (∀ x, (s.store.slot x).holds ≤ 15) ∧ ∀ e ∈ s.clips, e.1 < 512

/-- Every table in its canonical form: entry numbers strictly rising, and no slot listed that reads as an unlisted one. -/
def TablesCanonical (s : State) : Prop :=
  s.store.slots.wf ∧ (∀ e ∈ s.store.slots, e.2 ≠ blankSlot) ∧ s.store.dram.wf ∧ s.clips.wf ∧
    ∀ i, (s.allotment i).directory.wf

/-- Every channel's fault level is the highest among its causes (R169). -/
def LevelsSettled (s : State) : Prop := ∀ ch, (s.channel ch).level = (s.channel ch).faultLevel

/-- The configuration fields of a channel in the ranges of R92. -/
def ChannelConfig.inRange (k : ChannelConfig) : Prop :=
  k.programRamp ≤ 3072 ∧ k.shuttleRamp ≤ 3072 ∧ 1 ≤ k.shuttleHoldOff ∧ k.shuttleHoldOff ≤ 250 ∧
    k.passPeriod ∈ [1, 2, 4, 8, 16, 32, 64] ∧ k.breakLimit ≤ 15000

/-- The speeds, counters and configuration of a channel record in the ranges of R92, R138, R145, R149 and R160. The position
stands in `PositionsInBounds`. -/
def Channel.inRange (c : Channel) : Prop :=
  (-3072 ≤ c.speed ∧ c.speed ≤ 3072) ∧ (-3072 ≤ c.target ∧ c.target ≤ 3072) ∧ c.holdOff ≤ 250 ∧ c.hold ≤ 1023 ∧
    c.config.inRange ∧ c.breakTimer ≤ 15000 ∧ c.passCount < c.config.passPeriod ∧
    (∀ b, c.cueBinding = some b → 1 ≤ b.count ∧ b.first + b.count ≤ 16) ∧ c.scanner.index ≤ 512 ∧
    c.stack.length ≤ 8 ∧ (∀ e ∈ c.stack, e.index ≤ 512) ∧ c.mixer.score ≤ 7 ∧ c.mixer.slip ≤ 65535

/-- Every channel in range, and every cue of every page one that a commit lets in (R134). -/
def ChannelsInRange (s : State) : Prop :=
  (∀ ch, (s.channel ch).inRange) ∧ ∀ page ∈ s.cues.pages, ∀ q ∈ page, cueOk q = true

/-- The number of slots of a stream that are held: the listed slots it owns whose hold count is above 0 (R42). -/
def Store.heldSlots (st : Store) (i : Fin 8) : Nat :=
  (st.slots.filter fun e => decide (st.owner e.1 = some i ∧ 0 < e.2.holds)).length

/-- A stream's allotment as R32, R34, R39, R40 and R42 have it: its held count is its number of held slots, the unheld
count is at least the recall floor, and an allotment above 0 has a floor above 0, owns the slots of its range, and has its
claim cursor in it. -/
def Store.soundFor (st : Store) (i : Fin 8) : Prop :=
  let a := st.allotments.get i
  a.held = st.heldSlots i ∧ a.held + a.floor ≤ a.size ∧
    (0 < a.size → 0 < a.floor ∧ ∃ f c, a.first = some f ∧ a.cursor = some c ∧ f ≤ c ∧ c < f + a.size) ∧
    ∀ x, a.owns x = true → st.owner x = some i

/-- The Frame Store is sound: its slot table is canonical, every allotment is sound, and every enabled stream has an
allotment (R17, R33). -/
def StoreSound (s : State) : Prop :=
  s.store.slots.wf ∧ (∀ i, s.store.soundFor i) ∧ ∀ i, (s.stream i).enabled = true → 0 < (s.allotment i).size

/-- The missing count a reference state shows (R15). -/
def Timer.missingFits (t : Timer) : Prop :=
  match t.state with
  | .unlocked | .locking | .locked => t.missing = 0
  | .flywheel => t.missing = 1 ∨ t.missing = 2
  | .lost => t.missing = 3

/-- The Reference Timer within the ranges of section 1.2, with the missing count its state shows (R1, R2, R10, R15), and
in UNLOCKED or LOCKING with no frame counted while the interval of R3 lasts. -/
def Timer.lawful (t : Timer) : Prop :=
  t.missingFits ∧ distance t.period t.nominal ≤ t.tolerance ∧ t.count ≤ t.period + t.tolerance ∧
    (t.state = .unlocked → t.count = 0) ∧ t.frames < 2 ^ 40 ∧ t.offRate ≤ 65535 ∧
    (t.fresh = true → t.frames = 0 ∧ (t.state = .unlocked ∨ t.state = .locking))

/-- The Reference Timer of the part is lawful. -/
def TimerLawful (s : State) : Prop := s.timer.lawful

/-- The counters of the streams, links, latches and store are 16-bit counts (R190). The off-rate counter stands in
`TimerLawful` and the slip counters in `ChannelsInRange`. -/
def CountersBounded (s : State) : Prop :=
  (∀ i, (s.stream i).torn ≤ 65535 ∧ (s.stream i).stale ≤ 65535 ∧ (s.stream i).skew ≤ 65535) ∧
    (∀ l, (s.port l).badCheck ≤ 65535 ∧ (s.port l).unrouted ≤ 65535 ∧ (s.port l).forwardDrop ≤ 65535 ∧
      (s.port l).replyDrop ≤ 65535) ∧
    (∀ n, (s.latch n).overrun ≤ 65535 ∧ (s.latch n).ignored ≤ 65535) ∧ s.store.errors ≤ 65535

/-- Every channel in CUED, RUNNING or BREAK has an output route whose link is UP (R93). -/
def RoutesUp (s : State) : Prop :=
  ∀ ch, (s.channel ch).playing = true → ∃ r, (s.channel ch).config.route = some r ∧ (s.port r.link).up = true

/-- The clip a binding names. -/
def Binding.clipId : Binding → Option Nat
  | .clip id _ => some id
  | _ => none

/-- The number of channels bound to a clip (R59). -/
def State.usersOf (s : State) (id : Nat) : Nat :=
  (allFour.filter fun ch => decide ((s.channel ch).binding.clipId = some id)).length

/-- Every clip a channel is bound to stands in the table, and every clip's use count is the number of channels bound to it
(R59). -/
def UseCountsMatch (s : State) : Prop :=
  s.clips.wf ∧ (∀ ch id, (s.channel ch).binding.clipId = some id → s.clip id ≠ none) ∧
    ∀ id c, s.clip id = some c → c.useCount = s.usersOf id

/-- The slots that a clip's extent lists hold (R81). -/
def Clip.heldSlots (c : Clip) : List Nat := c.protection.elim [] Protection.slots

/-- The group's open clip is an OPEN clip of that group (R54), and a clip has extent lists exactly in PROTECTING and
PROTECTED (R56). -/
def ClipsSound (s : State) : Prop :=
  (∀ g id, (s.group g).openClip = some id → ∃ c, s.clip id = some c ∧ c.state = .opened ∧ c.group = g) ∧
    ∀ id c, s.clip id = some c → (c.protection ≠ none ↔ c.state = .protecting ∨ c.state = .protected_)

/-- A walk in flight examines a PROTECTING clip, at one of its angles (R77). -/
def WalkSound (s : State) : Prop :=
  ∀ w, s.engine.walk = some w →
    ∃ c p, s.clip w.clip = some c ∧ c.state = .protecting ∧ c.protection = some p ∧ w.angle < p.extents.length ∧
      w.periods.length = p.extents.length ∧ c.angles.length = p.extents.length

/-- Every slot's hold count is the number of times that clips hold it in their extent lists (R40, R90). -/
def HoldsMatchClips (s : State) : Prop :=
  s.clips.wf ∧ ClipsSound s ∧ WalkSound s ∧
    ∀ x, (s.store.slot x).holds = (s.clips.map fun e => e.2.heldSlots.count x).sum

/-- The keys of a stream: the origin key is at or before the live key, a frame in assembly is later than both, the recall
start is at or before the live edge, and every key is that of a house frame number below 2^40 (R13, R16, R45). -/
def KeysOrdered (s : State) : Prop :=
  ∀ i, let r := s.stream i
    (r.lastKey = none → r.originKey = none) ∧
    (∀ live, r.lastKey = some live →
      0 < (s.allotment i).size ∧ live < 2 ^ 40 * r.multiple ∧ (∃ o, r.originKey = some o ∧ o ≤ live) ∧
        ∃ start, s.recallStart i = some start ∧ start ≤ live * s.period i) ∧
    ∀ a, r.assembly = some a → r.enabled = true ∧ a.key < 2 ^ 40 * r.multiple ∧ ∀ live, r.lastKey = some live → live < a.key

/-- The points of a clip are grain times, and one that is not OPEN has an out-point at or after its in-point (R56). -/
def ClipPointsOrdered (s : State) : Prop :=
  ∀ id c, s.clip id = some c →
    c.inPoint < 2 ^ 52 ∧ (∀ out, c.outPoint = some out → out < 2 ^ 52) ∧
      (c.state ≠ .opened → ∃ out, c.outPoint = some out ∧ c.inPoint ≤ out)

/-- Every position is a grain time. A clip-bound channel in CUED, RUNNING or BREAK has its position within its clip's in and
out points, a free one never above its live edge, and only a clip-bound channel is in BREAK (R92, R93, R150). -/
def PositionsInBounds (s : State) : Prop :=
  KeysOrdered s ∧ ClipPointsOrdered s ∧
    ∀ ch, let c := s.channel ch
      c.position < 2 ^ 52 ∧ (c.playing = true → c.binding ≠ .unbound) ∧
      (c.playing = true → ∀ id a, c.binding = .clip id a →
        ∃ k out, s.clip id = some k ∧ k.state ≠ .opened ∧ k.state ≠ .closing ∧ k.outPoint = some out ∧
          k.inPoint ≤ c.position ∧ c.position ≤ out) ∧
      (c.playing = true → ∀ origin i, c.binding = .free origin i →
        c.state ≠ .inBreak ∧ ∃ edge, s.liveEdge i = some edge ∧ c.position ≤ edge)

end Sys2Proof.Machine
end

