-- ==== Sys2Proof/WellFormed.lean ====
section
/-! DEFINITION. Which commands are well formed: every operand fits the field that carries it (R179, R180). An operand that
fits but is out of its rule's range is well formed; its owning rule refuses it. -/

namespace Sys2Proof

/-- A number fits in `n` bytes. -/
def fits (n x : Nat) : Bool := decide (x < 256 ^ n)

/-- A signed number fits in `n` bytes of two's complement. -/
def fitsInt (n : Nat) (x : Int) : Bool := decide (-(256 ^ n / 2 : Nat) ≤ x ∧ x < (256 ^ n / 2 : Nat))

/-- An origin: a source endpoint of one byte and a tag of two (R179, R184). -/
def Origin.wf (o : Origin) : Bool := fits 1 o.source && fits 2 o.tag

def RouteArg.wf (r : RouteArg) : Bool := fits 1 r.link && fits 1 r.endpoint

def MarkTime.wf : MarkTime → Bool
  | .now => true
  | .explicit t => fits 7 t

def FreePosition.wf : FreePosition → Bool
  | .absolute t => fits 7 t
  | .liveMinus n => fits 3 n

def BindForm.wf : BindForm → Bool
  | .clip id a off => fits 2 id && fits 1 a && fits 4 off
  | .free st p => fits 1 st && p.wf

def SeekForm.wf : SeekForm → Bool
  | .relative off => fits 4 off
  | .absolute t => fits 7 t

def ChannelArgs.wf (a : ChannelArgs) : Bool :=
  fits 2 a.programRamp && fits 2 a.shuttleRamp && fits 1 a.shuttleHoldOff && fits 1 a.endAction && fits 1 a.passPeriod &&
    fits 2 a.breakLimit && fits 1 a.mixMode && fits 1 a.fill && a.route.all RouteArg.wf

/-- A cue's parameters fit; a type byte of none of the nine is 0 or above 9 (R128). -/
def CueBody.wf : CueBody → Bool
  | .speed v f => fitsInt 2 v && fits 1 f
  | .hold n => fits 2 n
  | .angle n => fits 1 n
  | .jump t => fits 4 t
  | .line m a n => fits 1 m && fits 1 a && fits 1 n
  | .note t => fits 1 t
  | .ret | .stop | .listEnd => true
  | .other c => fits 1 c && (c == 0 || decide (9 < c))

def CueRecord.wf (q : CueRecord) : Bool :=
  fits 4 q.mark && fits 1 q.passRepeat && fits 1 q.passFirst && q.body.wf

def pairWf (p : Nat × Nat) : Bool := fits 3 p.1 && fits 2 p.2

/-- Well-formedness of a command. -/
def Instr.wf : Instr → Bool
  | .referencePulse _ | .flywheelExpiry | .lostFreeRun | .pulseEnd _ | .shuttleLapse _ | .holdCountExpiry _
  | .breakTimerExpiry _ | .fetchCompletion _ | .protectLookupServed | .withdrawnLookupEnd | .cueCommitComplete
  | .linkUp _ | .linkDown _ | .packetReceive _ _ | .transmitChoose _ | .transmitEnd _ | .linePinChange _ _
  | .resetPartActs | .lineReset _ _ | .powerOnReset _ _ | .resetNHeldLow => true
  | .setHouseTime o r n => o.wf && fits 1 r && fits 5 n
  | .enableStream o st src l k => o.wf && fits 1 st && fits 1 src && fits 1 l && fits 1 k
  | .disableStream o st => o.wf && fits 1 st
  | .configureStore o p =>
    o.wf && pairWf p.z0 && pairWf p.z1 && pairWf p.z2 && pairWf p.z3 && pairWf p.z4 && pairWf p.z5 && pairWf p.z6 &&
      pairWf p.z7
  | .setMarkGroup o g l d pre post r =>
    o.wf && fits 1 g && fits 1 l.length && l.all (fits 1) && fits 2 d && fits 2 pre && fits 2 post && fits 1 r
  | .readMarkGroup o g => o.wf && fits 1 g
  | .markIn o g t | .markOut o g t | .markSpot o g t => o.wf && fits 1 g && t.wf
  | .setClipLabel o id l => o.wf && fits 2 id && fits 1 l.length
  | .dropClip o id | .readClip o id | .protectClip o id | .releaseClip o id => o.wf && fits 2 id
  | .listClips o st n => o.wf && fits 2 st && fits 1 n
  | .takeLatch o n a g => o.wf && fits 1 n && fits 1 a && fits 1 g
  | .configureChannel o ch a => o.wf && fits 1 ch && a.wf
  | .bindChannel o ch f => o.wf && fits 1 ch && f.wf
  | .play o ch v f => o.wf && fits 1 ch && fitsInt 2 v && fits 1 f
  | .stop o ch f => o.wf && fits 1 ch && fits 1 f
  | .shuttle o ch v => o.wf && fits 1 ch && fitsInt 2 v
  | .jog o ch n => o.wf && fits 1 ch && fitsInt 1 n
  | .seek o ch f => o.wf && fits 1 ch && f.wf
  | .angle o ch n => o.wf && fits 1 ch && fits 1 n
  | .halt o ch | .resetChannel o ch | .readChannel o ch | .clearWarnings o ch | .requestBreak o ch
  | .continue_ o ch => o.wf && fits 1 ch
  | .stageCues o st l => o.wf && fits 1 st && fits 1 l.length && l.all CueRecord.wf
  | .clearStaging o | .readStaging o | .readLines o | .readStatus o | .clearStatus o | .resetPart o => o.wf
  | .commitCuePage o p | .readCuePage o p => o.wf && fits 1 p
  | .bindCues o ch f n => o.wf && fits 1 ch && fits 1 f && fits 1 n
  | .configureLine o n f ch p a g =>
    o.wf && fits 1 n && fits 1 f && fits 1 ch && fits 1 p && fits 1 a && fits 1 g
  | .setLines o m | .clearLines o m => o.wf && fits 1 m
  | .pulseLines o m n => o.wf && fits 1 m && fits 1 n
  | .setNoticeEnables o c => o.wf && fits 1 c
  | .setNoticeRoute o r => o.wf && r.all RouteArg.wf
  | .unknownRequest o k => o.wf && fits 1 k && (k == 0 || decide (46 < k))

end Sys2Proof
end

