-- ==== Sys2Proof/Certificates/Slice0/Obligations.lean ====
section
/-! DEFINITION. The statements for the provers, each a proposition about the part. A request statement has one hypothesis on
the state, that the arbiter can take a request of its link (R185); `b` is then the state with that link served last. -/

open Sys2Proof Sys2Proof.Machine

/-! ## The machine -/

/-- A step carries out the command at the front of the queue on the state with the queue's rest. With no command
waiting the arbiter takes a request that is offered, from the link not served last when both offer (R185); otherwise
one period of the local clock passes (R1), and at the count where an expiry falls due the expiry happens (R6 to R8).
The queue and the idle step are the model's choice (log entry 1). -/
def Obligations.StepRunsFrontCommand : Prop :=
  ∀ s : State,
    (∀ c, step (s.withCommand c) = exec c s) ∧
    (∀ c rest, s.pending = c :: rest → step s = exec c { s with pending := rest }) ∧
    (s.pending = [] →
      (∀ l, s.offers l = true → (s.offers (otherLink l) = true → s.endpoint.lastServed ≠ l) → step s = takeOffered l s) ∧
      ((∀ l, s.offers l = false) →
        (s.timer.state = .unlocked → step s = .next s) ∧
        (s.timer.state ≠ .unlocked → s.timer.count < s.timer.due →
          step s = .next { s with timer := { s.timer with count := s.timer.count + 1 } }) ∧
        (s.timer.state ≠ .unlocked → s.timer.due ≤ s.timer.count →
          step s = exec (if s.timer.state = .lost then .lostFreeRun else .flywheelExpiry) s)))

/-- The arbiter takes the oldest request of a control queue: the request leaves the queue, and the command its kind
and argument bytes spell is carried out with the origin and tag the packet gave (R184, R185). One it takes gets
exactly one reply, in the event that carries it out, with the request's tag, kind and source endpoint; a refusal
carries no results and leaves every other part of the state as it was, but for the arbiter's turn (R184, R185). That a
request command the arbiter cannot take has no effect is the model's choice (log entry 4; on the part the request
waits), and the argument bytes rest on log entries 13 and 23. A request it takes whose argument bytes do not begin
with those of any request of its kind, being too short or malformed (log entry 10), is refused BAD_ARGUMENT, and so is
one of fewer than 3 bytes (R185), whose missing tag and kind bytes are free (log entry 12). -/
def Obligations.RequestsAnsweredOnce : Prop :=
  (∀ (s : State) (i : Instr) (o : Origin) (kind : Nat) (args extra : List Byte) (rest : List Request),
    i.wf = true → encodeRequest i = some (o, kind, args) →
    (s.port o.link).control = ⟨o.source, be 2 o.tag ++ be 1 kind ++ args ++ extra⟩ :: rest →
    takeOffered o.link s = exec i (s.onPort o.link fun p => { p with control := rest })) ∧
  (∀ (i : Instr) (s : State) (o : Origin) (kind : Nat) (args : List Byte),
    i.wf = true → encodeRequest i = some (o, kind, args) →
    (s.canTake o.link = false → exec i s = .next s) ∧
    (s.canTake o.link = true →
      ∃ st results t, exec i s = .next (queueReply o kind st results t) ∧
        (t.port o.link).replies = (s.port o.link).replies ∧
        (st ≠ .ok → st ≠ .accepted → results = [] ∧ t = s.served o))) ∧
  ∀ (s : State) (l : Fin 2) (r : Request) (rest : List Request),
    s.canTake l = true → (s.port l).control = r :: rest →
    let s1 := s.onPort l fun p => { p with control := rest }
    (∀ tag kind args, tag < 65536 → kind < 256 → r.source < 256 → r.payload = be 2 tag ++ be 1 kind ++ args →
      (∀ i full extra, i.wf = true → encodeRequest i = some (⟨l, r.source, tag⟩, kind, full) → args ≠ full ++ extra) →
      takeOffered l s = .next (s1.refused ⟨l, r.source, tag⟩ kind .badArgument)) ∧
    (r.payload.length < 3 →
      let byte : Nat → Nat := fun n => (r.payload.getD n (Config.missingByte (s.freeIndex + n))).toNat
      takeOffered l s =
        .next (({ s1 with freeIndex := s.freeIndex + 3 } : State).refused ⟨l, r.source, byte 0 * 256 + byte 1⟩ (byte 2)
          .badArgument))

/-- Every command answers a next state with the same commands waiting, except that a packet can stop with the fault of
a claim that finds no slot. No command is refused. -/
def Obligations.EveryCommandAnswers : Prop :=
  ∀ (i : Instr) (s : State),
    (∃ t, exec i s = .next t ∧ t.pending = s.pending) ∨
      ∃ l bytes, i = .packetReceive l bytes ∧ exec i s = .fault .noUnheldSlot

/-- Reading back the argument bytes of a request gives the request, whatever bytes follow them (R180); the byte forms
of mark times and flags rest on log entry 13, and that an unknown cue type carries no parameters on log entry 23. A
packet is sent as its header, its payload and the check over both, and one whose fields fit is read back from its
bytes (R179, R181); the check of the nine ASCII digits 1 to 9 is FC891918 (R179). -/
def Obligations.RequestsAndPacketsReadBack : Prop :=
  (∀ (i : Instr) (o : Origin) (kind : Nat) (args extra : List Byte),
    i.wf = true → encodeRequest i = some (o, kind, args) → decodeRequest o kind (args ++ extra) = .request i) ∧
  (∀ p : Packet, p.kind < 256 → p.destination < 256 → p.source < 256 → p.route < 256 → p.frame < 256 ^ 5 → p.sub < 256 →
    p.band < 256 → p.payload.length < 65536 → readPacket p.bytes = some p) ∧
  (∀ p : Packet,
    let body := be 1 p.kind ++ be 1 p.destination ++ be 1 p.source ++ be 1 p.route ++ be 5 p.frame ++ be 1 p.sub ++
      be 1 p.band ++ be 2 p.payload.length ++ p.payload
    p.bytes = body ++ be 4 (crc body).toNat) ∧
  crc [0x31, 0x32, 0x33, 0x34, 0x35, 0x36, 0x37, 0x38, 0x39] = 0xFC891918#32

/-! ## Invariants -/

/-- Every step keeps the queues of chapter 12 within their bounds and the queues of a DOWN link empty; and it keeps at
most two fetches of each channel and one protect lookup waiting or in service, so at most nine entries (R48), with the
lookup the walk's PENDING one or the withdrawn one (R78, R80, R89). -/
def Obligations.QueuesKeepTheirBounds : Prop :=
  (∀ s t, QueuesBounded s → step s = .next t → QueuesBounded t) ∧
    (∀ s t, ReadsBounded s → step s = .next t → ReadsBounded t) ∧
    ∀ s, ReadsBounded s → s.store.inFlight.length ≤ 9

/-- Every step keeps every table of the part in its canonical form. -/
def Obligations.TablesKeepCanonicalForm : Prop := ∀ s t, TablesCanonical s → step s = .next t → TablesCanonical t

/-- After every step the fault level of every channel is the one its causes give. -/
def Obligations.FaultLevelsStaySettled : Prop := ∀ s t, LevelsSettled s → step s = .next t → LevelsSettled t

/-- Every step keeps the channel records in these ranges: the speeds, the hold-off, hold and break counters, the nine
configuration fields, the pass count, the cue binding, the scanner's index, the return stack, the lateness score and
the slip counter (R92, R137, R138, R145, R149, R160, R190); and every cue of every page one that a commit lets in
(R134). Positions stand in PositionsStayInBounds. -/
def Obligations.ChannelFieldsStayInRange : Prop := ∀ s t, ChannelsInRange s → step s = .next t → ChannelsInRange t

/-- Every step keeps the Reference Timer in its ranges, with the missing count its state shows (R1, R2, R10, R15), and
keeps the counters of the streams, links, latches and store within 16 bits (R190). It keeps the streams as ENABLE
STREAM lets them be (R17): no two enabled ones with one source id and link, and multiples of 32 or less in sum. -/
def Obligations.TimerStreamsAndCountersStayLawful : Prop :=
  (∀ s t, TimerLawful s → step s = .next t → TimerLawful t) ∧
    (∀ s t, StreamsBudgeted s → step s = .next t → StreamsBudgeted t) ∧
    ∀ s t, CountersBounded s → step s = .next t → CountersBounded t

/-- With a sound Frame Store no step stops: each answers a next state, whose store is sound again. So the recall floor
of unheld slots always stands, and every claim finds a slot (R38, R40). -/
def Obligations.SoundStoreNeverFaults : Prop := ∀ s, StoreSound s → ∃ t, step s = .next t ∧ StoreSound t

/-- Every step keeps an output route on an UP link for each channel in CUED, RUNNING or BREAK (R93), and keeps every
clip's use count equal to the number of channels bound to it, with every clip a channel is bound to in the table
(R59). -/
def Obligations.RoutesAndUseCountsHold : Prop :=
  (∀ s t, RoutesUp s → step s = .next t → RoutesUp t) ∧
    ∀ s t, UseCountsMatch s → step s = .next t → UseCountsMatch t

/-- Every step keeps every slot's hold count equal to the number of times that the extent lists of PROTECTING and
PROTECTED clips hold it (R40, R90), with only these clips having extent lists (R56), each group's open clip an OPEN
clip of the group (R54), and the clip of a walk PROTECTING (R77). It keeps every hold count at 15 or less (R40) and
every clip id below 512 (R56). -/
def Obligations.HoldCountsMatchClips : Prop :=
  (∀ s t, HoldsMatchClips s → step s = .next t → HoldsMatchClips t) ∧
    ∀ s t, HoldsAndIdsBounded s → step s = .next t → HoldsAndIdsBounded t

/-- Every step keeps the position of a channel in CUED, RUNNING or BREAK within its clip's in and out points, or never
above the live edge of its stream, and every position a grain time (R92). The premises beside it are invariants with
statements of their own: use counts (R59), hold counts with the open clips of groups (R40, R54), and a sound store
(R34, R40, R42). -/
def Obligations.PositionsStayInBounds : Prop :=
  ∀ s t, UseCountsMatch s → HoldsMatchClips s → StoreSound s → PositionsInBounds s → step s = .next t → PositionsInBounds t

/-- The state after reset has every invariant, and every field of every record at the After reset value of its
chapter, with both links DOWN and no command waiting. Its endpoint id of 224 and its inactive input levels rest on the
straps and the line pins being low, which is the model's choice (log entry 16), and the empty stacked DRAM on log
entry 7. -/
def Obligations.ResetMeetsInvariants : Prop :=
  let s := State.reset
  QueuesBounded s ∧ TablesCanonical s ∧ LevelsSettled s ∧ ChannelsInRange s ∧ TimerLawful s ∧ StoreSound s ∧
    CountersBounded s ∧ RoutesUp s ∧ UseCountsMatch s ∧ HoldsMatchClips s ∧ PositionsInBounds s ∧ ReadsBounded s ∧
    StreamsBudgeted s ∧ HoldsAndIdsBounded s ∧
    AfterReset 224 (fun _ => false) s ∧ (∀ l, (s.port l).up = false ∧ (s.port l).sending = none) ∧ s.store.dram = [] ∧
    s.resetHeld = false ∧ s.pending = []

/-! ## Notices and the fault level -/

/-- A notice joins the queue when its class is enabled and the route is present, sets NOTICE_LOSS when 32 wait, and is
not recorded otherwise (R187, R188). Settling a channel's level makes it the highest that a cause gives, with one
FAULT_LEVEL notice when it changes (R169). -/
def Obligations.NoticeJoinsOrIsLost : Prop :=
  (∀ (time : Nat) (body : NoticeBody) (s : State),
    raise time body s =
      if s.endpoint.enables.getLsbD (body.noticeClass.code - 1) = true ∧ s.endpoint.route ≠ none then
        if s.endpoint.notices.length < 32 then
          { s with endpoint := { s.endpoint with notices := s.endpoint.notices ++ [⟨time, body⟩] } }
        else { s with endpoint := { s.endpoint with noticeLoss := true } }
      else s) ∧
  ∀ (ch : Fin 4) (time : Nat) (s : State),
    let c := s.channel ch
    let w := c.warnings
    let level :=
      if c.haltCause ≠ none then 3
      else if c.conditions.degraded = true ∨ c.conditions.cueFault = true then 2
      else if c.conditions.late = true ∨ w.gap = true ∨ w.overtaken = true ∨ w.stackOverflow = true ∨
          w.returnEmpty = true ∨ w.cueRange = true ∨ w.storeError = true then 1
      else 0
    settleFault ch time s =
      if level = c.level then s
      else
        raise time (.faultLevel ch c.level level c.conditions w c.haltCause)
          (s.onChannel ch fun c => { c with level := level })

/-! ## Reference Timer (chapter 1) -/

/-- A reference pulse taken at count `c`, state by state: the first pulse of UNLOCKED; a pulse of LOCKED, FLYWHEEL or
LOCKING within the tolerance, which is accepted with a boundary; an early pulse of LOCKED or FLYWHEEL, which is
rejected; and an early pulse of LOCKING or a pulse of LOST, which retimes, with a boundary from half a period on (R4,
R5, R7, R8). A change of state raises REFERENCE_STATE (R9). The expiries without a pulse: at L + T a flywheel
boundary, the count T, the missing count one higher (3 from LOCKING) and FLYWHEEL or, at 3, LOST; in LOST at L a
boundary and the count 0; in any other state neither does anything (R6 to R8, log entry 3). That the count runs on to
`c`, L + T or L within the event is the model's choice (log entry 2). House time is the frame count × 2880 and the
phase (R12), which reads 0 in UNLOCKED, and in LOCKING before the second reference pulse after a reset (R3, log entry
30); a retime of LOCKING ends that interval as a boundary does. -/
def Obligations.ReferenceTimerEvents : Prop :=
  (∀ (c : Nat) (s : State),
    let old := s.timer.state
    let note : State → State := fun t =>
      if t.timer.state = old then t
      else raise t.houseTime (.referenceState old t.timer.state t.timer.period t.timer.frames) t
    let s1 := s.onTimer fun t => { t with count := c }
    let L := s.timer.period
    let N := if s.timer.rate = .hz50 then 4000000 else 3336667
    let T := if s.timer.rate = .hz50 then 15625 else 13033
    (old = .unlocked → exec (.referencePulse c) s =
      .next (note (s.onTimer fun t => { t with count := 0, missing := 0, state := .locking }))) ∧
    (s.timer.count ≤ c → c ≤ L + T → L ≤ c + T → old = .locked ∨ old = .flywheel ∨ old = .locking →
      exec (.referencePulse c) s =
        .next (note ((boundary s1).onTimer fun t =>
          { t with
            period := if N ≤ c + T ∧ c ≤ N + T then c else L, count := 0, missing := 0, state := .locked }))) ∧
    (s.timer.count ≤ c → c + T < L → old = .locked ∨ old = .flywheel →
      exec (.referencePulse c) s =
        .next (s.onTimer fun t =>
          { t with count := c, offRate := if t.offRate < 65535 then t.offRate + 1 else t.offRate })) ∧
    (s.timer.count ≤ c → old = .locking ∧ c + T < L ∨ old = .lost ∧ c ≤ L →
      exec (.referencePulse c) s =
        .next (note ((if L ≤ 2 * c then boundary s1 else s1).onTimer fun t =>
          { t with count := 0, missing := 0, state := .locking, fresh := false })))) ∧
  (∀ s : State,
    let old := s.timer.state
    let T := if s.timer.rate = .hz50 then 15625 else 13033
    let m := if old = .locking then 3 else s.timer.missing + 1
    let t1 := (boundary (s.onTimer fun t => { t with count := t.period + T })).onTimer fun t =>
      { t with count := T, missing := m, state := if m < 3 then .flywheel else .lost }
    exec .flywheelExpiry s =
      (if old = .locking ∨ old = .locked ∨ old = .flywheel then
        .next (if t1.timer.state = old then t1
          else raise t1.houseTime (.referenceState old t1.timer.state t1.timer.period t1.timer.frames) t1)
      else .next s) ∧
    exec .lostFreeRun s =
      (if old = .lost then
        .next ((boundary (s.onTimer fun t => { t with count := t.period })).onTimer fun t => { t with count := 0 })
      else .next s)) ∧
  ∀ s : State,
    s.houseTime = s.timer.frames * 2880 +
      if s.timer.state = .unlocked ∨ s.timer.state = .locking ∧ s.timer.fresh = true then 0
      else min 2879 (s.timer.count * 2880 / s.timer.period)

/-- A house frame boundary adds one to the house frame count, up to 2^40 − 1, and leaves everything that no receiver
of it changes (R10, R11). The channels take it first, in order of number, then the Clip Table, then the Line Unit,
which is the model's order (log entry 9). The Clip Table closes exactly the CLOSING clips whose out-point is at or
before the boundary's house time, with CLIP_CLOSED in clip list order (R66); no clip comes or goes, and no clip field
changes but the state of these and the use counts that RUN_ON lowers. Each running pulse whose pulse frame is another
number counts down, and its last count makes the output inactive (R175); that the numbers are compared after a SET
HOUSE TIME too is the model's choice (log entry 39). -/
def Obligations.BoundaryLeavesTheRest : Prop :=
  (∀ s, BoundaryFrame s (boundary s)) ∧
  (∀ s : State,
    let h := if s.timer.frames < 2 ^ 40 - 1 then s.timer.frames + 1 else s.timer.frames
    (boundary s).timer.frames = h ∧
    boundary s =
      countPulses h (closeClips (h * 2880) ([0, 1, 2, 3].foldl (channelStep h)
        { s with timer := { s.timer with frames := h, fresh := false } })) ∧
    (s.clips.wf → ∀ id, (s.clip id = none → (boundary s).clip id = none) ∧
      ∀ c, s.clip id = some c → ∃ n ≤ c.useCount,
        (boundary s).clip id = some
          { c with
            useCount := n
            state := if c.state = .closing ∧ (c.outPoint.any fun out => decide (out ≤ h * 2880)) = true then .closed
              else c.state })) ∧
  (∀ (time : Nat) (s : State),
    closeClips time s = (clipList s.clips).foldl
      (fun t e => match e.2.outPoint with
        | some out =>
          if e.2.state = .closing ∧ out ≤ time then
            raise time (.clipClosed e.1 e.2.inPoint (some out))
              { t with clips := t.clips.insert e.1 { e.2 with state := .closed } }
          else t
        | none => t) s) ∧
  ∀ (h : Nat) (s : State) (n : Fin 8),
    let l := s.line n
    (countPulses h s).line n =
      if l.function = .output ∧ 0 < l.pulseTimer ∧ l.pulseFrame ≠ some h then
        if l.pulseTimer = 1 then { l with pulseTimer := 0, outputActive := false, pulseFrame := none }
        else { l with pulseTimer := l.pulseTimer - 1 }
      else l

/-- SET HOUSE TIME: refused for a rate that is neither RATE_50 (1) nor RATE_59_94 (2), a count beyond 2^40 − 1, or an
enabled stream; otherwise the timer restarts in UNLOCKED at the given rate and count, with its off-rate counter kept,
and the reply carries count × 2880 (R14). That it ends the interval of R3, in which house time reads 0, is the model's
choice (log entry 30). -/
def Obligations.SetHouseTime : Prop :=
  ∀ (o : Origin) (rate count : Nat) (s : State), s.canTake o.link = true →
    let b := s.served o
    let N := if rate = 1 then 4000000 else 3336667
    let t := { b with timer :=
      { state := .unlocked, rate := if rate = 1 then .hz50 else .hz5994, period := N, count := 0, missing := 0,
        frames := count, offRate := s.timer.offRate, fresh := false } }
    exec (.setHouseTime o rate count) s =
      if (rate ≠ 1 ∧ rate ≠ 2) ∨ 2 ^ 40 ≤ count then .next (s.refused o 1 .badArgument)
      else if ∃ i, (s.stream i).enabled = true then .next (s.refused o 1 .inUse)
      else
        .next (queueReply o 1 .ok (be 7 (count * 2880))
          (if s.timer.state = .unlocked then t
          else raise (count * 2880) (.referenceState s.timer.state .unlocked N count) t))

/-! ## Recorder (chapter 2) -/

/-- ENABLE STREAM and DISABLE STREAM: the checks in their order, then the new fields with the stream WAITING and the
last committed key in the reply (R17, R18); a disabled stream's frame in assembly is torn and its slot emptied (R19,
R20). That a stream that is not enabled answers DISABLE STREAM with its last key is the model's choice (log entry 15).
-/
def Obligations.StreamRequests : Prop :=
  ∀ (o : Origin) (s : State), s.canTake o.link = true →
    let b := s.served o
    (∀ st src l k, 8 ≤ st ∨ 2 ≤ l ∨ 255 < src ∨ k ∉ [1, 2, 3, 4, 6, 8] →
      exec (.enableStream o st src l k) s = .next (s.refused o 2 .badArgument)) ∧
    (∀ (i : Fin 8) (src : Nat) (l : Fin 2) (k : Nat), src ≤ 255 → k ∈ [1, 2, 3, 4, 6, 8] →
      exec (.enableStream o i.val src l.val k) s =
        if (s.stream i).enabled = true then .next (s.refused o 2 .refusedState)
        else if ¬(s.store.configured = true ∧ 0 < (s.allotment i).size) then .next (s.refused o 2 .notConfigured)
        else if (s.stream i).lastKey ≠ none ∧ k ≠ (s.stream i).multiple then .next (s.refused o 2 .inUse)
        else if ∃ n, n ≠ i ∧ (s.stream n).enabled = true ∧ (s.stream n).source = src ∧ (s.stream n).link = l then
          .next (s.refused o 2 .inUse)
        else if 32 < (∑ n : Fin 8, if n ≠ i ∧ (s.stream n).enabled = true then (s.stream n).multiple else 0) + k then
          .next (s.refused o 2 .budget)
        else
          .next (queueReply o 2 .ok (optional (be 6) (s.stream i).lastKey) (b.onStream i fun t =>
            { t with enabled := true, source := src, link := l, multiple := k, assembly := none }))) ∧
    (∀ st, 8 ≤ st → exec (.disableStream o st) s = .next (s.refused o 3 .badArgument)) ∧
    ∀ i : Fin 8,
      exec (.disableStream o i.val) s =
        .next (queueReply o 3 .ok (optional (be 6) (s.stream i).lastKey)
          (match (s.stream i).enabled, (s.stream i).assembly with
          | false, _ => b
          | true, none => b.onStream i fun t => { t with enabled := false }
          | true, some a =>
            (b.onStore (Store.setSlot a.slot { s.store.slot a.slot with occupant := .empty })).onStream i fun t =>
              { t with enabled := false, assembly := none, torn := bump t.torn }))

/-- What becomes of a packet that is no band for a stream (R178, R181, R183): a DOWN link takes none; a failed check
is counted; a band of no enabled stream is counted unrouted; a request joins the control queue, and a full one answers
BUSY while the reply queue has room and counts a dropped reply otherwise; another kind for this endpoint is dropped;
and a packet for elsewhere joins the other link's forward queue, or is counted there when that is full or DOWN; a band
for 255 that a stream takes is forwarded and taken. -/
def Obligations.PacketOutcomes : Prop :=
  ∀ (l : Fin 2) (bytes : List Byte) (s : State),
    ((s.port l).up = false → exec (.packetReceive l bytes) s = .next s) ∧
    ((s.port l).up = true → readPacket bytes = none →
      exec (.packetReceive l bytes) s = .next (s.onPort l fun q => { q with badCheck := bump q.badCheck })) ∧
    ∀ p, (s.port l).up = true → readPacket bytes = some p →
      (p.destination = s.endpoint.id → p.kind = 1 → (∀ i, ¬s.takes l p i) →
        exec (.packetReceive l bytes) s = .next (s.onPort l fun q => { q with unrouted := bump q.unrouted })) ∧
      (p.destination = s.endpoint.id → p.kind ≠ 1 → p.kind ≠ 2 → exec (.packetReceive l bytes) s = .next s) ∧
      (p.destination = s.endpoint.id → p.kind = 2 → (s.port l).control.length < 4 →
        exec (.packetReceive l bytes) s =
          .next (s.onPort l fun q => { q with control := q.control ++ [⟨p.source, p.payload⟩] })) ∧
      (∀ tag kind rest, p.destination = s.endpoint.id → p.kind = 2 → 4 ≤ (s.port l).control.length →
        tag < 65536 → kind < 256 → p.payload = be 2 tag ++ be 1 kind ++ rest →
        exec (.packetReceive l bytes) s =
          if (s.port l).replies.length < 8 then .next (queueReply ⟨l, p.source, tag⟩ kind .busy [] s)
          else .next (s.onPort l fun q => { q with replyDrop := bump q.replyDrop })) ∧
      (p.destination ≠ s.endpoint.id → (p.destination = 255 → p.kind = 1 → ∀ i, ¬s.takes l p i) →
        exec (.packetReceive l bytes) s =
          .next (s.onPort (otherLink l) fun q =>
            if q.up = true ∧ q.forward.length < 16 then { q with forward := q.forward ++ [bytes] }
            else { q with forwardDrop := bump q.forwardDrop })) ∧
      (∀ i, p.destination ≠ s.endpoint.id → p.destination = 255 → p.kind = 1 → s.takes l p i →
        exec (.packetReceive l bytes) s =
          takeBand i p.frame p.sub p.band p.payload (s.onPort (otherLink l) fun q =>
            if q.up = true ∧ q.forward.length < 16 then { q with forward := q.forward ++ [bytes] }
            else { q with forwardDrop := bump q.forwardDrop }))

/-- A band 0 that a stream takes, with exactly one band of picture. A frame in assembly is torn first (R20); then a
band at or before the live key is counted stale, and any other claims a slot (R38), is written to the slot's first
place and starts the assembly (R22). -/
def Obligations.BandZeroStartsFrame : Prop :=
  ∀ (l : Fin 2) (bytes : List Byte) (i : Fin 8) (p : Packet) (s : State),
    s.delivered l bytes i p → p.band = 0 → p.payload.length = 38400 →
    let key := s.bandKey i p
    let s1 := match (s.stream i).assembly with
      | none => s
      | some a =>
        (s.onStore (Store.setSlot a.slot { s.store.slot a.slot with occupant := .empty })).onStream i fun t =>
          { t with assembly := none, torn := bump t.torn }
    (∀ live, (s.stream i).lastKey = some live → key ≤ live →
      exec (.packetReceive l bytes) s = .next (s1.onStream i fun t => { t with stale := bump t.stale })) ∧
    ((∀ live, (s.stream i).lastKey = some live → live < key) → ∀ x t, claim i key s1 = some (x, t) →
      exec (.packetReceive l bytes) s =
        .next ((t.onStore (Store.writeBand x 0 p.payload)).onStream i fun r => { r with assembly := some ⟨key, x, 1⟩ }))

/-- Bands that cannot start a frame (R21, R23 to R25): a band that fails a time check is counted skewed; a band that
continues the frame in assembly is written to its place, and band 134 commits the frame; any other band tears the
frame in assembly, and without one has no effect. -/
def Obligations.LaterBandContinues : Prop :=
  ∀ (l : Fin 2) (bytes : List Byte) (i : Fin 8) (p : Packet) (s : State), s.delivers l bytes i p →
    (¬s.delivered l bytes i p →
      exec (.packetReceive l bytes) s = .next (s.onStream i fun t => { t with skew := bump t.skew })) ∧
    (s.delivered l bytes i p → ∀ a, (s.stream i).assembly = some a →
      let s1 := s.onStore (Store.writeBand a.slot a.next p.payload)
      let torn := (s.onStore (Store.setSlot a.slot { s.store.slot a.slot with occupant := .empty })).onStream i fun t =>
        { t with assembly := none, torn := bump t.torn }
      (p.band ≠ 0 → p.band ≤ 134 → a.key = s.bandKey i p → a.next = p.band → p.payload.length = 38400 →
        exec (.packetReceive l bytes) s =
          if p.band = 134 then
            .next (recomputeRecall i (((s1.onStore (Store.setSlot a.slot
                { s.store.slot a.slot with occupant := .full a.key })).onAllotment i fun t =>
                  { t with directory := t.directory.insert (a.key % t.size) (a.key, a.slot) }).onStream i fun t =>
              { t with
                lastKey := some a.key, originKey := t.originKey.or (some a.key), assembly := none }))
          else .next (s1.onStream i fun t => { t with assembly := some { a with next := a.next + 1 } })) ∧
      (p.payload.length ≠ 38400 ∨ p.band ≠ 0 ∧ (a.key ≠ s.bandKey i p ∨ a.next ≠ p.band ∨ 134 < p.band) →
        exec (.packetReceive l bytes) s = .next torn)) ∧
    (s.delivered l bytes i p → (s.stream i).assembly = none → p.band ≠ 0 ∨ p.payload.length ≠ 38400 →
      exec (.packetReceive l bytes) s = .next s)

/-! ## Frame Store (chapter 3) -/

/-- A claim takes the first slot with hold count 0 at or after the claim cursor, wrapping in the stream's range: the
slot becomes FILLING with the key and a generation one higher, and the cursor moves to the slot after it (R37, R38).
-/
def Obligations.ClaimPassesOverHeldSlots : Prop :=
  ∀ (i : Fin 8) (key : Nat) (s : State) (f c n : Nat),
    let D := (s.allotment i).size
    let at_ : Nat → Nat := fun m => f + (c - f + m) % D
    (s.allotment i).first = some f → (s.allotment i).cursor = some c → f ≤ c → c < f + D → n < D →
    (∀ m < n, (s.store.slot (at_ m)).holds ≠ 0) → (s.store.slot (at_ n)).holds = 0 →
    claim i key s =
      some (at_ n,
        (s.onStore (Store.setSlot (at_ n)
          { occupant := .filling key, holds := 0, generation := ((s.store.slot (at_ n)).generation + 1) % 65536 })).onAllotment
          i fun a => { a with cursor := some (at_ (n + 1)) })

/-- A lookup answers a slot exactly when the three conditions of R44 hold, with the slot's generation at that moment;
and slots and bands read back as written, a write leaving every other slot or band as it was (that band b of slot x
stands at place 135 × x + b is the model's choice, log entry 7). The hold table of R40, with the held count and the
recomputation that follow a first hold (R42); the release of one hold (R41). The recall start is the greater of live
key − (D − H) + 1 and the origin key, times q, and absent without a live key (R45). The releases of one clip, made
together: each slot's hold count falls by the times it is released, its key and generation stay, and each stream whose
held count changes has its recall start recomputed once (R84). -/
def Obligations.LookupsAndHolds : Prop :=
  ((∀ (st : Store) (i : Fin 8) (key x g : Nat),
    st.lookup i key = some (x, g) ↔
      (st.configured = true ∧ 0 < (st.allotments.get i).size) ∧
      (st.allotments.get i).directory.find (key % (st.allotments.get i).size) = some (key, x) ∧
      (st.owner x = some i ∧ (st.slot x).occupant = .full key) ∧ g = (st.slot x).generation) ∧
  (∀ (st : Store) (x y : Nat) (r : Slot), (st.setSlot x r).slot y = if y = x then r else st.slot y) ∧
  ∀ (st : Store) (x b place : Nat) (bytes : Band),
    (st.writeBand x b bytes).band place = if place = 135 * x + b then bytes else st.band place) ∧
  ((∀ (i : Fin 8) (key : Nat) (s : State),
    (s.store.lookup i key = none → takeHold i key s = (.absent, s)) ∧
    ∀ x g, s.store.lookup i key = some (x, g) →
      let r := s.store.slot x
      let U := (s.allotment i).size - (s.allotment i).held
      (takeHold i key s =
        if r.holds = 15 then (.holdLimit, s)
        else if r.holds = 0 ∧ U < (s.allotment i).floor + 1 then (.floor, s)
        else
          (.held x,
            if r.holds = 0 then
              recomputeRecall i ((s.onStore (Store.setSlot x { r with holds := 1 })).onAllotment i fun a =>
                { a with held := a.held + 1 })
            else s.onStore (Store.setSlot x { r with holds := r.holds + 1 }))) ∧
      releaseHold s x =
        if r.holds = 1 then
          (s.onStore (Store.setSlot x { r with holds := 0 })).onAllotment i fun a => { a with held := a.held - 1 }
        else s.onStore (Store.setSlot x { r with holds := r.holds - 1 }))) ∧
  (∀ (i : Fin 8) (s : State),
    let D := (s.allotment i).size
    let H := (s.allotment i).held
    ((s.stream i).lastKey = none → recomputeRecall i s = s.onAllotment i fun a => { a with recallStart := none }) ∧
    ∀ live origin, (s.stream i).lastKey = some live → (s.stream i).originKey = some origin → H ≤ D →
      recomputeRecall i s = s.onAllotment i fun a =>
        { a with recallStart := some (max (live + 1 - (D - H)) origin * s.period i) }) ∧
  ∀ (l : List Nat) (s : State),
    let t := releaseHolds l s
    (∀ x, t.store.slot x = { s.store.slot x with holds := (s.store.slot x).holds - l.count x }) ∧
    ∀ i,
      let freed := l.dedup.filter fun x =>
        decide (s.store.owner x = some i ∧ 0 < (s.store.slot x).holds ∧ (s.store.slot x).holds ≤ l.count x)
      let H := (s.allotment i).held - freed.length
      t.allotment i = if H = (s.allotment i).held then s.allotment i
        else (recomputeRecall i (s.onAllotment i fun a => { a with held := H })).allotment i

/-- CONFIGURE STORE: the checks of R33 in their order; then the allotments laid out from slot 0 in stream order, every
slot, directory, key, recall start and waiting lookup gone, a fetch in service marked superseded (R34, R52), the
stacked DRAM and everything else as it was, and each first slot in the reply. -/
def Obligations.ConfigureStore : Prop :=
  ∀ (o : Origin) (p : Eight (Nat × Nat)) (s : State), s.canTake o.link = true →
    let b := s.served o
    let start : Fin 8 → Nat := fun i => ∑ n : Fin 8, if n < i then (p.get n).1 else 0
    (((∃ i, (p.get i).1 ≠ 0 ∧ ((p.get i).1 < 512 ∨ 65536 < (p.get i).1 ∨ (p.get i).1 % 256 ≠ 0)) ∨
        65536 < ∑ i : Fin 8, (p.get i).1 ∨
        ∃ i, (p.get i).1 ≠ 0 ∧ ((p.get i).2 < 64 ∨ (p.get i).1 / 2 < (p.get i).2)) →
      exec (.configureStore o p) s = .next (s.refused o 4 .badArgument)) ∧
    ((∀ i, (p.get i).1 = 0 ∨ 512 ≤ (p.get i).1 ∧ (p.get i).1 % 256 = 0 ∧ 64 ≤ (p.get i).2 ∧
        (p.get i).2 ≤ (p.get i).1 / 2) →
      ∑ i : Fin 8, (p.get i).1 ≤ 65536 →
      ((∃ i, (s.stream i).enabled = true) ∨
          (∃ e ∈ s.clips, e.2.state = .protecting ∨ e.2.state = .protected_) ∨
          (∃ ch, (s.channel ch).state ≠ .idle) →
        exec (.configureStore o p) s = .next (s.refused o 4 .inUse)) ∧
      ((∀ i, (s.stream i).enabled = false) → (∀ e ∈ s.clips, e.2.state ≠ .protecting ∧ e.2.state ≠ .protected_) →
        (∀ ch, (s.channel ch).state = .idle) →
        ∃ st r, exec (.configureStore o p) s =
            .next (queueReply o 4 .ok
              (allEight.flatMap fun i => if (p.get i).1 = 0 then [0] else 1 :: be 2 (start i))
              { b with store := st, streams := r, engine := { s.engine with withdrawn := false } }) ∧
          st.configured = true ∧ st.slots = [] ∧ st.queue = [] ∧ st.dram = s.store.dram ∧ st.errors = s.store.errors ∧
          (st.service = match s.store.service with
            | some (.fetch ch x g role current _) => some (.fetch ch x g role current true)
            | _ => none) ∧
          ∀ i, r.get i = { s.stream i with lastKey := none, originKey := none } ∧
            st.allotments.get i =
              if (p.get i).1 = 0 then {}
              else { size := (p.get i).1, first := some (start i), floor := (p.get i).2, cursor := some (start i) }))

/-- A fetch completion (R51, R161, R162): a discarded or superseded fetch only ends its service, an ERROR being
counted; a CURRENT one makes its source ready when its generation still stands, or adds STORE_ERROR, and the last one
the frame awaits finishes it by the sources ready. The service then takes its next entry (R48, log entry 6). Without a
fetch in service the event does nothing (log entry 3). -/
def Obligations.FetchCompletion : Prop :=
  (∀ (error : Bool) (s : State), (∀ ch x g role cur sup, s.store.service ≠ some (.fetch ch x g role cur sup)) →
    exec (.fetchCompletion error) s = .next s) ∧
  (∀ (error : Bool) (s : State) (ch : Fin 4) (x g : Nat) (role : Role) (cur sup : Bool),
    s.store.service = some (.fetch ch x g role cur sup) →
    let s1 := s.onStore fun st => { st with service := none, errors := if error then bump st.errors else st.errors }
    let bands := s.store.slotBands x
    let s2 :=
      if error then s1.onChannel ch fun c => { c with warnings := { c.warnings with storeError := true } }
      else if (s.store.slot x).generation = g then
        s1.onChannel ch fun c => { c with mixer := { c.mixer with prepared := c.mixer.prepared.map fun p =>
          match role with
          | .earlier => { p with earlier := some bands }
          | .later => { p with later := some bands } } }
      else s1
    let s3 := if s.store.queue.any (ReadEntry.currentOf ch) = true then s2 else s2.onChannel ch Channel.finishFrame
    exec (.fetchCompletion error) s =
      .next ((if cur = true ∧ sup = false then settleFault ch s.houseTime s3 else s1).onStore Store.serve)) ∧
  ∀ (c : Channel) (p : Prepared), c.mixer.prepared = some p →
    let done : PreparedKind → Option Bands → Channel := fun k f =>
      { c with mixer := { c.mixer with prepared := some { p with kind := k, picture := f } } }
    (∀ w a b, p.kind = .blend w → p.earlier = some a → p.later = some b →
      c.finishFrame = done (.blend w) (some (mixFrames w a b))) ∧
    (∀ a, p.earlier = some a → p.later = none → c.finishFrame = done .alone (some a)) ∧
    (∀ b, p.earlier = none → p.later = some b → c.finishFrame = done .alone (some b)) ∧
    (p.earlier = none → p.later = none →
      c.finishFrame =
        { c with warnings := { c.warnings with gap := true },
                 mixer := { c.mixer with prepared := some { p with kind := .again, picture := none } } })

/-! ## Clip protection (chapter 5) -/

/-- A protect lookup served: ABSENT counts a hole, HELD enters the slot in the angle's extent list, and the walk goes
on with the next key, or the next angle that has one, or completes; a 33rd extent, HOLD_LIMIT and FLOOR end the walk,
which releases its holds and closes the clip (R79 to R82, R84 to R87). That the service takes its next entry in the
same event is the model's choice (R48, log entry 6). -/
def Obligations.ProtectLookupServed : Prop :=
  ∀ (s : State) (i : Fin 8) (key : Nat) (w : Walk) (c : Clip) (p : Protection),
    s.store.service = some (.lookup i key) → s.engine.walk = some w → s.engine.withdrawn = false →
    s.clip w.clip = some c → c.protection = some p →
    let s1 := s.onStore fun st => { st with service := none }
    let serve : State → State := State.onStore Store.serve
    let held := { w with heldTotal := w.heldTotal + 1 }
    let l := p.extents.getD w.angle []
    let onExtents : List Extent → State → State := fun l' t =>
      { t with clips := t.clips.insert w.clip { c with protection := some { p with extents := p.extents.set w.angle l' } } }
    let ended : Walk → WalkResult → Option (Nat × Nat) → List Nat → State → State := fun w' result failure extra t =>
      let t1 := releaseHolds (p.slots ++ extra) t
      raise s.houseTime (.protectDone w.clip result p.holes w'.heldTotal failure)
        { t1 with
          clips := t1.clips.insert w.clip { c with state := .closed, protection := none }
          engine := { t1.engine with walk := none, lookup := .none } }
    (∀ t, takeHold i key s1 = (.absent, t) →
      exec .protectLookupServed s =
        .next (serve (advanceWalk w
          { t with clips := t.clips.insert w.clip { c with protection := some { p with holes := p.holes + 1 } } }))) ∧
    (∀ x t, takeHold i key s1 = (.held x, t) →
      exec .protectLookupServed s =
        match l.getLast? with
        | some e =>
          if w.nextKey = e.firstKey + e.count ∧ x = e.firstSlot + e.count then
            .next (serve (advanceWalk held (onExtents (l.dropLast ++ [{ e with count := e.count + 1 }]) t)))
          else if l.length < 32 then .next (serve (advanceWalk held (onExtents (l ++ [⟨w.nextKey, 1, x⟩]) t)))
          else .next (serve (ended held .fragmented (some (w.angle, w.nextKey)) [x] t))
        | none => .next (serve (advanceWalk held (onExtents [⟨w.nextKey, 1, x⟩] t)))) ∧
    (∀ t, takeHold i key s1 = (.holdLimit, t) →
      exec .protectLookupServed s = .next (serve (ended w .holdLimit (some (w.angle, w.nextKey)) [] t))) ∧
    (∀ t, takeHold i key s1 = (.floor, t) →
      exec .protectLookupServed s = .next (serve (ended w .floor (some (w.angle, w.nextKey)) [] t)))

/-- How a walk goes on after a key (R79, R80, R85, R87): to the next key of the angle's range, to the first key of the
next angle whose range is not empty, or, with none left, to its end: the clip PROTECTED, the engine IDLE and OP_DONE
with OK. The end of a withdrawn lookup's service issues the first lookup that was DEFERRED behind it, with its walk
(R78, R89). That the end of a withdrawn lookup does nothing when none is in service is log entry 3, and that the
service takes its next entry in the same event is log entry 6. -/
def Obligations.WalkAdvances : Prop :=
  (∀ (s : State) (w : Walk) (c : Clip), s.clip w.clip = some c →
    let q : Nat → Nat := fun a => w.periods.getD a 0
    let lo : Nat → Nat := fun a => (c.inPoint + q a - 1) / q a
    let hi : Nat → Nat := fun a => c.outPoint.getD c.inPoint / q a
    let issue : Walk → State → State := fun w' t =>
      (t.onEngine fun e => { e with walk := some w', lookup := .pending }).onStore
        (Store.enqueue (.lookup (c.angles.getD w'.angle 0) w'.nextKey))
    (w.nextKey < w.lastKey → advanceWalk w s = issue { w with nextKey := w.nextKey + 1 } s) ∧
    (∀ a, w.lastKey ≤ w.nextKey → w.angle < a → a < w.periods.length → lo a ≤ hi a →
      (∀ n, w.angle < n → n < a → hi n < lo n) →
      advanceWalk w s = issue { w with angle := a, nextKey := lo a, lastKey := hi a } s) ∧
    (w.lastKey ≤ w.nextKey → (∀ n, w.angle < n → n < w.periods.length → hi n < lo n) →
      advanceWalk w s =
        raise s.houseTime (.protectDone w.clip .ok (c.protection.elim 0 Protection.holes) w.heldTotal none)
          { s with clips := s.clips.insert w.clip { c with state := .protected_ },
                   engine := { s.engine with walk := none, lookup := .none } })) ∧
  ∀ (s : State) (i : Fin 8) (key : Nat),
    let s1 := (s.onStore fun st => { st with service := none }).onEngine fun e => { e with withdrawn := false }
    (s.engine.withdrawn = false ∨ (∀ j k, s.store.service ≠ some (.lookup j k)) →
      exec .withdrawnLookupEnd s = .next s) ∧
    (s.engine.withdrawn = true → s.store.service = some (.lookup i key) → s.engine.lookup ≠ .deferred →
      exec .withdrawnLookupEnd s = .next (s1.onStore Store.serve)) ∧
    ∀ w c, s.engine.withdrawn = true → s.store.service = some (.lookup i key) → s.engine.lookup = .deferred →
      s.engine.walk = some w → s.clip w.clip = some c →
      exec .withdrawnLookupEnd s =
        .next ((s1.onEngine fun e => { e with lookup := .pending }).onStore
          (Store.enqueue (.lookup (c.angles.getD w.angle 0) w.nextKey)))

/-- PROTECT CLIP (R78, R79): refused for an id out of range or unheld, a clip not CLOSED, or a walk in flight.
Otherwise the clip becomes PROTECTING with empty extent lists, the reply carries the keys the walk will examine, and
the first lookup is issued, DEFERRED behind a withdrawn lookup; with no key on any angle the walk completes at once.
-/
def Obligations.ProtectClip : Prop :=
  ∀ (o : Origin) (id : Nat) (s : State), s.canTake o.link = true →
    let b := s.served o
    (512 ≤ id → exec (.protectClip o id) s = .next (s.refused o 15 .badArgument)) ∧
    (id < 512 → s.clip id = none → exec (.protectClip o id) s = .next (s.refused o 15 .notFound)) ∧
    ∀ c, id < 512 → s.clip id = some c →
      let q : Nat → Nat := fun a => s.period (c.angles.getD a 0)
      let lo : Nat → Nat := fun a => (c.inPoint + q a - 1) / q a
      let hi : Nat → Nat := fun a => c.outPoint.getD c.inPoint / q a
      let total := ∑ a ∈ Finset.range c.angles.length, (hi a + 1 - lo a)
      let empty : Protection := { extents := c.angles.map fun _ => [] }
      let s1 := { b with clips := s.clips.insert id { c with state := .protecting, protection := some empty } }
      (c.state ≠ .closed → exec (.protectClip o id) s = .next (s.refused o 15 .refusedState)) ∧
      (c.state = .closed → s.engine.walk ≠ none → exec (.protectClip o id) s = .next (s.refused o 15 .busy)) ∧
      (∀ a, c.state = .closed → s.engine.walk = none → a < c.angles.length → lo a ≤ hi a → (∀ n < a, hi n < lo n) →
        let s2 := s1.onEngine fun e =>
          { e with walk := some ⟨id, a, lo a, hi a, 0, c.angles.map s.period⟩,
                   lookup := if s.engine.withdrawn = true then .deferred else .pending }
        exec (.protectClip o id) s =
          .next (queueReply o 15 .accepted (be 2 id ++ be 4 total)
            (if s.engine.withdrawn = true then s2 else s2.onStore (Store.enqueue (.lookup (c.angles.getD a 0) (lo a)))))) ∧
      (c.state = .closed → s.engine.walk = none → (∀ n < c.angles.length, hi n < lo n) →
        exec (.protectClip o id) s =
          .next (queueReply o 15 .accepted (be 2 id ++ be 4 0)
            (raise s.houseTime (.protectDone id .ok 0 0 none)
              { b with
                clips := s.clips.insert id { c with state := .protected_, protection := some empty }
                engine := { s.engine with lookup := .none } })))

/-- RELEASE CLIP (R88, R89): the reply carries the number of holds released. A PROTECTED clip's holds are released; a
PROTECTING clip's walk is stopped as one event, its waiting lookup removed and a lookup in service withdrawn. -/
def Obligations.ReleaseClip : Prop :=
  ∀ (o : Origin) (id : Nat) (s : State), s.canTake o.link = true →
    let b := s.served o
    (512 ≤ id → exec (.releaseClip o id) s = .next (s.refused o 16 .badArgument)) ∧
    (id < 512 → s.clip id = none → exec (.releaseClip o id) s = .next (s.refused o 16 .notFound)) ∧
    ∀ c, id < 512 → s.clip id = some c →
      (c.state ≠ .protecting → c.state ≠ .protected_ →
        exec (.releaseClip o id) s = .next (s.refused o 16 .refusedState)) ∧
      (c.state = .protecting ∨ c.state = .protected_ → c.useCount ≠ 0 →
        exec (.releaseClip o id) s = .next (s.refused o 16 .inUse)) ∧
      ∀ p, c.useCount = 0 → c.protection = some p →
        let closed : State → State := fun t =>
          { t with clips := t.clips.insert id { c with state := .closed, protection := none } }
        (c.state = .protected_ →
          exec (.releaseClip o id) s =
            .next (queueReply o 16 .ok (be 4 p.slots.length) (closed (releaseHolds p.slots b)))) ∧
        ∀ w, c.state = .protecting → s.engine.walk = some w → w.clip = id →
          let b1 := match s.engine.lookup, s.store.service with
            | .pending, some (.lookup _ _) => b.onEngine fun e => { e with withdrawn := true }
            | .pending, _ => b.onStore fun st => { st with queue := st.queue.filter ReadEntry.isFetch }
            | _, _ => b
          exec (.releaseClip o id) s =
            .next (queueReply o 16 .ok (be 4 p.slots.length)
              (raise s.houseTime (.protectDone id .released p.holes w.heldTotal none)
                ((closed (releaseHolds p.slots b1)).onEngine fun e => { e with walk := none, lookup := .none })))

/-! ## Marks and the Clip Table (chapter 4) -/

/-- SET MARK GROUP and READ MARK GROUP (R55): the arguments that are refused BAD_ARGUMENT; the five fields set, with
the open clip kept; and the six fields in the reply of a read. That the recycle setting is one byte, 0 or 1, in the
request and in the reply rests on log entry 13. -/
def Obligations.MarkGroupRequests : Prop :=
  ∀ (o : Origin) (s : State), s.canTake o.link = true →
    (∀ g l d pre post r,
      4 ≤ g ∨ l.length = 0 ∨ 8 < l.length ∨ (∃ x ∈ l, 8 ≤ x) ∨ ¬l.Nodup ∨ d < 1 ∨ 3000 < d ∨ pre < 1 ∨ 3000 < pre ∨
          3000 < post →
        exec (.setMarkGroup o g l d pre post r) s = .next (s.refused o 5 .badArgument)) ∧
    (∀ (g : Fin 4) (l : List (Fin 8)) (d pre post : Nat) (r : Bool),
      1 ≤ l.length → l.length ≤ 8 → l.Nodup → 1 ≤ d → d ≤ 3000 → 1 ≤ pre → pre ≤ 3000 → post ≤ 3000 →
        exec (.setMarkGroup o g.val (l.map Fin.val) d pre post (if r then 1 else 0)) s =
          .next (queueReply o 5 .ok [] ((s.served o).onGroup g fun m =>
            { angles := l, defaultLength := d, preRoll := pre, postRoll := post, recycle := r,
              openClip := m.openClip }))) ∧
    (∀ g, 4 ≤ g → exec (.readMarkGroup o g) s = .next (s.refused o 6 .badArgument)) ∧
    ∀ g : Fin 4,
      let m := s.group g
      exec (.readMarkGroup o g.val) s =
        .next (queueReply o 6 .ok
          (be 1 m.angles.length ++ m.angles.flatMap (fun i => be 1 i.val) ++ be 2 m.defaultLength ++ be 2 m.preRoll ++
            be 2 m.postRoll ++ be 1 (if m.recycle then 1 else 0) ++ optional (be 2) m.openClip) (s.served o))

/-- A mark's new clip: with room in the table it takes the lowest id no clip holds (R56) and a copy of the group's
angle list (R54); in a full table it is refused TABLE_FULL without recycling, or takes the place of the first clip in
list order that recycling may drop, with CLIP_DROPPED (R67). Recycling may drop a clip that is CLOSED, has use count 0
and an out-point before the recall start of every stream of its angle list (R67). -/
def Obligations.NewClipTakesLowestId : Prop :=
  ∀ (g : Fin 4) (st : ClipState) (tin : Nat) (tout : Option Nat) (s : State),
    s.clips.wf → (∀ e ∈ s.clips, e.1 < 512) →
    let c : Clip := { group := g, state := st, inPoint := tin, outPoint := tout, angles := (s.group g).angles }
    (s.clips.length < 512 →
      ∃ id, id < 512 ∧ s.clip id = none ∧ (∀ j < id, s.clip j ≠ none) ∧
        createClip g st tin tout s = .ok (id, c, { s with clips := s.clips.insert id c })) ∧
    (512 ≤ s.clips.length → (s.group g).recycle = false → createClip g st tin tout s = .error .tableFull) ∧
    (512 ≤ s.clips.length → (s.group g).recycle = true → (∀ e ∈ s.clips, recyclable s e.2 = false) →
      createClip g st tin tout s = .error .tableFull) ∧
    (∀ id k, 512 ≤ s.clips.length → (s.group g).recycle = true → s.clip id = some k → recyclable s k = true →
      (∀ e ∈ s.clips, recyclable s e.2 = true → e = (id, k) ∨ k.inPoint < e.2.inPoint ∨
        (k.inPoint = e.2.inPoint ∧ id < e.1)) →
      createClip g st tin tout s =
        .ok (id, c, { raise s.houseTime (.clipDropped id k.group k.inPoint k.outPoint .recycled) s with
          clips := (s.clips.erase id).insert id c })) ∧
    ∀ k : Clip, recyclable s k = true ↔
      k.state = .closed ∧ k.useCount = 0 ∧
        ∀ i ∈ k.angles, ∃ out start, k.outPoint = some out ∧ s.recallStart i = some start ∧ out < start

/-- MARK IN (R60, R61, R65): a group out of range, a time beyond the grain range or later than now, and a timer in
UNLOCKED are refused; the group's open clip is re-marked, or a new OPEN clip becomes it; CLIP_MARKED, and the clip in
the reply. MARK OUT (R60, R62, R63, R65): an open clip gets its out-point, CLOSED when it is at or before now and
CLOSING when it is later, and leaves the group; without one a clip of the default length ending at the time is
created. MARK SPOT (R60, R64, R65): a clip from the pre-roll before the time to the post-roll after it, or to one
grain after it with a post-roll of 0; CLOSED when the out-point is at or before now and CLOSING when it is later. -/
def Obligations.Marks : Prop :=
  ∀ (o : Origin) (s : State), s.canTake o.link = true →
    let b := s.served o
    let now := s.houseTime
    (∀ g time, 4 ≤ g →
      exec (.markIn o g time) s = .next (s.refused o 7 .badArgument) ∧
      exec (.markOut o g time) s = .next (s.refused o 8 .badArgument) ∧
      exec (.markSpot o g time) s = .next (s.refused o 9 .badArgument)) ∧
    ∀ (g : Fin 4) (time : MarkTime) (t : Nat), (time = .now ∧ t = now ∨ time = .explicit t) →
      (exec (.markIn o g.val time) s =
        if 2 ^ 52 ≤ t then .next (s.refused o 7 .badArgument)
        else if s.timer.state = .unlocked then .next (s.refused o 7 .noReference)
        else if now < t then .next (s.refused o 7 .badArgument)
        else
          match (s.group g).openClip.bind fun id => (s.clip id).map fun c => (id, c) with
          | some (id, c) =>
            .next (queueReply o 7 .ok
              (be 2 id ++ be 1 c.state.code ++ be 7 t ++ c.outPoint.elim [] (be 7) ++ be 1 2)
              (raise now (.clipMarked id g .remarked c.state t c.outPoint none)
                { b with clips := s.clips.insert id { c with inPoint := t } }))
          | none =>
            match createClip g .opened t none b with
            | .error e => .next (s.refused o 7 e)
            | .ok (id, _, s1) =>
              .next (queueReply o 7 .ok (be 2 id ++ be 1 1 ++ be 7 t ++ be 1 1)
                (raise now (.clipMarked id g .opened .opened t none none)
                  (s1.onGroup g fun m => { m with openClip := some id })))) ∧
      (let st : ClipState := if t ≤ now then .closed else .closing
      let tin := t - (s.group g).defaultLength * 2880
      exec (.markOut o g.val time) s =
        if 2 ^ 52 ≤ t then .next (s.refused o 8 .badArgument)
        else if s.timer.state = .unlocked then .next (s.refused o 8 .noReference)
        else
          match (s.group g).openClip.bind fun id => (s.clip id).map fun c => (id, c) with
          | some (id, c) =>
            if t ≤ c.inPoint ∨ 2 ^ 31 < t - c.inPoint then .next (s.refused o 8 .badArgument)
            else
              .next (queueReply o 8 .ok (be 2 id ++ be 1 st.code ++ be 7 c.inPoint ++ be 7 t ++ be 1 3)
                (raise now (.clipMarked id g .closedOut st c.inPoint (some t) none)
                  (({ b with clips := s.clips.insert id { c with outPoint := some t, state := st } } : State).onGroup g
                    fun m => { m with openClip := none })))
          | none =>
            if t ≤ tin then .next (s.refused o 8 .badArgument)
            else
              match createClip g st tin (some t) b with
              | .error e => .next (s.refused o 8 e)
              | .ok (id, _, s1) =>
                .next (queueReply o 8 .ok (be 2 id ++ be 1 st.code ++ be 7 tin ++ be 7 t ++ be 1 4)
                  (raise now (.clipMarked id g .createdOut st tin (some t) none) s1))) ∧
      let m := s.group g
      let tin := t - m.preRoll * 2880
      let tout := if m.postRoll = 0 then t + 1 else t + m.postRoll * 2880
      let st : ClipState := if tout ≤ now then .closed else .closing
      exec (.markSpot o g.val time) s =
        if 2 ^ 52 ≤ t then .next (s.refused o 9 .badArgument)
        else if s.timer.state = .unlocked then .next (s.refused o 9 .noReference)
        else if 2 ^ 52 ≤ tout then .next (s.refused o 9 .badArgument)
        else
          match createClip g st tin (some tout) b with
          | .error e => .next (s.refused o 9 e)
          | .ok (id, _, s1) =>
            .next (queueReply o 9 .ok (be 2 id ++ be 1 st.code ++ be 7 tin ++ be 7 tout ++ be 1 5)
              (raise now (.clipMarked id g .createdSpot st tin (some tout) none) s1))

/-- TAKE LATCH (R75): BAD_ARGUMENT for a line, action or group out of range, NOT_FOUND for an empty latch; DISCARD (4)
empties the latch; IN (1), OUT (2) and SPOT (3) perform the mark at the captured time on the group given, and empty
the latch only when the mark succeeds. An edge of a MARK line at its latch (R73, R74): an overrun at a full latch;
ignored in UNLOCKED; otherwise the house time is captured, and under an automatic action the mark is made at once, the
latch being emptied when it succeeds and MARK_FAILED raised with the latch full when it fails. The reply of TAKE LATCH
is the mark's own (log entry 33). -/
def Obligations.MarkLatches : Prop :=
  (∀ (o : Origin) (s : State), s.canTake o.link = true →
    let b := s.served o
    (∀ n a g, 8 ≤ n ∨ a < 1 ∨ 4 < a ∨ 4 ≤ g → exec (.takeLatch o n a g) s = .next (s.refused o 14 .badArgument)) ∧
    ∀ (n : Fin 8) (g : Fin 4),
      let empty : State → State := State.onLatch n fun r => { r with captured := none }
      (∀ a, 1 ≤ a → a ≤ 4 → (s.latch n).captured = none →
        exec (.takeLatch o n.val a g.val) s = .next (s.refused o 14 .notFound)) ∧
      ∀ t, (s.latch n).captured = some t →
        exec (.takeLatch o n.val 4 g.val) s = .next (queueReply o 14 .ok [] (empty b)) ∧
        ∀ a k, (a = 1 ∧ k = MarkKind.markIn ∨ a = 2 ∧ k = .markOut ∨ a = 3 ∧ k = .markSpot) →
          exec (.takeLatch o n.val a g.val) s =
            match performMark k g t (some n) b with
            | .error e => .next (s.refused o 14 e)
            | .ok m => .next (queueReply o 14 .ok m.results (empty m.state))) ∧
  (∀ (n : Fin 8) (s : State),
    let l := s.line n
    let now := s.houseTime
    let full := s.onLatch n fun r => { r with captured := some now }
    ((s.latch n).captured ≠ none → latchEdge n s = s.onLatch n fun r => { r with overrun := bump r.overrun }) ∧
    ((s.latch n).captured = none → s.timer.state = .unlocked →
      latchEdge n s = s.onLatch n fun r => { r with ignored := bump r.ignored }) ∧
    ((s.latch n).captured = none → s.timer.state ≠ .unlocked →
      (l.markAction = .latchOnly → latchEdge n s = raise now (.markCaptured n l.markGroup now) full) ∧
      ∀ k, (l.markAction = .autoIn ∧ k = MarkKind.markIn ∨ l.markAction = .autoOut ∧ k = .markOut ∨
          l.markAction = .autoSpot ∧ k = .markSpot) →
        latchEdge n s =
          match performMark k l.markGroup now (some n) full with
          | .ok m => m.state.onLatch n fun r => { r with captured := none }
          | .error e => raise now (.markFailed n l.markAction l.markGroup now e) full))

/-- SET CLIP LABEL (R68) and DROP CLIP (R69, R90): the refusals in their order; the label replaced, or absent for no
bytes; the clip gone from the table and from its group, its holds released, with CLIP_DROPPED. -/
def Obligations.ClipLabelAndDrop : Prop :=
  ∀ (o : Origin) (id : Nat) (s : State), s.canTake o.link = true →
    let b := s.served o
    (∀ l, 512 ≤ id ∨ 16 < l.length → exec (.setClipLabel o id l) s = .next (s.refused o 10 .badArgument)) ∧
    (∀ l, id < 512 → l.length ≤ 16 → s.clip id = none →
      exec (.setClipLabel o id l) s = .next (s.refused o 10 .notFound)) ∧
    (512 ≤ id → exec (.dropClip o id) s = .next (s.refused o 11 .badArgument)) ∧
    (id < 512 → s.clip id = none → exec (.dropClip o id) s = .next (s.refused o 11 .notFound)) ∧
    ∀ c, id < 512 → s.clip id = some c →
      (∀ l, l.length ≤ 16 →
        exec (.setClipLabel o id l) s =
          .next (queueReply o 10 .ok []
            { b with clips := s.clips.insert id { c with label := if l.length = 0 then none else some l } })) ∧
      exec (.dropClip o id) s =
        if c.state = .protecting then .next (s.refused o 11 .busy)
        else if c.useCount ≠ 0 then .next (s.refused o 11 .inUse)
        else
          let t := releaseHolds (c.protection.elim [] Protection.slots) b
          .next (queueReply o 11 .ok []
            (raise s.houseTime (.clipDropped id c.group c.inPoint c.outPoint .requested)
              { t with
                clips := s.clips.erase id
                groups := if (s.group c.group).openClip = some id then
                    s.groups.set c.group { s.group c.group with openClip := none }
                  else s.groups }))

/-- LIST CLIPS (R57, R70): BAD_ARGUMENT for a start beyond 511 or a count outside 1 to 16; otherwise the number of
clips, the start, and the summaries of up to that many clips from that position of the clip list, which holds every
clip in order of in-point and id. The bytes of a summary stand in ReadRequests (log entries 13 and 42). -/
def Obligations.ListClips : Prop :=
  (∀ (o : Origin) (start count : Nat) (s : State), s.canTake o.link = true →
    exec (.listClips o start count) s =
      if 512 ≤ start ∨ count < 1 ∨ 16 < count then .next (s.refused o 12 .badArgument)
      else
        let l := ((clipList s.clips).drop start).take count
        .next (queueReply o 12 .ok (be 2 s.clips.length ++ be 2 start ++ be 1 l.length ++ l.flatMap clipSummary)
          (s.served o))) ∧
  ∀ t : Table Clip,
    (clipList t).Perm t ∧
      (t.wf → (clipList t).Pairwise fun a b =>
        a.2.inPoint < b.2.inPoint ∨ (a.2.inPoint = b.2.inPoint ∧ a.1 < b.1))

/-! ## Playout channels (chapters 6, 7, 9 and 10) -/

/-- A channel number outside 0 to 3 is refused BAD_ARGUMENT before any other check, by every channel request (R93). A
yes-or-no byte other than 0 and 1 is refused BAD_ARGUMENT by the model's choice (log entry 11): the immediate flag of
PLAY and STOP, the recycle setting of SET MARK GROUP. -/
def Obligations.BadNumbersAndFlags : Prop :=
  (∀ (o : Origin) (ch f : Nat) (v : Int) (s : State), s.canTake o.link = true → 1 < f →
    exec (.play o ch v f) s = .next (s.refused o 19 .badArgument) ∧
    exec (.stop o ch f) s = .next (s.refused o 20 .badArgument) ∧
    ∀ g l d pre post, exec (.setMarkGroup o g l d pre post f) s = .next (s.refused o 5 .badArgument)) ∧
  ∀ (o : Origin) (ch : Nat) (s : State), s.canTake o.link = true → 4 ≤ ch →
    (∀ a, exec (.configureChannel o ch a) s = .next (s.refused o 17 .badArgument)) ∧
    (∀ f, exec (.bindChannel o ch f) s = .next (s.refused o 18 .badArgument)) ∧
    (∀ v f, exec (.play o ch v f) s = .next (s.refused o 19 .badArgument)) ∧
    (∀ f, exec (.stop o ch f) s = .next (s.refused o 20 .badArgument)) ∧
    (∀ v, exec (.shuttle o ch v) s = .next (s.refused o 21 .badArgument)) ∧
    (∀ n, exec (.jog o ch n) s = .next (s.refused o 22 .badArgument)) ∧
    (∀ f, exec (.seek o ch f) s = .next (s.refused o 23 .badArgument)) ∧
    (∀ n, exec (.angle o ch n) s = .next (s.refused o 24 .badArgument)) ∧
    exec (.halt o ch) s = .next (s.refused o 25 .badArgument) ∧
    exec (.resetChannel o ch) s = .next (s.refused o 26 .badArgument) ∧
    exec (.readChannel o ch) s = .next (s.refused o 27 .badArgument) ∧
    exec (.clearWarnings o ch) s = .next (s.refused o 28 .badArgument) ∧
    (∀ f n, exec (.bindCues o ch f n) s = .next (s.refused o 34 .badArgument)) ∧
    exec (.requestBreak o ch) s = .next (s.refused o 35 .badArgument) ∧
    exec (.continue_ o ch) s = .next (s.refused o 36 .badArgument)

/-- CONFIGURE CHANNEL (R94): the arguments refused, the pass period kept while RUNNING or BREAK, the nine fields with
the ramps clamped to 3072, the pass count 0 when the pass period changes, and a CUED, RUNNING or BREAK channel without
a route on an UP link HALTED with cause ROUTE in the same event. -/
def Obligations.ConfigureChannel : Prop :=
  ∀ (o : Origin) (ch : Fin 4) (a : ChannelArgs) (s : State), s.canTake o.link = true →
    let b := s.served o
    let c := s.channel ch
    (a.shuttleHoldOff < 1 ∨ 250 < a.shuttleHoldOff ∨ a.endAction < 1 ∨ 3 < a.endAction ∨
        a.passPeriod ∉ [1, 2, 4, 8, 16, 32, 64] ∨ 15000 < a.breakLimit ∨ a.mixMode < 1 ∨ 3 < a.mixMode ∨ a.fill < 1 ∨
        2 < a.fill ∨ (∃ r, a.route = some r ∧ (2 ≤ r.link ∨ 255 < r.endpoint)) →
      exec (.configureChannel o ch.val a) s = .next (s.refused o 17 .badArgument)) ∧
    ∀ (e : EndAction) (m : MixMode) (f : Fill) (r : Option Route),
      1 ≤ a.shuttleHoldOff → a.shuttleHoldOff ≤ 250 → a.passPeriod ∈ [1, 2, 4, 8, 16, 32, 64] → a.breakLimit ≤ 15000 →
      (a.endAction, e) ∈ [(1, EndAction.stop), (2, .loop), (3, .runOn)] →
      (a.mixMode, m) ∈ [(1, MixMode.blend), (2, .nearest), (3, .hold)] →
      (a.fill, f) ∈ [(1, Fill.black), (2, .last)] →
      a.route = r.map (fun r => ⟨r.link.val, r.endpoint⟩) → (∀ x, r = some x → x.endpoint ≤ 255) →
      let k : ChannelConfig :=
        ⟨min a.programRamp 3072, min a.shuttleRamp 3072, a.shuttleHoldOff, e, a.passPeriod, a.breakLimit, m, f, r⟩
      let s1 := b.onChannel ch fun c =>
        { c with config := k, passCount := if a.passPeriod = c.config.passPeriod then c.passCount else 0 }
      let halted := (s1.onChannel ch fun c => { c with state := .halted .route }).onStore (Store.discardFetches ch)
      exec (.configureChannel o ch.val a) s =
        if (c.state = .running ∨ c.state = .inBreak) ∧ a.passPeriod ≠ c.config.passPeriod then
          .next (s.refused o 17 .refusedState)
        else
          .next (queueReply o 17 .ok []
            (settleFault ch s.houseTime
              (if (c.state = .cued ∨ c.state = .running ∨ c.state = .inBreak) ∧
                  ¬(∃ x, r = some x ∧ (s.port x.link).up = true) then halted
              else s1)))

/-- BIND CHANNEL (R95, R96): the checks in their order, then the position clamped into the clip or the stream's
bounds, the use counts moved from the clip left to the clip joined, and the channel CUED with its motion, pass, break
and cue state cleared. -/
def Obligations.BindChannel : Prop :=
  ∀ (o : Origin) (ch : Fin 4) (s : State), s.canTake o.link = true →
    let b := s.served o
    let c := s.channel ch
    let bad : BindForm → Status → Prop := fun f st => exec (.bindChannel o ch.val f) s = .next (s.refused o 18 st)
    let good : BindForm → Binding → Nat → Fin 8 → Prop := fun f bd p i =>
      exec (.bindChannel o ch.val f) s =
        .next (queueReply o 18 .ok (be 7 p ++ be 1 i.val)
          (settleFault ch s.houseTime ((joinClip bd (leaveClip c.binding b)).onChannel ch fun c =>
            { c with
              binding := bd, position := p, speed := 0, target := 0, source := .program, holdOff := 0, hold := 0,
              passCount := 0, breakRequested := false, breakAnnounced := false, breakTimer := 0, atLive := false,
              state := .cued, stack := [], conditions := { c.conditions with cueFault := false },
              scanner := ⟨if c.cueBinding.isSome then .active else .waiting, 0, none, true⟩ })))
    (∀ f k, c.state = .halted k → bad f .refusedState) ∧
    (∀ f, c.haltCause = none → (∀ r, c.config.route = some r → (s.port r.link).up = false) → bad f .notConfigured) ∧
    ∀ r, c.haltCause = none → c.config.route = some r → (s.port r.link).up = true →
      (∀ id a off, 512 ≤ id → bad (.clip id a off) .badArgument) ∧
      (∀ id a off, id < 512 → s.clip id = none → bad (.clip id a off) .notFound) ∧
      (∀ id a off k, id < 512 → s.clip id = some k → k.state = .opened ∨ k.state = .closing →
        bad (.clip id a off) .refusedState) ∧
      (∀ id a off k, id < 512 → s.clip id = some k → k.state = .closed ∨ k.state = .protecting ∨ k.state = .protected_ →
        (k.angles.length ≤ a → bad (.clip id a off) .badArgument) ∧
        ∀ out i, k.outPoint = some out → k.angles[a]? = some i →
          good (.clip id a off) (.clip id a) (min (k.inPoint + off) out) i) ∧
      (∀ st p, 8 ≤ st → bad (.free st p) .badArgument) ∧
      (∀ (i : Fin 8) n, 1048575 < n → bad (.free i.val (.liveMinus n)) .badArgument) ∧
      (∀ (i : Fin 8) p, (∀ n, p = .liveMinus n → n ≤ 1048575) → (s.stream i).lastKey = none →
        bad (.free i.val p) .notFound) ∧
      ∀ (i : Fin 8) lo hi, s.recallStart i = some lo → s.liveEdge i = some hi → lo ≤ hi →
        (∀ t : Nat, let p := within lo hi t; good (.free i.val (.absolute t)) (.free p i) p i) ∧
        ∀ n : Nat, n ≤ 1048575 →
          let p := within lo hi ((hi : Int) - 2880 * n)
          good (.free i.val (.liveMinus n)) (.free p i) p i

/-- A clip's use count falls by one when a channel leaves it and rises by one when a channel joins it; a binding to no
clip moves none (R59). A break request standing at a pass start, by the flag or by an active BREAK_REQUEST line of the
channel, announces the pass with BREAK_AHEAD and clears the flag (R153). A wrap (R147, R151, R153, R157, R159): p at
the in-point, the pass count one on within its period, RUNNING with the timer 0; a standing request announces the new
pass; BREAK_END, when a break ends, before BREAK_AHEAD; then the stack is emptied and an ACTIVE or ENDED scanner is
reset, its re-seek flag clear, and scans the cues at mark 0, a FAULTED one going to index 0 and a WAITING one staying,
each of these two flagged for re-seek when the wrap lowers p (R140, log entry 22). That the wrap scans whatever the
speed source is the model's choice (log entry 34). -/
def Obligations.PassStarts : Prop :=
  ((∀ (s : State) (id a : Nat) (c : Clip), s.clip id = some c →
    leaveClip (.clip id a) s = { s with clips := s.clips.insert id { c with useCount := c.useCount - 1 } } ∧
    joinClip (.clip id a) s = { s with clips := s.clips.insert id { c with useCount := c.useCount + 1 } }) ∧
  (∀ (s : State) (bd : Binding), (∀ id a, bd ≠ .clip id a) → leaveClip bd s = s ∧ joinClip bd s = s) ∧
  ∀ (ch : Fin 4) (time : Nat) (s : State),
    let c := s.channel ch
    let line := ∃ n, (s.line n).function = .breakRequest ∧ (s.line n).channel = ch ∧ (s.line n).inputActive = true
    let ahead : BreakSource → State := fun src =>
      raise time (.breakAhead ch c.binding.boundTo c.passCount src c.config.endAction)
        (s.onChannel ch fun c => { c with breakAnnounced := true, breakRequested := false })
    (c.breakRequested = true → sampleBreak ch time s = ahead .request) ∧
    (c.breakRequested = false → line → sampleBreak ch time s = ahead .line) ∧
    (c.breakRequested = false → ¬line → sampleBreak ch time s = s)) ∧
  (∀ (ch : Fin 4) (cause : Option BreakCause) (time : Nat) (s : State),
    let c := s.channel ch
    let pass := (c.passCount + 1) % c.config.passPeriod
    let line := ∃ n, (s.line n).function = .breakRequest ∧ (s.line n).channel = ch ∧ (s.line n).inputActive = true
    let stands := c.breakRequested = true ∨ line
    let flagged := c.scanner.reseek || decide (s.base ch < c.position)
    let ended : Bool → State → State := fun announced t => match cause with
      | none => t
      | some k => raise time (.breakEnd ch c.binding.boundTo k pass announced) t
    let s1 : Bool → State := fun announced => s.onChannel ch fun c =>
      { c with
        position := s.base ch, passCount := pass, state := .running, breakTimer := 0
        breakAnnounced := announced, breakRequested := if announced then false else c.breakRequested
        scanner := { c.scanner with reseek := flagged } }
    let scanned : State → State := fun t =>
      let scanner : Scanner := match c.scanner.state with
        | .faulted => { c.scanner with index := 0, lastMark := none, reseek := flagged }
        | .waiting => { c.scanner with reseek := flagged }
        | _ => { state := .active, index := 0, lastMark := none, reseek := false }
      let t1 := t.onChannel ch fun c => { c with stack := [], scanner := scanner }
      if c.scanner.state = .active ∨ c.scanner.state = .ended then scan ch 0 time t1 else t1
    (¬stands → wrap ch cause time s = scanned (ended false (s1 false))) ∧
    (stands →
      wrap ch cause time s = scanned (
        raise time (.breakAhead ch c.binding.boundTo pass (if c.breakRequested = true then .request else .line)
          c.config.endAction) (ended true (s1 true)))))

/-- PLAY (R97): refused in IDLE and HALTED, and BUSY while a page of the channel's cue list is UPDATING; otherwise the
target takes the clamped value, with the immediate flag v takes it too, the source becomes PROGRAM and the hold-off
counter 0, a change from SHUTTLE flags the scanner, and from CUED the channel becomes RUNNING and samples the break
request. STOP (R98): the target 0, and v 0 with the immediate flag and in BREAK. SHUTTLE (R99): when it is taken or
refused, and the fields it sets. Every other field is kept. -/
def Obligations.SpeedRequests : Prop :=
  ∀ (o : Origin) (ch : Fin 4) (v : Int) (immediate : Bool) (s : State), s.canTake o.link = true →
    let b := s.served o
    let c := s.channel ch
    let v' := max (-3072) (min 3072 v)
    let f := if immediate then 1 else 0
    let updating := ∃ p l, s.cues.commit = some p ∧ c.cueBinding = some l ∧ l.first ≤ p ∧ p < l.first + l.count
    let played := b.onChannel ch fun c =>
      { c with
        target := v', speed := if immediate then v' else c.speed, source := .program, holdOff := 0,
        scanner := { c.scanner with reseek := c.scanner.reseek || decide (c.source = .shuttle) },
        state := if c.state = .cued then .running else c.state }
    (¬(c.state = .cued ∨ c.state = .running ∨ c.state = .inBreak) →
      exec (.play o ch.val v f) s = .next (s.refused o 19 .refusedState) ∧
      exec (.stop o ch.val f) s = .next (s.refused o 20 .refusedState)) ∧
    (¬(c.state = .cued ∨ c.state = .running) → exec (.shuttle o ch.val v) s = .next (s.refused o 21 .refusedState)) ∧
    (c.state = .cued ∨ c.state = .running ∨ c.state = .inBreak →
      (updating → exec (.play o ch.val v f) s = .next (s.refused o 19 .busy)) ∧
      (¬updating →
        exec (.play o ch.val v f) s =
          .next (queueReply o 19 .ok (beInt 2 v')
            (if c.state = .cued then sampleBreak ch s.houseTime played else played))) ∧
      exec (.stop o ch.val f) s =
        .next (queueReply o 20 .ok []
          (b.onChannel ch fun c => { c with target := 0, speed := if immediate = true ∨ c.state = .inBreak then 0 else c.speed }))) ∧
    (c.state = .cued ∨ c.state = .running →
      (updating → exec (.shuttle o ch.val v) s = .next (s.refused o 21 .busy)) ∧
      (¬updating →
        exec (.shuttle o ch.val v) s =
          .next (queueReply o 21 .ok (beInt 2 v') (b.onChannel ch fun c =>
            { c with
              source := .shuttle, target := v', holdOff := c.config.shuttleHoldOff, hold := 0, state := .running }))))

/-- JOG (R101) and SEEK (R102): when each is taken or refused, the new position within the channel's bounds, the
re-seek flag when it lowers p, and the hold counter of a SEEK. ANGLE (R103): refused in IDLE and HALTED; an angle
index of the clip with p kept, or a stream with a live key with p clamped into its bounds, and the scanner flagged
when that lowers p (R140). -/
def Obligations.PositionRequests : Prop :=
  (∀ (o : Origin) (ch : Fin 4) (s : State), s.canTake o.link = true →
    let c := s.channel ch
    let moved : Nat → Nat → State := fun p hold => (s.served o).onChannel ch fun c =>
      { c with position := p, hold := hold,
               scanner := { c.scanner with reseek := c.scanner.reseek || decide (p < c.position) } }
    (∀ n, ¬((c.state = .cued ∨ c.state = .running) ∧ c.speed = 0 ∧ c.target = 0) →
      exec (.jog o ch.val n) s = .next (s.refused o 22 .refusedState)) ∧
    (∀ f, ¬(c.state = .cued ∨ c.state = .running) →
      exec (.seek o ch.val f) s = .next (s.refused o 23 .refusedState)) ∧
    ∀ lo hi, s.boundedBy ch lo hi → lo ≤ hi →
      (∀ i n, c.state = .cued ∨ c.state = .running → c.speed = 0 → c.target = 0 → s.playedStream ch = some i →
        let q := s.period i
        let p := within lo hi (((c.position / q : Nat) + max (-127) (min 127 n)) * (q : Int))
        exec (.jog o ch.val n) s = .next (queueReply o 22 .ok (be 7 p) (moved p c.hold))) ∧
      (∀ off, c.state = .cued ∨ c.state = .running →
        let p := within lo hi (s.base ch + off : Nat)
        exec (.seek o ch.val (.relative off)) s = .next (queueReply o 23 .ok (be 7 p) (moved p 0))) ∧
      ∀ t : Nat, c.state = .cued ∨ c.state = .running →
        let p := within lo hi t
        exec (.seek o ch.val (.absolute t)) s = .next (queueReply o 23 .ok (be 7 p) (moved p 0))) ∧
  ∀ (o : Origin) (ch : Fin 4) (n : Nat) (s : State), s.canTake o.link = true →
    let b := s.served o
    let c := s.channel ch
    (¬(c.state = .cued ∨ c.state = .running ∨ c.state = .inBreak) →
      exec (.angle o ch.val n) s = .next (s.refused o 24 .refusedState)) ∧
    (c.state = .cued ∨ c.state = .running ∨ c.state = .inBreak →
      (∀ id a k, c.binding = .clip id a → s.clip id = some k →
        exec (.angle o ch.val n) s =
          if k.angles.length ≤ n then .next (s.refused o 24 .badArgument)
          else .next (queueReply o 24 .ok (be 7 c.position) (b.onChannel ch fun c => { c with binding := .clip id n }))) ∧
      ∀ origin j, c.binding = .free origin j →
        (8 ≤ n → exec (.angle o ch.val n) s = .next (s.refused o 24 .badArgument)) ∧
        ∀ i : Fin 8, n = i.val →
          ((s.stream i).lastKey = none → exec (.angle o ch.val n) s = .next (s.refused o 24 .notFound)) ∧
          ∀ lo hi, s.recallStart i = some lo → s.liveEdge i = some hi → lo ≤ hi →
            let p := within lo hi c.position
            exec (.angle o ch.val n) s =
              .next (queueReply o 24 .ok (be 7 p) (b.onChannel ch fun c =>
                { c with
                  position := p, binding := .free origin i
                  scanner := { c.scanner with reseek := c.scanner.reseek || decide (p < c.position) } })))

/-- HALT (R104), RESET CHANNEL (R105) and CLEAR WARNINGS (R107), each taken in every state, with the fault level
settled. HALT keeps an earlier cause. RESET CHANNEL keeps the nine configuration fields, the cue binding and the
Mixer's last picture, emission and slip counter; that the emission buffer is kept only during an emission is the
model's choice (log entry 19). CLEAR WARNINGS answers the warnings as they were. -/
def Obligations.HaltResetClear : Prop :=
  ∀ (o : Origin) (ch : Fin 4) (s : State), s.canTake o.link = true →
    let b := s.served o
    let c := s.channel ch
    let w := c.warnings
    let bit : Bool → Nat → Nat := fun x n => if x then n else 0
    exec (.halt o ch.val) s =
      .next (queueReply o 25 .ok []
        (settleFault ch s.houseTime
          ((b.onChannel ch fun c => { c with state := .halted (c.haltCause.getD .request) }).onStore
            (Store.discardFetches ch)))) ∧
    exec (.resetChannel o ch.val) s =
      .next (queueReply o 26 .ok []
        (settleFault ch s.houseTime
          (((leaveClip c.binding b).onChannel ch fun c =>
            { config := c.config, cueBinding := c.cueBinding, level := c.level,
              scanner := ⟨if c.cueBinding.isSome then .active else .waiting, 0, none, true⟩,
              mixer :=
                { prepared := none, sent := if c.mixer.emission.isSome then c.mixer.sent else none,
                  lastPicture := c.mixer.lastPicture, emission := c.mixer.emission, score := 0, slip := c.mixer.slip } :
                Channel }).onStore (Store.discardFetches ch)))) ∧
    exec (.clearWarnings o ch.val) s =
      .next (queueReply o 28 .ok
        (be 1 (bit w.gap 1 + bit w.overtaken 2 + bit w.stackOverflow 4 + bit w.returnEmpty 8 + bit w.cueRange 16 +
          bit w.storeError 32))
        (settleFault ch s.houseTime (b.onChannel ch fun c => { c with warnings := {} })))

/-- The read requests change nothing but the arbiter's turn and the reply: READ CLIP of a held id (R70, R71), READ
CHANNEL (R106), READ STAGING (R132), READ CUE PAGE (R136), READ LINES (R177) and READ STATUS (R15, R31, R53, R189),
each with its results written out byte by byte. The layout of the records rests on the encodings of log entry 13, on
log entry 14 for the counters and widths of READ STATUS, on log entry 31 for H and U, on log entry 32 for the extent
lists, and on log entry 23 for a cue of an unknown type, on log entry 42 for the number of angles of a summary, and on
log entry 43 for the order of the channels of READ CUE PAGE. -/
def Obligations.ReadRequests : Prop :=
  let opt : Option (List Byte) → List Byte := fun x => match x with
    | none => [0]
    | some l => 1 :: l
  let yes : Bool → List Byte := fun x => [if x then 1 else 0]
  let bit : Bool → Nat → Nat := fun x n => if x then n else 0
  let streams : List (Fin 8) → List Byte := fun l => be 1 l.length ++ l.flatMap fun i => be 1 i.val
  let summary : Nat → Clip → List Byte := fun id c =>
    be 2 id ++ be 1 c.group.val ++ be 1 c.state.code ++ be 7 c.inPoint ++ opt (c.outPoint.map (be 7)) ++
      streams c.angles ++ be 1 c.useCount ++ opt (c.protection.map fun p => be 4 p.holes) ++
      opt (c.label.map fun l => be 1 l.length ++ l)
  let params : CueBody → List Byte := fun b => match b with
    | .speed v imm => be 1 1 ++ beInt 2 v ++ be 1 imm
    | .hold n => be 1 2 ++ be 2 n
    | .angle n => be 1 3 ++ be 1 n
    | .jump m => be 1 4 ++ be 4 m
    | .ret => be 1 5
    | .line mask a n => be 1 6 ++ be 1 mask ++ be 1 a ++ be 1 n
    | .note tag => be 1 7 ++ be 1 tag
    | .stop => be 1 8
    | .listEnd => be 1 9
    | .other n => be 1 n
  let cue : CueRecord → List Byte := fun q => be 4 q.mark ++ be 1 q.passRepeat ++ be 1 q.passFirst ++ params q.body
  let route : Route → List Byte := fun r => be 1 r.link.val ++ be 1 r.endpoint
  (∀ e : Nat × Clip, clipSummary e = summary e.1 e.2) ∧
  ([RefState.unlocked, .locking, .locked, .flywheel, .lost].map RefState.code = [1, 2, 3, 4, 5] ∧
    [ClipState.opened, .closing, .closed, .protecting, .protected_].map ClipState.code = [1, 2, 3, 4, 5] ∧
    (∀ k, [ChannelState.idle, .cued, .running, .inBreak, .halted k].map ChannelState.code = [1, 2, 3, 4, 5]) ∧
    [HaltCause.request, .linkDown, .route].map HaltCause.code = [1, 2, 3] ∧
    [EndAction.stop, .loop, .runOn].map EndAction.code = [1, 2, 3] ∧
    [MixMode.blend, .nearest, .hold].map MixMode.code = [1, 2, 3] ∧ [Fill.black, .last].map Fill.code = [1, 2] ∧
    [ScannerState.waiting, .active, .ended, .faulted].map ScannerState.code = [1, 2, 3, 4] ∧
    [LineFunction.input, .mark, .breakEnd, .breakRequest, .output, .tally].map LineFunction.code = [1, 2, 3, 4, 5, 6] ∧
    [MarkAction.latchOnly, .autoIn, .autoOut, .autoSpot].map MarkAction.code = [1, 2, 3, 4]) ∧
  ∀ (o : Origin) (s : State), s.canTake o.link = true →
    let b := s.served o
    let answers : Instr → Nat → List Byte → Prop := fun i kind results =>
      exec i s = .next (queueReply o kind .ok results b)
    (∀ id, 512 ≤ id → exec (.readClip o id) s = .next (s.refused o 13 .badArgument)) ∧
    (∀ id, id < 512 → s.clip id = none → exec (.readClip o id) s = .next (s.refused o 13 .notFound)) ∧
    (∀ id c, id < 512 → s.clip id = some c →
      let place := ((clipList s.clips).takeWhile fun e => decide (e.1 ≠ id)).length
      answers (.readClip o id) 13
        (summary id c ++ be 2 place ++ opt (c.protection.map fun p =>
          p.extents.flatMap fun l => be 1 l.length ++ l.flatMap fun e =>
            be 6 e.firstKey ++ be 4 e.count ++ be 2 e.firstSlot))) ∧
    (∀ ch : Fin 4,
      let c := s.channel ch
      let k := c.config
      let w := c.warnings
      let d := c.conditions
      let mix : MixMode := if k.mixMode = .blend ∧ d.degraded = true then .nearest else k.mixMode
      let bound : List Byte := match c.binding with
        | .clip id a => be 1 1 ++ be 2 id ++ opt (some (be 1 a))
        | .free origin i => be 1 2 ++ be 7 origin ++ opt (some (be 1 i.val))
        | .unbound => be 1 3 ++ opt none
      let fetches := ((s.store.service.toList ++ s.store.queue).filter (ReadEntry.ofChannel ch)).length
      answers (.readChannel o ch.val) 27
        (be 1 c.state.code ++ opt (c.haltCause.map fun x => be 1 (HaltCause.code x)) ++ bound ++
          opt ((s.playedStream ch).map fun i => be 1 i.val) ++ be 7 c.position ++
          opt (if c.binding = .unbound then none else some (beInt 7 ((c.position : Int) - s.base ch))) ++
          beInt 2 c.speed ++ beInt 2 c.target ++ be 1 (if c.source = .program then 1 else 2) ++ be 1 c.holdOff ++
          be 2 c.hold ++
          (be 2 k.programRamp ++ be 2 k.shuttleRamp ++ be 1 k.shuttleHoldOff ++ be 1 k.endAction.code ++
            be 1 k.passPeriod ++ be 2 k.breakLimit ++ be 1 k.mixMode.code ++ be 1 k.fill.code ++ opt (k.route.map route)) ++
          be 1 mix.code ++ be 1 c.passCount ++ (yes c.breakRequested ++ yes c.breakAnnounced) ++ be 2 c.breakTimer ++
          yes c.atLive ++
          be 1 (bit w.gap 1 + bit w.overtaken 2 + bit w.stackOverflow 4 + bit w.returnEmpty 8 + bit w.cueRange 16 +
            bit w.storeError 32) ++
          be 1 (bit d.late 1 + bit d.degraded 2 + bit d.cueFault 4) ++ be 1 c.level ++
          opt (c.cueBinding.map fun x => be 1 x.first ++ be 1 x.count) ++ be 1 c.scanner.state.code ++
          be 2 c.scanner.index ++ be 1 c.stack.length ++ be 1 c.mixer.score ++ be 1 fetches)) ∧
    answers (.readStaging o) 31 (s.cues.staging.flatMap (fun e => opt (e.map cue)) ++ be 1 s.cues.cursor) ∧
    (∀ page, 16 ≤ page → exec (.readCuePage o page) s = .next (s.refused o 33 .badArgument)) ∧
    (∀ page, page < 16 →
      let users := allFour.filter fun ch => (s.channel ch).listHas page
      answers (.readCuePage o page) 33
        (be 1 (if s.cues.commit = some page then 2 else 1) ++ (s.cues.pages.getD page []).flatMap cue ++
          be 1 users.length ++ users.flatMap fun ch => be 1 ch.val)) ∧
    answers (.readLines o) 41 (allEight.flatMap fun n =>
      let l := s.line n
      let m := s.latch n
      let active : Bool := match l.function with
        | .output => l.outputActive
        | .tally => decide ((s.channel l.channel).state = .running ∨ (s.channel l.channel).state = .inBreak)
        | _ => l.inputActive
      let high : Bool := if (l.function = .output ∨ l.function = .tally) ∧ s.resetHeld = false then
          (if l.polarity = .activeHigh then active else !active)
        else l.pinHigh
      be 1 l.function.code ++ be 1 l.channel.val ++ be 1 (if l.polarity = .activeHigh then 1 else 2) ++
        be 1 l.markAction.code ++ be 1 l.markGroup.val ++ be 1 (if active then 1 else 2) ++ be 1 (if high then 1 else 2) ++
        opt (if l.function = .output then some (be 1 l.pulseTimer) else none) ++
        opt (if l.function = .output then l.pulseFrame.map (be 5) else none) ++ opt (m.captured.map (be 7)) ++
        be 2 m.overrun ++ be 2 m.ignored) ∧
    answers (.readStatus o) 44
      (let e := s.endpoint
      let up : Fin 2 → Nat := fun l => if (s.port l).up = true then 1 else 2
      let faults : Fin 8 → List Byte := fun i =>
        be 2 (s.stream i).torn ++ be 2 (s.stream i).stale ++ be 2 (s.stream i).skew
      be 1 e.id ++ (be 1 (up 0) ++ be 1 (up 1)) ++ (be 1 e.enables.toNat ++ opt (e.route.map route)) ++
        be 1 e.notices.length ++ yes e.noticeLoss ++
        (be 1 s.timer.state.code ++ be 1 (if s.timer.rate = .hz50 then 1 else 2) ++ be 3 s.timer.period ++
          be 7 s.houseTime) ++
        (allEight.flatMap fun i =>
          let r := s.stream i
          yes r.enabled ++ be 1 r.source ++ be 1 r.link.val ++ be 1 r.multiple ++
            be 1 (if r.assembly = none then 1 else 2) ++ opt (r.assembly.map fun a => be 6 a.key) ++
            opt (r.lastKey.map (be 6)) ++ opt (r.originKey.map (be 6)) ++
            opt (if r.lastKey = none then none else (s.recallStart i).map (be 7)) ++ faults i) ++
        (yes s.store.configured ++
          (allEight.flatMap fun i =>
            let a := s.allotment i
            be 3 a.size ++ opt (a.first.map (be 2)) ++ be 2 a.floor ++ be 2 a.held ++ be 3 (a.size - a.held) ++
              opt (a.cursor.map (be 2))) ++
          be 2 s.store.errors) ++
        ((([0, 1] : List (Fin 2)).flatMap fun l =>
            be 2 (s.port l).badCheck ++ be 2 (s.port l).unrouted ++ be 2 (s.port l).forwardDrop ++
              be 2 (s.port l).replyDrop) ++
          be 2 s.timer.offRate ++ allEight.flatMap faults ++ be 2 s.store.errors ++
          (allEight.flatMap fun n => be 2 (s.latch n).overrun ++ be 2 (s.latch n).ignored) ++
          allFour.flatMap fun ch => be 2 (s.channel ch).mixer.slip))

/-- In part (b2) the speed moves toward the target by at most the ramp of its source, reaching it at once with a ramp
of 0, and nothing else changes; a speed and target from −3072 to 3072 give a speed in that range (R111). -/
def Obligations.RampTowardTarget : Prop :=
  ∀ c : Channel,
    let a : Int := if c.source = .program then c.config.programRamp else c.config.shuttleRamp
    let v' := if a = 0 then c.target else if a < c.target - c.speed then c.speed + a
      else if c.target - c.speed < -a then c.speed - a else c.target
    c.ramped = { c with speed := v' } ∧
      (-3072 ≤ c.speed → c.speed ≤ 3072 → -3072 ≤ c.target → c.target ≤ 3072 → -3072 ≤ v' ∧ v' ≤ 3072)

/-- Parts (b2) and (b3) of a RUNNING channel's step. A hold step counts down and ramps, a clip-bound channel keeping p
and a free one being held to its bounds (R110, R116, R118). In a moving step p moves by 30 × v′ (R112). Clip-bound:
below the in-point it rests there with START_REACHED (R113); beyond the out-point it rests there with END_REACHED
under STOP (R114), becomes FREE on the angle's stream under RUN_ON, within that stream's bounds, or stops where that
has no live key (R115; a position at the live edge itself leaves AT_LIVE clear, log entry 25), and under LOOP enters
BREAK in an announced pass and wraps in any other (R150). Free: it is held at its live edge (R116), rests at its
recall start when it moves back past it (R117), and is moved up to it, OVERTAKEN, otherwise (R115, R118). A lowered p
flags the scanner (R140), which a LOOP wrap leaves as PassStarts gives (log entry 22). A step that raised p then scans
the cue list when the speed source is PROGRAM and the scanner is ACTIVE, or ENDED and flagged (R139), and the notices
carry p after it (R119). -/
def Obligations.MovingStepAdvances : Prop :=
  ∀ (ch : Fin 4) (time : Nat) (s : State),
    let c := s.channel ch
    let x : Int := c.position + 30 * c.ramped.speed
    let lower : Nat → Scanner → Scanner := fun p r => { r with reseek := r.reseek || decide (p < c.position) }
    let scanned : State → State := fun u =>
      let d := u.channel ch
      if c.position < d.position ∧ d.source = .program ∧
          (d.scanner.state = .active ∨ d.scanner.state = .ended ∧ d.scanner.reseek = true) then
        cueScan ch (s.relative ch) (u.relative ch) time u
      else u
    let steps : (Nat → State) → Prop := fun u => motion ch time s = scanned (u ((scanned (u 0)).channel ch).position)
    (∀ id a, 0 < c.hold → c.binding = .clip id a →
      motion ch time s = s.onChannel ch fun c => { c.ramped with hold := c.hold - 1 }) ∧
    (∀ origin i lo hi, 0 < c.hold → c.binding = .free origin i → s.recallStart i = some lo → s.liveEdge i = some hi →
      lo ≤ hi → c.position ≤ hi →
      let q := max lo c.position
      let t := s.onChannel ch fun c =>
        { c.ramped with
          hold := c.hold - 1, position := q, atLive := decide (q = hi)
          warnings := { c.warnings with overtaken := c.warnings.overtaken || decide (c.position < lo) } }
      let t1 := if c.position < lo ∧ c.warnings.overtaken = false then raise time (.overtaken ch i c.position lo) t else t
      motion ch time s = if q = hi ∧ c.atLive = false then raise time (.atLive ch i q) t1 else t1) ∧
    (c.hold = 0 →
      (∀ id a k out, c.binding = .clip id a → s.clip id = some k → k.outPoint = some out → k.inPoint ≤ out →
        (k.inPoint ≤ x → x ≤ out →
          steps fun _ => s.onChannel ch fun c =>
            { c.ramped with position := x.toNat, scanner := lower x.toNat c.scanner }) ∧
        (x < k.inPoint →
          steps fun p => raise time (.startReached ch (.clip id) p) (s.onChannel ch fun c =>
            { c with position := k.inPoint, speed := 0, target := 0, scanner := lower k.inPoint c.scanner })) ∧
        ((out : Int) < x →
          let stops : EndAction → Option Bool → Nat → State := fun e r p =>
            raise time (.endReached ch id e r p) (s.onChannel ch fun c =>
              { c with position := out, speed := 0, target := 0, scanner := lower out c.scanner })
          (c.config.endAction = .stop → steps (stops .stop none)) ∧
          (c.config.endAction = .runOn → ∀ i, k.angles[a]? = some i → (s.stream i).lastKey = none →
            steps (stops .runOn (some true))) ∧
          (c.config.endAction = .runOn → ∀ i lo hi, k.angles[a]? = some i → s.recallStart i = some lo →
            s.liveEdge i = some hi → lo ≤ hi →
            let q := within lo hi x
            let free : State := ({ s with clips := s.clips.insert id { k with useCount := k.useCount - 1 } } : State).onChannel
              ch fun c => { c.ramped with
                binding := .free k.inPoint i, position := q, breakTimer := 0, scanner := lower q c.scanner }
            let u : Nat → State := fun p =>
              if (hi : Int) < x then
                let t := free.onChannel ch fun c => { c with atLive := true }
                if c.atLive = true then t else raise time (.atLive ch i p) t
              else if x < lo then
                let t := free.onChannel ch fun c => { c with warnings := { c.warnings with overtaken := true } }
                if c.warnings.overtaken = true then t else raise time (.overtaken ch i x lo) t
              else free
            steps fun p => raise time (.endReached ch id .runOn (some false) p) (u p)) ∧
          (c.config.endAction = .loop → c.breakAnnounced = true →
            steps fun _ => raise time (.breakStart ch (.clip id) c.passCount c.config.breakLimit) (s.onChannel ch fun c =>
              { c.ramped with
                state := .inBreak, position := out, breakTimer := c.config.breakLimit, scanner := lower out c.scanner })) ∧
          (c.config.endAction = .loop → c.breakAnnounced = false →
            motion ch time s = wrap ch none time (s.onChannel ch Channel.ramped)))) ∧
      ∀ origin i lo hi, c.binding = .free origin i → s.recallStart i = some lo → s.liveEdge i = some hi → lo ≤ hi →
        let live : Nat → Nat → State → State := fun q p t =>
          let t1 := t.onChannel ch fun c =>
            { c with position := q, atLive := decide (q = hi), scanner := lower q c.scanner }
          if q = hi ∧ c.atLive = false then raise time (.atLive ch i p) t1 else t1
        (lo ≤ x → steps fun p => live (min x.toNat hi) p (s.onChannel ch Channel.ramped)) ∧
        (x < lo → c.ramped.speed < 0 →
          steps fun p => live lo p (raise time (.startReached ch (.free i.val) p) (s.onChannel ch fun c =>
            { c with speed := 0, target := 0 }))) ∧
        (x < lo → 0 ≤ c.ramped.speed →
          let t := s.onChannel ch fun c => { c.ramped with warnings := { c.warnings with overtaken := true } }
          steps fun p => live lo p (if c.warnings.overtaken = true then t else raise time (.overtaken ch i x lo) t)))

/-- A channel's step (R108): part (a), then by the state the channel had when the step began the motion of RUNNING or
the break timer of BREAK, then part (c) for a CUED, RUNNING or BREAK channel, and the fault level. The shuttle
hold-off counts down in a RUNNING step under SHUTTLE, with the lapse at 0 (R100; the house time of its notice is log
entry 35 and its speed log entry 27); the break timer counts down in a BREAK step and wraps at 0 (R154). Part (a): the
frame sent by the first case of R164, with the fill frame of R165; its emission begins, toward a route on an UP link,
with a slip when the last one is unfinished (R166); the score moves, and LATE and DEGRADED with it (R167); the fetches
in flight are discarded (R160). That an emission is a record whose absence is DONE is log entry 21. -/
def Obligations.StepAndOutputFrame : Prop :=
  (∀ (h : Nat) (ch : Fin 4) (s : State),
    let a := outputStep ch h s
    let b := match (s.channel ch).state with
      | .running => motion ch (h * 2880) (shuttleStep ch (h * 2880) a)
      | .inBreak => breakTimerStep ch (h * 2880) a
      | _ => a
    let d := b.channel ch
    channelStep h s ch = settleFault ch (h * 2880)
      (if d.state = .cued ∨ d.state = .running ∨ d.state = .inBreak then selectSources ch b else b)) ∧
  (∀ (ch : Fin 4) (time : Nat) (s : State),
    let c := s.channel ch
    shuttleStep ch time s =
      (if c.source = .shuttle ∧ c.holdOff = 1 then
        raise time (.shuttleLapse ch c.speed) (s.onChannel ch fun c => { c with holdOff := 0, target := 0 })
      else if c.source = .shuttle then s.onChannel ch fun c => { c with holdOff := c.holdOff - 1 }
      else s) ∧
    breakTimerStep ch time s =
      (if c.breakTimer = 1 then wrap ch (some .timer) time (s.onChannel ch fun c => { c with breakTimer := 0 })
      else s.onChannel ch fun c => { c with breakTimer := c.breakTimer - 1 })) ∧
  (∀ (h : Nat) (ch : Fin 4) (s : State),
    let c := s.channel ch
    let m := c.mixer
    let awaits := (s.store.service.toList ++ s.store.queue).any (ReadEntry.currentOf ch)
    let fill : SentFrame := match c.config.fill, m.lastPicture with
      | .last, some f => .fillLast f
      | _, _ => .fillBlack
    let sent : SentFrame → Option Bands → Mixer := fun f last =>
      { m with
        prepared := none, sent := some f, lastPicture := last
        emission := match c.config.route with
          | some r => if (s.port r.link).up = true then some ⟨r.link, r.endpoint, h, 0⟩ else none
          | none => none
        slip := if m.emission ≠ none ∧ m.slip < 65535 then m.slip + 1 else m.slip }
    let scored : Nat → Mixer → Channel := fun n m' =>
      { c with
        mixer := { m' with score := n }
        conditions := { c.conditions with
          late := if n = 0 ∧ m.score ≠ 0 then false else c.conditions.late || decide (n = 4 ∧ m.score < 4)
          degraded := if n = 0 ∧ m.score ≠ 0 then false else c.conditions.degraded || decide (n = 7 ∧ m.score ≠ 7) } }
    let sends : Channel → Prop := fun c' =>
      outputStep ch h s = (s.onChannel ch fun _ => c').onStore (Store.discardFetches ch)
    let again := sent (m.sent.getD fill) m.lastPicture
    (c.state = .idle ∨ c.haltCause ≠ none ∨ m.prepared = none → sends { c with mixer := sent fill m.lastPicture }) ∧
    (c.state = .cued ∨ c.state = .running ∨ c.state = .inBreak → ∀ p, m.prepared = some p →
      (awaits = true → sends (scored (min 7 (m.score + 1)) again)) ∧
      (awaits = false →
        let n := if 0 < p.fetches then m.score - 1 else m.score
        (∀ f, p.picture = some f → sends (scored n (sent (.picture f) (some f)))) ∧
        (p.picture = none → sends (scored n again))))) ∧
  ∀ (st : Store) (ch k : Fin 4),
    (st.discardFetches ch).awaits k = (decide (k ≠ ch) && st.awaits k) ∧
    (st.discardFetches ch).fetchesOf k = st.fetchesOf k ∧
    (st.discardFetches ch).inFlight.length = st.inFlight.length

/-- Part (c) of a step. The stream played, the keys i = floor(p / q) and i + 1, and the mix weight 16 × r / q rounded
to the nearest whole number, halves up, from 0 to 16 (R120); the sources wanted under the effective mix (R121, R122);
what the sources found prepare, with GAP when none is found (R124); the channel's waiting fetches withdrawn, and a
fetch issued for each source, EARLIER first, or the nearest one alone behind a fetch still in service (R125). Each key
is looked up through the extent that covers it, of the angle of a PROTECTING or PROTECTED clip, and otherwise through
the directory (R91, R123). A fetch joins the read queue and is served at once when the service is free, which is the
model's choice (R48, log entry 6). A blended sample is floor(((16 − w) × a + w × b + 8) / 16), lies between its
sources, and equal samples mix to themselves (R163). -/
def Obligations.SourcesOfAStep : Prop :=
  (∀ (ch : Fin 4) (s : State) (i : Fin 8), s.playedStream ch = some i →
    let c := s.channel ch
    let q := s.period i
    let k := c.position / q
    let w := mixWeight (c.position % q) q
    let mix : MixMode := if c.config.mixMode = .blend ∧ c.conditions.degraded = true then .nearest else c.config.mixMode
    let busy := s.store.service.any (ReadEntry.ofChannel ch)
    let t := s.onStore fun st => { st with queue := st.queue.filter fun e => !e.ofChannel ch }
    let prepared : PreparedKind → Nat → State := fun kind n =>
      t.onChannel ch fun c => { c with mixer := { c.mixer with prepared := some { kind := kind, fetches := n } } }
    let issue : Role → Nat × Nat → State → State := fun role x u =>
      u.onStore (Store.enqueue (.fetch ch x.1 x.2 role true false))
    let gap := (prepared .again 0).onChannel ch fun c => { c with warnings := { c.warnings with gap := true } }
    let alone : Role → Option (Nat × Nat) → State := fun role x =>
      match x with
      | some x => issue role x (prepared .alone 1)
      | none => gap
    let e := s.sourceLookup ch i k
    let l := s.sourceLookup ch i (k + 1)
    (mix = .hold ∨ mix = .blend ∧ w = 0 ∨ mix = .nearest ∧ w < 8 → selectSources ch s = alone .earlier e) ∧
    (mix = .blend ∧ 16 ≤ w ∨ mix = .nearest ∧ 8 ≤ w → selectSources ch s = alone .later l) ∧
    (mix = .blend → 0 < w → w < 16 →
      (e = none → selectSources ch s = alone .later l) ∧
      (l = none → selectSources ch s = alone .earlier e) ∧
      ∀ x y, e = some x → l = some y →
        selectSources ch s =
          if busy = false then issue .later y (issue .earlier x (prepared (.blend w) 2))
          else if w < 8 then alone .earlier e
          else alone .later l)) ∧
  (∀ (ch : Fin 4) (s : State) (i : Fin 8) (key : Nat),
    let held : List Extent := match (s.channel ch).binding with
      | .clip id a => ((s.clip id).bind Clip.protection).elim [] fun p => p.extents.getD a []
      | _ => []
    let covers : Extent → Prop := fun e => e.firstKey ≤ key ∧ key < e.firstKey + e.count
    (∀ e ∈ held, covers e → (∀ e' ∈ held, covers e' → e' = e) →
      let x := e.firstSlot + (key - e.firstKey)
      s.sourceLookup ch i key =
        if s.store.owner x = some i ∧ (s.store.slot x).occupant = .full key then some (x, (s.store.slot x).generation)
        else none) ∧
    ((∀ e ∈ held, ¬covers e) → s.sourceLookup ch i key = s.store.lookup i key)) ∧
  (∀ (e : ReadEntry) (st : Store),
    (st.service ≠ none → st.enqueue e = { st with queue := st.queue ++ [e] }) ∧
    (st.service = none → st.queue = [] → st.enqueue e = { st with service := some e })) ∧
  (∀ r q : Nat, 0 < q → r < q →
    mixWeight r q ≤ 16 ∧ 2 * q * mixWeight r q ≤ 32 * r + q ∧ 32 * r + q < 2 * q * (mixWeight r q + 1)) ∧
  (∀ w a b : Nat, w ≤ 16 →
    mixSample w a b = ((16 - w) * a + w * b + 8) / 16 ∧ min a b ≤ mixSample w a b ∧ mixSample w a b ≤ max a b) ∧
  ∀ w a : Nat, w ≤ 16 → mixSample w a a = a

/-! ## Cue lists (chapter 8) -/

/-- STAGE CUES and CLEAR STAGING (R131, R132): the refusals; the records written from the start on, the last one
overwriting entry 31 when they run past it; the counts and the cursor in the reply. The check order of STAGE CUES is
the model's choice (log entry 28). BIND CUES (R137): the checks in their order; then the binding takes the pages, or
none for a count of 0, the scanner is reset, the return stack emptied and CUE_FAULT removed, with the fault level
settled. -/
def Obligations.StagingAndBindCues : Prop :=
  (∀ (o : Origin) (s : State), s.canTake o.link = true →
    let b := s.served o
    exec (.clearStaging o) s =
      (if s.cues.commit = none then
        .next (queueReply o 30 .ok [] { b with cues := { s.cues with staging := List.replicate 32 none, cursor := 0 } })
      else .next (s.refused o 30 .busy)) ∧
    ∀ (start : Nat) (l : List CueRecord),
      (31 < start ∨ l.length = 0 ∨ 32 < l.length → exec (.stageCues o start l) s = .next (s.refused o 29 .badArgument)) ∧
      (start ≤ 31 → l.length ≠ 0 → l.length ≤ 32 → s.cues.commit ≠ none →
        exec (.stageCues o start l) s = .next (s.refused o 29 .busy)) ∧
      (start ≤ 31 → l.length ≠ 0 → l.length ≤ 32 → s.cues.commit = none → s.cues.staging.length = 32 →
        let w := min l.length (32 - start)
        let cursor := min 31 (start + l.length)
        ∃ m : List (Option CueRecord),
          exec (.stageCues o start l) s =
            .next (queueReply o 29 .ok (be 1 w ++ be 1 (l.length - w) ++ be 1 cursor)
              { b with cues := { s.cues with staging := m, cursor := cursor } }) ∧
          m.length = 32 ∧ ∀ j < 32, m[j]? =
            if j = 31 ∧ 32 ≤ start + l.length then some l.getLast?
            else if start ≤ j ∧ j < start + l.length then some l[j - start]?
            else s.cues.staging[j]?)) ∧
  ∀ (o : Origin) (ch : Fin 4) (first count : Nat) (s : State), s.canTake o.link = true →
    let c := s.channel ch
    exec (.bindCues o ch.val first count) s =
      if 16 < count ∨ (0 < count ∧ (15 < first ∨ 16 < first + count)) then .next (s.refused o 34 .badArgument)
      else if c.state = .running ∨ c.state = .inBreak then .next (s.refused o 34 .refusedState)
      else
        .next (queueReply o 34 .ok []
          (settleFault ch s.houseTime ((s.served o).onChannel ch fun c =>
            { c with
              cueBinding := if count = 0 then none else some ⟨first, count⟩
              scanner := ⟨if count = 0 then .waiting else .active, 0, none, true⟩
              stack := [], conditions := { c.conditions with cueFault := false } })))

/-- COMMIT CUE PAGE (R133) and the completion of the commit in flight (R134): with every staged entry passing, the
page is replaced, the staging buffer emptied and every channel whose list has the page cleared; at a first failing
entry nothing but the commit changes; OP_DONE either way, before the channels' FAULT_LEVEL notices (log entry 36). An
entry passes when it is empty, or its pass repeat, first pass and parameters lie in the ranges of R128, a pulse length
being checked for PULSE only (R134). That hold frames and target speeds out of range fail the commit, where R185 would
clamp them, is the model's choice (log entry 44). That a completion with no commit in flight does nothing is log entry
3. -/
def Obligations.CommitCuePage : Prop :=
  (∀ (o : Origin) (page : Nat) (s : State), s.canTake o.link = true →
    exec (.commitCuePage o page) s =
      if 16 ≤ page then .next (s.refused o 32 .badArgument)
      else if s.cues.commit ≠ none then .next (s.refused o 32 .busy)
      else if ∃ ch, (s.channel ch).listHas page = true ∧
          ((s.channel ch).state = .running ∨ (s.channel ch).state = .inBreak) then .next (s.refused o 32 .inUse)
      else .next (queueReply o 32 .accepted [] { s.served o with cues := { s.cues with commit := some page } })) ∧
  (∀ s : State, s.cues.commit = none → exec .cueCommitComplete s = .next s) ∧
  ∀ (s : State) (page : Nat), s.cues.commit = some page →
    let l := s.cues.staging
    let held := (l.filter Option.isSome).length
    let inRange : CueBody → Prop := fun b => match b with
      | .speed v imm => -3072 ≤ v ∧ v ≤ 3072 ∧ imm ≤ 1
      | .hold n => 1 ≤ n ∧ n ≤ 1023
      | .angle n => n ≤ 7
      | .jump m => m < 2 ^ 32
      | .line mask a n => mask ≤ 255 ∧ 1 ≤ a ∧ a ≤ 3 ∧ (a = 3 → 1 ≤ n ∧ n ≤ 255)
      | .note tag => tag ≤ 255
      | .ret | .stop | .listEnd => True
      | .other _ => False
    let ok : Option CueRecord → Prop := fun e => ∀ q, e = some q →
      q.passRepeat ∈ [1, 2, 4, 8, 16, 32, 64] ∧ q.passFirst < q.passRepeat ∧ inRange q.body
    (∀ n e, l[n]? = some e → ¬ok e → (∀ m < n, ∀ e', l[m]? = some e' → ok e') →
      exec .cueCommitComplete s =
        .next (raise s.houseTime (.commitDone page (some n) held) { s with cues := { s.cues with commit := none } })) ∧
    ((∀ e ∈ l, ok e) →
      exec .cueCommitComplete s =
        .next (allFour.foldl
          (fun t ch => settleFault ch s.houseTime (t.onChannel ch fun c =>
            if c.listHas page = true then
              { c with
                scanner := ⟨if c.cueBinding.isSome then .active else .waiting, 0, none, true⟩
                stack := [], conditions := { c.conditions with cueFault := false } }
            else c))
          (raise s.houseTime (.commitDone page none held)
            { s with cues :=
              { pages := s.cues.pages.set page (l.map fun e => e.getD ⟨0, 1, 0, .listEnd⟩)
                staging := List.replicate 32 none, cursor := 0, commit := none } })))

/-- A matching cue that a scan executes, type by type: SPEED, HOLD, STOP, NOTE and LINE (R143), ANGLE (R144), JUMP,
with the return entry pushed and the oldest discarded from a full stack (R145), and RETURN, which pops one (R146). Its
mark becomes the last executed mark and the index moves on, but for a RETURN that pops, which restores the index; the
scan ends with a JUMP, a RETURN that pops, and an ANGLE that lowers p (R141). A warning enters the set with one
CUE_WARNING notice (R148). -/
def Obligations.CuesActByType : Prop :=
  ∀ (ch : Fin 4) (time : Nat) (s : State) (mark rep first : Nat),
    let c := s.channel ch
    let i := c.scanner.index
    let N := c.cueBinding.elim 0 fun b => 32 * b.count
    let next : Channel → Channel := fun c =>
      { c with scanner := { c.scanner with
          lastMark := some mark, index := i + 1, state := if N ≤ i + 1 then .ended else c.scanner.state } }
    let acts : CueBody → State → Bool → Prop := fun b t ends => executeCue ch ⟨mark, rep, first, b⟩ time s = (t, ends)
    let sets : CueBody → (Channel → Channel) → Prop := fun b f => acts b (s.onChannel ch fun c => next (f c)) false
    let warned : Warning → State := fun w =>
      if c.warnings.has w = true then s
      else raise time (.cueWarning ch w i) (s.onChannel ch fun c => { c with warnings := c.warnings.add w })
    (∀ v imm, sets (.speed v imm) fun c => { c with target := v, speed := if imm = 1 then v else c.speed }) ∧
    (∀ n, sets (.hold n) fun c => { c with hold := n }) ∧
    sets .stop (fun c => { c with speed := 0, target := 0 }) ∧
    (∀ tag, acts (.note tag) ((raise time (.cueNote ch tag i mark c.passCount) s).onChannel ch next) false) ∧
    (∀ mask a n, a = 1 ∨ a = 2 ∨ a = 3 →
      ∃ ls : Eight Line,
        (∀ m, ls.get m =
          if mask.testBit m.val = true ∧ (s.line m).function = .output then
            { s.line m with
              outputActive := decide (a ≠ 2), pulseTimer := if a = 3 then n else 0,
              pulseFrame := if a = 3 then some s.timer.frames else none }
          else s.line m) ∧
        acts (.line mask a n) (({ s with lines := ls } : State).onChannel ch next) false) ∧
    (∀ id a k n, c.binding = .clip id a → s.clip id = some k →
      (n < k.angles.length → sets (.angle n) fun c => { c with binding := .clip id n }) ∧
      (k.angles.length ≤ n → acts (.angle n) ((warned .cueRange).onChannel ch next) false)) ∧
    (∀ origin j n, c.binding = .free origin j →
      (8 ≤ n → acts (.angle n) ((warned .cueRange).onChannel ch next) false) ∧
      ∀ m : Fin 8, n = m.val →
        ((s.stream m).lastKey = none → acts (.angle n) ((warned .cueRange).onChannel ch next) false) ∧
        ∀ lo hi, s.recallStart m = some lo → s.liveEdge m = some hi → lo ≤ hi →
          let p := within lo hi c.position
          acts (.angle n)
            (s.onChannel ch fun c => next { c with
              position := p, binding := .free origin m
              scanner := { c.scanner with reseek := c.scanner.reseek || decide (p < c.position) } })
            (decide (p < c.position))) ∧
    (c.stack = [] → acts .ret ((warned .returnEmpty).onChannel ch next) false) ∧
    ∀ lo hi, s.boundedBy ch lo hi → lo ≤ hi →
      let at_ : Int → Nat := fun r => if c.state = .inBreak then c.position else within lo hi (s.base ch + r)
      (∀ target, acts (.jump target)
        ((if 8 ≤ c.stack.length then warned .stackOverflow else s).onChannel ch fun c => next { c with
          position := at_ target, stack := (⟨c.position - s.base ch, i + 1⟩ :: c.stack).take 8
          scanner := { c.scanner with reseek := true } }) true) ∧
      ∀ e rest, c.stack = e :: rest →
        acts .ret
          (s.onChannel ch fun c => { c with
            position := at_ e.position, stack := rest
            scanner := ⟨if N ≤ e.index then .ended else c.scanner.state, e.index, none, false⟩ }) true

/-- A scan, cue by cue (R141, R142): past the list's end and at a LIST_END it ends; a cue of another pass is passed
over; a matching cue above the limit stops it; one below the last executed mark is the out-of-order fault, with
CUE_FAULT; any other is executed, and the scan goes on unless the cue ends it. A flagged scanner first re-seeks
(R140): the index takes the first matching cue at or above the relative position of p0, before any LIST_END, or the
scanner is ENDED, its index as it was (log entry 22). An ACTIVE scanner then scans. -/
def Obligations.ScansAndReseeks : Prop :=
  (∀ (ch : Fin 4) (limit : Int) (time : Nat) (s : State),
    let c := s.channel ch
    let i := c.scanner.index
    let N := c.cueBinding.elim 0 fun b => 32 * b.count
    let becomes : ScannerState → State := fun st =>
      s.onChannel ch fun c => { c with scanner := { c.scanner with state := st } }
    (N ≤ i → scan ch limit time s = becomes .ended) ∧
    ∀ b page q, c.cueBinding = some b → i < N → s.cues.pages[b.first + i / 32]? = some page → page[i % 32]? = some q →
      let fits := c.passCount % q.passRepeat = q.passFirst
      (q.body = .listEnd → scan ch limit time s = becomes .ended) ∧
      (q.body ≠ .listEnd →
        (¬fits → scan ch limit time s = scan ch limit time (s.onChannel ch fun c =>
          { c with scanner := { c.scanner with
              index := i + 1, state := if N ≤ i + 1 then .ended else c.scanner.state } })) ∧
        (fits → limit < q.mark → scan ch limit time s = becomes .active) ∧
        (fits → q.mark ≤ limit → ∀ last, c.scanner.lastMark = some last → q.mark < last →
          scan ch limit time s = raise time (.cueFault ch i q.mark last) ((becomes .faulted).onChannel ch fun c =>
            { c with conditions := { c.conditions with cueFault := true } })) ∧
        (fits → q.mark ≤ limit → (∀ last, c.scanner.lastMark = some last → last ≤ q.mark) →
          let r := executeCue ch q time s
          scan ch limit time s = if r.2 = true then r.1 else scan ch limit time r.1))) ∧
  ∀ (ch : Fin 4) (start limit : Int) (time : Nat) (s : State),
    let c := s.channel ch
    let N := c.cueBinding.elim 0 fun b => 32 * b.count
    let cue : Nat → CueRecord := fun j =>
      (s.cues.pages.getD (c.cueBinding.elim 0 CueBinding.first + j / 32) []).getD (j % 32) ⟨0, 1, 0, .listEnd⟩
    let good : Nat → Prop := fun j => c.passCount % (cue j).passRepeat = (cue j).passFirst ∧ start ≤ (cue j).mark
    let sought : ScannerState → Nat → State := fun st j => s.onChannel ch fun c => { c with scanner := ⟨st, j, none, false⟩ }
    (c.scanner.reseek = true →
      (∀ j < N, good j → (cue j).body ≠ .listEnd → (∀ k < j, (cue k).body ≠ .listEnd ∧ ¬good k) →
        cueScan ch start limit time s = scan ch limit time (sought .active j)) ∧
      ((∀ j < N, good j → ∃ k ≤ j, (cue k).body = .listEnd) →
        cueScan ch start limit time s = sought .ended c.scanner.index)) ∧
    (c.scanner.reseek = false →
      cueScan ch start limit time s = if c.scanner.state = .active then scan ch limit time s else s)

/-! ## Passes and breaks (chapter 9) -/

/-- REQUEST BREAK (R152) and CONTINUE (R155): when each is taken or refused; the flag set; a break ended by a wrap
(ENDED 1), an announcement cancelled (CANCELLED 2), or nothing done (NONE 3); the break flags in the reply. -/
def Obligations.BreakRequests : Prop :=
  ∀ (o : Origin) (ch : Fin 4) (s : State), s.canTake o.link = true →
    let b := s.served o
    let c := s.channel ch
    let byte : Bool → List Byte := fun x => [if x then 1 else 0]
    exec (.requestBreak o ch.val) s =
      (if c.state = .cued ∨ c.state = .running ∨ c.state = .inBreak then
        .next (queueReply o 35 .ok (byte true ++ byte c.breakAnnounced)
          (b.onChannel ch fun c => { c with breakRequested := true }))
      else .next (s.refused o 35 .refusedState)) ∧
    (∀ k, c.state = .halted k → exec (.continue_ o ch.val) s = .next (s.refused o 36 .refusedState)) ∧
    (c.state = .inBreak →
      let t := settleFault ch s.houseTime (wrap ch (some .continue_) s.houseTime b)
      exec (.continue_ o ch.val) s =
        .next (queueReply o 36 .ok
          (be 1 1 ++ byte (t.channel ch).breakRequested ++ byte (t.channel ch).breakAnnounced) t)) ∧
    (c.state = .running → c.breakAnnounced = true →
      exec (.continue_ o ch.val) s =
        .next (queueReply o 36 .ok (be 1 2 ++ byte c.breakRequested ++ byte false)
          (b.onChannel ch fun c => { c with breakAnnounced := false }))) ∧
    (c.state = .idle ∨ c.state = .cued ∨ c.state = .running ∧ c.breakAnnounced = false →
      exec (.continue_ o ch.val) s =
        .next (queueReply o 36 .ok (be 1 3 ++ byte c.breakRequested ++ byte c.breakAnnounced) b))

/-- The rows that are the last count of a counter. R11 and R175 have the counts made in the steps of boundaries only,
so each row is the next boundary that the Reference Timer makes without a pulse, when that boundary makes the last
count: of a RUNNING channel's hold-off under SHUTTLE (R100) or hold counter (R110), of a BREAK channel's timer (R154),
or of an OUTPUT line's pulse (R175). That is the model's choice (log entry 5), and so is that a row whose counter does
not stand at its last count does nothing (log entry 3). In UNLOCKED no boundary comes, and nothing is counted (R175).
The counter stands at 0 afterwards; an ended break goes on RUNNING in the next pass (R151, R157), and an ended pulse
leaves its line inactive where no channel's cues act on it. -/
def Obligations.CounterExpiries : Prop :=
  ∀ s : State,
    let next : Host.Outcome State Fault Refusal := match s.timer.state with
      | .unlocked => .next s
      | .lost => exec .lostFreeRun s
      | _ => exec .flywheelExpiry s
    let h := if s.timer.frames < 2 ^ 40 - 1 then s.timer.frames + 1 else s.timer.frames
    (∀ ch : Fin 4,
      let c := s.channel ch
      let lapses := c.state = .running ∧ c.source = .shuttle ∧ c.holdOff = 1
      let holdEnds := c.state = .running ∧ c.hold = 1
      let breakEnds := c.state = .inBreak ∧ c.breakTimer = 1
      exec (.shuttleLapse ch) s = (if lapses then next else .next s) ∧
      exec (.holdCountExpiry ch) s = (if holdEnds then next else .next s) ∧
      exec (.breakTimerExpiry ch) s = (if breakEnds then next else .next s) ∧
      (s.timer.state ≠ .unlocked → ∃ t,
        (lapses → exec (.shuttleLapse ch) s = .next t ∧ (t.channel ch).holdOff = 0) ∧
        (holdEnds → exec (.holdCountExpiry ch) s = .next t ∧ (t.channel ch).hold = 0 ∧
          ∀ id a, c.binding = .clip id a → (t.channel ch).position = c.position) ∧
        (breakEnds → exec (.breakTimerExpiry ch) s = .next t ∧ (t.channel ch).state = .running ∧
          (t.channel ch).breakTimer = 0 ∧ (t.channel ch).passCount = (c.passCount + 1) % c.config.passPeriod))) ∧
    ∀ n : Fin 8,
      let l := s.line n
      let ends := l.function = .output ∧ l.pulseTimer = 1 ∧ l.pulseFrame ≠ some h
      exec (.pulseEnd n) s = (if ends then next else .next s) ∧
      (ends → s.timer.state ≠ .unlocked → ∃ t, exec (.pulseEnd n) s = .next t ∧
        ((∀ ch, (s.channel ch).state ≠ .running ∧ (s.channel ch).state ≠ .inBreak) →
          t.line n = { l with pulseTimer := 0, outputActive := false, pulseFrame := none }))

/-! ## Signal lines (chapter 11) -/

/-- A pin change (R172, R173): an output line's pin is not read; an input line takes the level judged under its
polarity, and an edge raises LINE_EDGE and acts by function: on the line's latch for MARK, on the channel for
BREAK_END. That LINE_EDGE is raised first is the model's choice (log entry 26). That the outside's level is kept while
the part drives the pin is log entry 38. -/
def Obligations.LinePinChange : Prop :=
  ∀ (n : Fin 8) (high : Bool) (s : State),
    let l := s.line n
    let now := if l.polarity = .activeHigh then high else !high
    let t := s.onLine n fun l => { l with pinHigh := high, inputActive := now }
    let edge := raise s.houseTime
      (.lineEdge n l.function (if l.function = .breakEnd ∨ l.function = .breakRequest then some l.channel else none)
        (if l.function = .mark then some l.markGroup else none)) t
    (l.function = .output ∨ l.function = .tally →
      exec (.linePinChange n high) s = .next (s.onLine n fun l => { l with pinHigh := high })) ∧
    (l.function ≠ .output → l.function ≠ .tally → now = false ∨ l.inputActive = true →
      exec (.linePinChange n high) s = .next t) ∧
    (now = true → l.inputActive = false → l.function = .input ∨ l.function = .breakRequest →
      exec (.linePinChange n high) s = .next edge) ∧
    (now = true → l.inputActive = false → l.function = .mark → exec (.linePinChange n high) s = .next (latchEdge n edge)) ∧
    (now = true → l.inputActive = false → l.function = .breakEnd →
      exec (.linePinChange n high) s =
        .next (if (s.channel l.channel).state = .inBreak then
            settleFault l.channel s.houseTime (wrap l.channel (some .line) s.houseTime edge)
          else edge))

/-- CONFIGURE LINE (R171): BAD_ARGUMENT for any value out of range; otherwise the five fields, the input level taken
from the pin without an edge, the output level and pulse kept only by a line that stays OUTPUT, and the latch emptied
of a line that is not MARK afterwards; the reply carries the line's record. SET, CLEAR and PULSE LINES (R174) act on
the OUTPUT lines of the mask alone, a pulse length being clamped to 1 to 255; the reply carries the output levels. The
output levels as bytes 1 and 2 rest on log entry 13, the presence bytes of the record on log entry 37, and the level
taken from a pin that was driven on log entry 38. -/
def Obligations.LineRequests : Prop :=
  ∀ (o : Origin) (s : State), s.canTake o.link = true →
    let b := s.served o
    (∀ n f ch p a g, 8 ≤ n ∨ f < 1 ∨ 6 < f ∨ 4 ≤ ch ∨ p < 1 ∨ 2 < p ∨ a < 1 ∨ 4 < a ∨ 4 ≤ g →
      exec (.configureLine o n f ch p a g) s = .next (s.refused o 37 .badArgument)) ∧
    (∀ (n : Fin 8) (f : LineFunction) (ch : Fin 4) (p : Polarity) (a : MarkAction) (g : Fin 4),
      let l := s.line n
      let stays := f = .output ∧ l.function = .output
      let l' : Line :=
        { function := f, channel := ch, polarity := p, markAction := a, markGroup := g, pinHigh := l.pinHigh
          inputActive := decide (f ≠ .output ∧ f ≠ .tally) && (if p = .activeHigh then l.pinHigh else !l.pinHigh)
          outputActive := decide stays && l.outputActive
          pulseTimer := if stays then l.pulseTimer else 0
          pulseFrame := if stays then l.pulseFrame else none }
      exec (.configureLine o n.val f.code ch.val p.code a.code g.val) s =
        .next (queueReply o 37 .ok l'.bytes
          { b with
            lines := s.lines.set n l'
            latches := if f = .mark then s.latches else s.latches.set n { s.latch n with captured := none } })) ∧
    ∀ mask len,
      let levels : (Fin 8 → Line) → List Byte := fun l => allEight.flatMap fun n => [if (l n).outputActive then 1 else 2]
      let acts : (Line → Line) → Fin 8 → Line := fun f n =>
        if mask.testBit n.val = true ∧ (s.line n).function = .output then f (s.line n) else s.line n
      let does : Instr → Nat → (Fin 8 → Line) → Prop := fun i kind l =>
        ∃ ls : Eight Line, (∀ n, ls.get n = l n) ∧
          exec i s = .next (queueReply o kind .ok (levels l) { b with lines := ls })
      does (.setLines o mask) 38
        (acts fun l => { l with outputActive := true, pulseTimer := 0, pulseFrame := none }) ∧
      does (.clearLines o mask) 39
        (acts fun l => { l with outputActive := false, pulseTimer := 0, pulseFrame := none }) ∧
      does (.pulseLines o mask len) 40
        (acts fun l =>
          { l with outputActive := true, pulseTimer := max 1 (min len 255), pulseFrame := some s.timer.frames })

/-! ## Links, endpoint and resets (chapter 12) -/

/-- A link comes UP with nothing restored, unless RESET_N is held low; a link that is not UP going DOWN does nothing.
A link going DOWN empties its queues and cuts off its packet, tears the frame in assembly of each enabled stream of
the link, ends its emissions, and HALTs each CUED, RUNNING or BREAK channel routed to it with cause LINK_DOWN, whose
fetches are discarded; the other link, the timer, the clips, the groups, the latches, cue memory and the lines stay,
and so does a RESET PART whose reply waits or is sent on the other link (R26, R166, R178). A RESET PART whose reply
waits or is sent on the link itself acts in that event: every block takes its After reset values, with the endpoint
id, the stacked DRAM, the pins, the other link's state and the packet it sends kept (R191). That LINK_DOWN of a link
that is not UP does nothing is log entry 3, that LINK_UP does nothing while RESET_N is held low is log entry 17, and
the level an input takes from a pin that was driven is log entry 38. -/
def Obligations.LinkUpAndDown : Prop :=
  ∀ (l : Fin 2) (s : State),
    let resets := s.endpoint.reset = .queued l ∨ s.endpoint.reset = .sending l
    exec (.linkUp l) s = (if s.resetHeld = true then .next s else .next (s.onPort l fun p => { p with up := true })) ∧
    ((s.port l).up = false → exec (.linkDown l) s = .next s) ∧
    ((s.port l).up = true → ¬resets →
      ∃ t, exec (.linkDown l) s = .next t ∧
        (t.port l = { s.port l with up := false, control := [], replies := [], forward := [], sending := none }) ∧
        t.port (otherLink l) = s.port (otherLink l) ∧ t.endpoint.reset = s.endpoint.reset ∧
        (∀ i, t.stream i =
          if (s.stream i).enabled = true ∧ (s.stream i).link = l ∧ (s.stream i).assembly ≠ none then
            { s.stream i with assembly := none, torn := bump (s.stream i).torn }
          else s.stream i) ∧
        (∀ i a, (s.stream i).enabled = true → (s.stream i).link = l → (s.stream i).assembly = some a →
          (t.store.slot a.slot).occupant = .empty ∧
            (t.store.slot a.slot).generation = (s.store.slot a.slot).generation) ∧
        (∀ ch,
          let c := s.channel ch
          let c' := { c with mixer := { c.mixer with emission := c.mixer.emission.filter fun e => decide (e.link ≠ l) } }
          if (c.state = .cued ∨ c.state = .running ∨ c.state = .inBreak) ∧ (∃ r, c.config.route = some r ∧ r.link = l) then
            t.channel ch = { c' with state := .halted .linkDown, level := 3 } ∧ t.store.awaits ch = false
          else t.channel ch = c') ∧
        t.timer = s.timer ∧ t.clips = s.clips ∧ t.groups = s.groups ∧ t.latches = s.latches ∧ t.engine = s.engine ∧
        t.cues = s.cues ∧ t.lines = s.lines ∧ t.store.dram = s.store.dram ∧ t.store.allotments = s.store.allotments) ∧
    ((s.port l).up = true → resets →
      ∃ t, exec (.linkDown l) s = .next t ∧ AfterReset s.endpoint.id (fun n => (s.line n).pinHigh) t ∧
        ((t.port l).up = false ∧ (t.port l).sending = none) ∧
        ((t.port (otherLink l)).up = (s.port (otherLink l)).up ∧
          (t.port (otherLink l)).sending = (s.port (otherLink l)).sending) ∧
        t.store.dram = s.store.dram ∧ t.resetHeld = s.resetHeld ∧ t.freeIndex = s.freeIndex ∧ t.pending = s.pending)

/-- An idle transmitter of an UP link chooses from the first source that has a packet: the output bands of the
channels in rotation, the forward queue, the reply queue, the notice queue of the route's link (R166, R186, R188); a
transmitter that is not idle, or DOWN, held or waiting for a reset to act, chooses nothing. The packets are written
out: a BAND packet carries the frame number, band index, channel and picture of its emission, a band of BLACK being
samples 512 and 64 in turn (R165, R166; the packing is log entry 8); a REPLY packet its tag, kind, status and results
(R184); a NOTICE packet its kind and class by the table of R188, its house time and its details (R179, R180; the
layout of the details is log entry 24, and the codes of warnings, end actions and mark actions are log entries 40 and
41). The end of a transmission makes it idle, and the end of the RESET PART's reply makes the reset act (R191, log
entry 18). -/
def Obligations.TransmitterChooses : Prop :=
  let opt : Option (List Byte) → List Byte := fun x => match x with
    | none => [0]
    | some l => 1 :: l
  let bit : Bool → Nat → Nat := fun x n => if x then n else 0
  let bound : BoundTo → List Byte := fun b => match b with
    | .clip id => be 1 1 ++ be 2 id
    | .free i => be 1 2 ++ be 1 i
  let status : Status → Nat := fun x => match x with
    | .ok => 1 | .accepted => 2 | .busy => 3 | .refusedState => 4 | .badArgument => 5 | .notFound => 6
    | .notConfigured => 7 | .inUse => 8 | .tableFull => 9 | .budget => 10 | .holdLimit => 11 | .floor => 12
    | .fragmented => 13 | .noReference => 14 | .unknownRequest => 15
  let clip : ClipState → Nat := fun x => match x with
    | .opened => 1 | .closing => 2 | .closed => 3 | .protecting => 4 | .protected_ => 5
  let ref : RefState → Nat := fun x => match x with
    | .unlocked => 1 | .locking => 2 | .locked => 3 | .flywheel => 4 | .lost => 5
  let endOf : EndAction → Nat := fun x => match x with
    | .stop => 1 | .loop => 2 | .runOn => 3
  -- kind, class and details of a notice
  let layout : NoticeBody → Nat × Nat × List Byte := fun b => match b with
    | .referenceState old new period frames => (1, 1, be 1 (ref old) ++ be 1 (ref new) ++ be 3 period ++ be 5 frames)
    | .markCaptured n g time => (2, 2, be 1 n.val ++ be 1 g.val ++ be 7 time)
    | .markFailed n a g time st =>
      (3, 2, be 1 n.val ++ be 1 (match a with | .latchOnly => 1 | .autoIn => 2 | .autoOut => 3 | .autoSpot => 4) ++
        be 1 g.val ++ be 7 time ++ be 1 (status st))
    | .clipMarked id g r st tin tout n =>
      (4, 3, be 2 id ++ be 1 g.val ++
        be 1 (match r with | .opened => 1 | .remarked => 2 | .closedOut => 3 | .createdOut => 4 | .createdSpot => 5) ++
        be 1 (clip st) ++ be 7 tin ++ opt (tout.map (be 7)) ++ opt (n.map fun n => be 1 n.val))
    | .clipClosed id tin tout => (5, 3, be 2 id ++ be 7 tin ++ tout.elim [] (be 7))
    | .clipDropped id g tin tout k =>
      (6, 3, be 2 id ++ be 1 g.val ++ be 7 tin ++ opt (tout.map (be 7)) ++
        be 1 (match k with | .recycled => 1 | .requested => 2))
    | .protectDone id r holes held at_ =>
      (7, 4, be 1 1 ++ be 2 id ++
        be 1 (match r with | .ok => 1 | .holdLimit => 2 | .floor => 3 | .fragmented => 4 | .released => 5) ++
        be 4 holes ++ be 4 held ++ opt (at_.map fun x => be 1 x.1 ++ be 6 x.2))
    | .commitDone page failing held =>
      (7, 4, be 1 2 ++ be 1 page ++ be 1 (if failing = none then 1 else 2) ++ opt (failing.map (be 1)) ++ be 1 held)
    | .shuttleLapse ch v => (8, 5, be 1 ch.val ++ beInt 2 v)
    | .endReached ch id a noLive p =>
      (9, 5, be 1 ch.val ++ be 2 id ++ be 1 (endOf a) ++ opt (noLive.map fun x => be 1 (if x then 2 else 1)) ++ be 7 p)
    | .startReached ch x p => (10, 5, be 1 ch.val ++ bound x ++ be 7 p)
    | .atLive ch i p => (11, 5, be 1 ch.val ++ be 1 i.val ++ be 7 p)
    | .overtaken ch i x p => (12, 5, be 1 ch.val ++ be 1 i.val ++ beInt 7 x ++ be 7 p)
    | .faultLevel ch old new d w cause =>
      (13, 5, be 1 ch.val ++ be 1 old ++ be 1 new ++ be 1 (bit d.late 1 + bit d.degraded 2 + bit d.cueFault 4) ++
        be 1 (bit w.gap 1 + bit w.overtaken 2 + bit w.stackOverflow 4 + bit w.returnEmpty 8 + bit w.cueRange 16 +
          bit w.storeError 32) ++
        opt (cause.map fun k => be 1 (match k with | .request => 1 | .linkDown => 2 | .route => 3)))
    | .breakAhead ch x pass src a =>
      (14, 6, be 1 ch.val ++ bound x ++ be 1 pass ++ be 1 (match src with | .request => 1 | .line => 2) ++ be 1 (endOf a))
    | .breakStart ch x pass timer => (15, 6, be 1 ch.val ++ bound x ++ be 1 pass ++ be 2 timer)
    | .breakEnd ch x k pass announced =>
      (16, 6, be 1 ch.val ++ bound x ++ be 1 (match k with | .continue_ => 1 | .line => 2 | .timer => 3) ++ be 1 pass ++
        [if announced then 1 else 0])
    | .cueNote ch tag i mark pass => (17, 7, be 1 ch.val ++ be 1 tag ++ be 2 i ++ be 4 mark ++ be 1 pass)
    | .cueFault ch i mark last => (18, 7, be 1 ch.val ++ be 2 i ++ be 4 mark ++ be 4 last)
    | .cueWarning ch w i =>
      (19, 7, be 1 ch.val ++
        be 1 (match w with
          | .gap => 1 | .overtaken => 2 | .stackOverflow => 3 | .returnEmpty => 4 | .cueRange => 5 | .storeError => 6) ++
        be 2 i)
    | .lineEdge n f ch g =>
      (20, 8, be 1 n.val ++
        be 1 (match f with
          | .input => 1 | .mark => 2 | .breakEnd => 3 | .breakRequest => 4 | .output => 5 | .tally => 6) ++
        opt (ch.map fun x => be 1 x.val) ++ opt (g.map fun x => be 1 x.val))
  let black : Band := (List.replicate 7680 [0x80, 0x04, 0x08, 0x00, 0x40]).flatten
  ∀ (l : Fin 2) (s : State),
    let p := s.port l
    let ready := p.up = true ∧ p.sending = none ∧ s.resetHeld = false ∧ ∀ k, s.endpoint.reset ≠ .sending k
    let onLink : Fin 4 → Prop := fun ch => ∃ e, (s.channel ch).mixer.emission = some e ∧ e.link = l
    let band : Fin 4 → Emission → Packet := fun ch e =>
      ⟨1, e.endpoint, s.endpoint.id, ch.val, e.frame, 0, e.next, match (s.channel ch).mixer.sent with
        | some (.picture f) | some (.fillLast f) => f.getD e.next []
        | some .fillBlack => black
        | none => []⟩
    let reply : Reply → Packet := fun r =>
      ⟨3, r.endpoint, s.endpoint.id, 0, 0, 0, 0, be 2 r.tag ++ be 1 r.kind ++ be 1 (status r.status) ++ r.results⟩
    let notice : Nat → Notice → Packet := fun e n =>
      let x := layout n.body
      ⟨4, e, s.endpoint.id, 0, 0, 0, 0, be 1 x.1 ++ be 1 x.2.1 ++ be 7 n.time ++ x.2.2⟩
    (¬ready → exec (.transmitChoose l) s = .next s) ∧
    (ready →
      (∀ (k : Fin 4) e, (s.channel (p.rotation + 1 + k)).mixer.emission = some e → e.link = l →
        (∀ j < k, ¬onLink (p.rotation + 1 + j)) →
        let ch := p.rotation + 1 + k
        exec (.transmitChoose l) s =
          .next ((s.onChannel ch fun c =>
              { c with mixer := { c.mixer with
                emission := if e.next < 134 then some { e with next := e.next + 1 } else none } }).onPort l fun q =>
            { q with sending := some (band ch e).bytes, rotation := ch })) ∧
      ((∀ ch, ¬onLink ch) →
        (∀ b rest, p.forward = b :: rest →
          exec (.transmitChoose l) s = .next (s.onPort l fun q => { q with sending := some b, forward := rest })) ∧
        (∀ r rest, p.forward = [] → p.replies = r :: rest → (s.endpoint.reset = .queued l → r.kind ≠ 46) →
          exec (.transmitChoose l) s =
            .next (s.onPort l fun q =>
              { q with sending := some (reply r).bytes, replies := rest })) ∧
        (∀ r rest, p.forward = [] → p.replies = r :: rest → s.endpoint.reset = .queued l → r.kind = 46 → r.status = .ok →
          exec (.transmitChoose l) s =
            .next ((s.onPort l fun q =>
              { q with sending := some (reply r).bytes, replies := rest }).onEndpoint fun e =>
                { e with reset := .sending l })) ∧
        (∀ n rest e, p.forward = [] → p.replies = [] → s.endpoint.notices = n :: rest → s.endpoint.route = some ⟨l, e⟩ →
          exec (.transmitChoose l) s =
            .next ((s.onEndpoint fun x => { x with notices := rest }).onPort l fun q =>
              { q with sending := some (notice e n).bytes })) ∧
        (p.forward = [] → p.replies = [] → (s.endpoint.notices = [] ∨ ∀ r, s.endpoint.route = some r → r.link ≠ l) →
          exec (.transmitChoose l) s = .next s))) ∧
    (s.endpoint.reset ≠ .sending l → exec (.transmitEnd l) s = .next (s.onPort l fun q => { q with sending := none })) ∧
    (s.endpoint.reset = .sending l →
      exec (.transmitEnd l) s = .next (actResetPart (s.onPort l fun q => { q with sending := none })))

/-- SET NOTICE ENABLES and SET NOTICE ROUTE (R187), CLEAR STATUS (R189, R190), RESET PART (R191) and an unknown
request (R185). -/
def Obligations.EndpointRequests : Prop :=
  ∀ (o : Origin) (s : State), s.canTake o.link = true →
    let b := s.served o
    let e := b.endpoint
    let settings : Endpoint → List Byte := fun e =>
      be 1 e.enables.toNat ++ (match e.route with
        | none => [0]
        | some r => 1 :: (be 1 r.link.val ++ be 1 r.endpoint))
    (∀ n, n < 256 →
      let e' := { e with enables := BitVec.ofNat 8 n }
      exec (.setNoticeEnables o n) s = .next (queueReply o 42 .ok (settings e') { b with endpoint := e' })) ∧
    (∀ r : RouteArg, 2 ≤ r.link ∨ 254 < r.endpoint →
      exec (.setNoticeRoute o (some r)) s = .next (s.refused o 43 .badArgument)) ∧
    (∀ (l : Fin 2) (x : Nat), x ≤ 254 →
      let e' := { e with route := some ⟨l, x⟩ }
      exec (.setNoticeRoute o (some ⟨l.val, x⟩)) s =
        .next (queueReply o 43 .ok (settings e') { b with endpoint := e' })) ∧
    exec (.setNoticeRoute o none) s =
      .next (queueReply o 43 .ok (settings { e with route := none, notices := [] })
        { b with endpoint := { e with route := none, notices := [] } }) ∧
    (∃ r t c k, exec (.clearStatus o) s =
        .next (queueReply o 45 .ok []
          { b with
            timer := { s.timer with offRate := 0 }, streams := r, store := { s.store with errors := 0 }, latches := t,
            channels := c, links := k, endpoint := { e with noticeLoss := false } }) ∧
      (∀ i, r.get i = { s.stream i with torn := 0, stale := 0, skew := 0 }) ∧
      (∀ n, t.get n = { s.latch n with overrun := 0, ignored := 0 }) ∧
      (∀ ch, c.get ch = { s.channel ch with mixer := { (s.channel ch).mixer with slip := 0 } }) ∧
      ∀ l, k.get l = { s.port l with badCheck := 0, unrouted := 0, forwardDrop := 0, replyDrop := 0 }) ∧
    exec (.resetPart o) s =
      .next (queueReply o 46 .ok [] { b with endpoint := { e with reset := .queued o.link } }) ∧
    (∀ kind, kind = 0 ∨ 46 < kind → exec (.unknownRequest o kind) s = .next (s.refused o kind .unknownRequest))

/-- The resets (R191, R192): every block at its After reset values, with the stacked DRAM, the pins and the model's
own fields kept. RESET PART keeps the endpoint id, the link states and the packets in transmission; a line or power-on
reset makes both links DOWN and reads the id from the straps. RESET_N held low takes both links DOWN, and with both
DOWN already only holds the part (log entry 17). Where the reply of a RESET PART is not in transmission,
RESET_PART_ACTS does nothing (log entry 3). The level an input takes from a pin that was driven is log entry 38. -/
def Obligations.Resets : Prop :=
  let same : Nat → State → State → Prop := fun id s t =>
    AfterReset id (fun n => (s.line n).pinHigh) t ∧ t.store.dram = s.store.dram ∧ t.freeIndex = s.freeIndex ∧
      t.pending = s.pending
  ∀ s : State,
    ((∀ l, s.endpoint.reset ≠ .sending l) → exec .resetPartActs s = .next s) ∧
    (∀ l, s.endpoint.reset = .sending l →
      ∃ t, exec .resetPartActs s = .next t ∧ same s.endpoint.id s t ∧ t.resetHeld = s.resetHeld ∧
        ((t.port l).up = (s.port l).up ∧ (t.port l).sending = none) ∧
        ((t.port (otherLink l)).up = (s.port (otherLink l)).up ∧
          (t.port (otherLink l)).sending = (s.port (otherLink l)).sending)) ∧
    (∀ a b i, i = .lineReset a b ∨ i = .powerOnReset a b →
      ∃ t, exec i s = .next t ∧ same (224 + (if a then 1 else 0) + (if b then 2 else 0)) s t ∧ t.resetHeld = false ∧
        ∀ l, (t.port l).up = false ∧ (t.port l).sending = none) ∧
    (∃ t, exec .resetNHeldLow s = .next t ∧ t.resetHeld = true ∧ ∀ l, (t.port l).up = false) ∧
    ((∀ l, (s.port l).up = false) → exec .resetNHeldLow s = .next { s with resetHeld := true })
end

