-- ==== Sys2Proof/Laws/Bank.lean ====
section
/-! SUPPORT. Banks of records: reading after writing, and equality record by record. -/

namespace Sys2Proof

variable {α : Type}

theorem Two.get_set (t : Two α) (i j : Fin 2) (a : α) : (t.set i a).get j = if j = i then a else t.get j := by
  fin_cases i <;> fin_cases j <;> rfl

theorem Four.get_set (t : Four α) (i j : Fin 4) (a : α) : (t.set i a).get j = if j = i then a else t.get j := by
  fin_cases i <;> fin_cases j <;> rfl

theorem Eight.get_set (t : Eight α) (i j : Fin 8) (a : α) : (t.set i a).get j = if j = i then a else t.get j := by
  fin_cases i <;> fin_cases j <;> rfl

@[simp] theorem Two.get_fill (i : Fin 2) (a : α) : (Two.fill a).get i = a := by fin_cases i <;> rfl

@[simp] theorem Four.get_fill (i : Fin 4) (a : α) : (Four.fill a).get i = a := by fin_cases i <;> rfl

@[simp] theorem Eight.get_fill (i : Fin 8) (a : α) : (Eight.fill a).get i = a := by fin_cases i <;> rfl

@[simp] theorem Two.set_get (t : Two α) (i : Fin 2) : t.set i (t.get i) = t := by fin_cases i <;> rfl

@[simp] theorem Four.set_get (t : Four α) (i : Fin 4) : t.set i (t.get i) = t := by fin_cases i <;> rfl

@[simp] theorem Eight.set_get (t : Eight α) (i : Fin 8) : t.set i (t.get i) = t := by fin_cases i <;> rfl

@[simp] theorem Two.set_set (t : Two α) (i : Fin 2) (a b : α) : (t.set i a).set i b = t.set i b := by
  fin_cases i <;> rfl

@[simp] theorem Four.set_set (t : Four α) (i : Fin 4) (a b : α) : (t.set i a).set i b = t.set i b := by
  fin_cases i <;> rfl

@[simp] theorem Eight.set_set (t : Eight α) (i : Fin 8) (a b : α) : (t.set i a).set i b = t.set i b := by
  fin_cases i <;> rfl

theorem Two.ext_get {t u : Two α} (h : ∀ i, t.get i = u.get i) : t = u := by
  obtain ⟨a, b⟩ := t
  obtain ⟨c, d⟩ := u
  have h0 := h 0
  have h1 := h 1
  simp_all [Two.get]

theorem Four.ext_get {t u : Four α} (h : ∀ i, t.get i = u.get i) : t = u := by
  obtain ⟨a, b, c, d⟩ := t
  obtain ⟨e, f, g, k⟩ := u
  have h0 := h 0
  have h1 := h 1
  have h2 := h 2
  have h3 := h 3
  simp_all [Four.get]

/-- A property of every record of a bank survives a write of a record that has it. -/
theorem Four.forall_get_set {p : α → Prop} {t : Four α} (h : ∀ j, p (t.get j)) {a : α} (ha : p a) (i j : Fin 4) :
    p ((t.set i a).get j) := by
  rw [Four.get_set]
  split
  · exact ha
  · exact h j

/-- A property of every record of a bank survives a write of a record that has it. -/
theorem Two.forall_get_set {p : α → Prop} {t : Two α} (h : ∀ j, p (t.get j)) {a : α} (ha : p a) (i j : Fin 2) :
    p ((t.set i a).get j) := by
  rw [Two.get_set]
  split
  · exact ha
  · exact h j

/-- A property of every record of a bank survives a write of a record that has it. -/
theorem Eight.forall_get_set {p : α → Prop} {t : Eight α} (h : ∀ j, p (t.get j)) {a : α} (ha : p a) (i j : Fin 8) :
    p ((t.set i a).get j) := by
  rw [Eight.get_set]
  split
  · exact ha
  · exact h j

end Sys2Proof
end

