-- ==== Sys2Proof/Laws/Codec.lean ====
section
/-! SUPPORT. Numbers written in bytes and read back (R180). -/

namespace Sys2Proof

@[simp] theorem be_length (n x : Nat) : (be n x).length = n := by
  induction n with
  | zero => rfl
  | succ n ih => simp [be, ih]

@[simp] theorem ofBE_nil : ofBE [] = 0 := rfl

theorem ofBE_append (a b : List Byte) : ofBE (a ++ b) = ofBE a * 256 ^ b.length + ofBE b := by
  induction a with
  | nil => simp
  | cons x a ih => simp only [List.cons_append, ofBE, ih, List.length_append]; ring

theorem ofBE_lt (l : List Byte) : ofBE l < 256 ^ l.length := by
  induction l with
  | nil => simp
  | cons b l ih =>
    have hb := b.isLt
    simp only [ofBE, List.length_cons, pow_succ]
    nlinarith [Nat.pow_pos (n := l.length) (show 0 < 256 by norm_num)]

/-- Bytes read back give the number written, modulo what the field can carry. -/
theorem ofBE_be_mod (n x : Nat) : ofBE (be n x) = x % 256 ^ n := by
  induction n with
  | zero => simp [be, Nat.mod_one]
  | succ n ih =>
    simp only [be, ofBE, ih, be_length, BitVec.toNat_ofNat, show (2 : Nat) ^ 8 = 256 from rfl]
    have h := Nat.mod_mul (a := 256 ^ n) (b := 256) (x := x)
    rw [pow_succ, h, Nat.add_comm, Nat.mul_comm]

theorem ofBE_be {n x : Nat} (h : x < 256 ^ n) : ofBE (be n x) = x := by
  rw [ofBE_be_mod, Nat.mod_eq_of_lt h]

/-- A field that fits is read back, and the bytes after it are left. -/
theorem readNat_be {n x : Nat} (h : x < 256 ^ n) (bs : List Byte) : readNat n (be n x ++ bs) = some (x, bs) := by
  simp [readNat, ofBE_be h]

theorem signed_emod {n : Nat} {x : Int} (hn : 0 < n) (h1 : -(256 ^ n / 2 : Nat) ≤ x) (h2 : x < (256 ^ n / 2 : Nat)) :
    signed n (x % (256 ^ n : Nat)).toNat = x := by
  obtain ⟨k, rfl⟩ : ∃ k, n = k + 1 := ⟨n - 1, by omega⟩
  have he : 256 ^ (k + 1) = 2 * (128 * 256 ^ k) := by ring
  have hp : 0 < 256 ^ k := Nat.pow_pos (by norm_num)
  unfold signed
  rw [he] at h1 h2 ⊢
  generalize 128 * 256 ^ k = m at *
  have hm : 2 * m / 2 = m := by omega
  rw [hm] at h1 h2 ⊢
  rcases lt_or_ge x 0 with hx | hx
  · have e : x % ((2 * m : Nat) : Int) = x + (2 * m : Nat) := by
      rw [← Int.add_emod_right, Int.emod_eq_of_lt] <;> push_cast <;> omega
    rw [e]
    split <;> omega
  · have e : x % ((2 * m : Nat) : Int) = x := Int.emod_eq_of_lt hx (by push_cast; omega)
    rw [e]
    split <;> omega

/-- A signed field that fits is read back, and the bytes after it are left. -/
theorem readInt_beInt {n : Nat} {x : Int} (hn : 0 < n) (h1 : -(256 ^ n / 2 : Nat) ≤ x) (h2 : x < (256 ^ n / 2 : Nat))
    (bs : List Byte) : readInt n (beInt n x ++ bs) = some (x, bs) := by
  have hlt : (x % (256 ^ n : Nat)).toNat < 256 ^ n := by
    have hpos : (0 : Int) < (256 ^ n : Nat) := by positivity
    have := Int.emod_lt_of_pos x hpos
    have := Int.emod_nonneg x hpos.ne'
    omega
  simp only [readInt, beInt, readNat_be hlt, Option.map_some, signed_emod hn h1 h2]

/-- A list of members each of which is read back is read back. -/
theorem readMany_flatMap {α : Type} {enc : α → List Byte} {rd : List Byte → Option (α × List Byte)} {l : List α}
    (h : ∀ a ∈ l, ∀ bs, rd (enc a ++ bs) = some (a, bs)) (bs : List Byte) :
    readMany rd l.length (l.flatMap enc ++ bs) = some (l, bs) := by
  induction l with
  | nil => rfl
  | cons a l ih =>
    simp only [List.flatMap_cons, List.length_cons, readMany, List.append_assoc, h a List.mem_cons_self,
      ih fun b hb => h b (List.mem_cons_of_mem _ hb)]

end Sys2Proof
end

