-- ==== Sys2Proof/Laws/State.lean ====
section
/-! SUPPORT. The updates of one block of the state: each field after each update, so that no later proof unfolds a record
update. -/

namespace Sys2Proof.Machine

variable (s : State)

section
variable (f : Timer → Timer)

@[simp] theorem State.onTimer_timer : (s.onTimer f).timer = f s.timer := rfl
@[simp] theorem State.onTimer_streams : (s.onTimer f).streams = s.streams := rfl
@[simp] theorem State.onTimer_store : (s.onTimer f).store = s.store := rfl
@[simp] theorem State.onTimer_groups : (s.onTimer f).groups = s.groups := rfl
@[simp] theorem State.onTimer_latches : (s.onTimer f).latches = s.latches := rfl
@[simp] theorem State.onTimer_clips : (s.onTimer f).clips = s.clips := rfl
@[simp] theorem State.onTimer_engine : (s.onTimer f).engine = s.engine := rfl
@[simp] theorem State.onTimer_channels : (s.onTimer f).channels = s.channels := rfl
@[simp] theorem State.onTimer_cues : (s.onTimer f).cues = s.cues := rfl
@[simp] theorem State.onTimer_lines : (s.onTimer f).lines = s.lines := rfl
@[simp] theorem State.onTimer_links : (s.onTimer f).links = s.links := rfl
@[simp] theorem State.onTimer_endpoint : (s.onTimer f).endpoint = s.endpoint := rfl
@[simp] theorem State.onTimer_resetHeld : (s.onTimer f).resetHeld = s.resetHeld := rfl
@[simp] theorem State.onTimer_freeIndex : (s.onTimer f).freeIndex = s.freeIndex := rfl
@[simp] theorem State.onTimer_pending : (s.onTimer f).pending = s.pending := rfl

end

section
variable (f : Store → Store)

@[simp] theorem State.onStore_timer : (s.onStore f).timer = s.timer := rfl
@[simp] theorem State.onStore_streams : (s.onStore f).streams = s.streams := rfl
@[simp] theorem State.onStore_store : (s.onStore f).store = f s.store := rfl
@[simp] theorem State.onStore_groups : (s.onStore f).groups = s.groups := rfl
@[simp] theorem State.onStore_latches : (s.onStore f).latches = s.latches := rfl
@[simp] theorem State.onStore_clips : (s.onStore f).clips = s.clips := rfl
@[simp] theorem State.onStore_engine : (s.onStore f).engine = s.engine := rfl
@[simp] theorem State.onStore_channels : (s.onStore f).channels = s.channels := rfl
@[simp] theorem State.onStore_cues : (s.onStore f).cues = s.cues := rfl
@[simp] theorem State.onStore_lines : (s.onStore f).lines = s.lines := rfl
@[simp] theorem State.onStore_links : (s.onStore f).links = s.links := rfl
@[simp] theorem State.onStore_endpoint : (s.onStore f).endpoint = s.endpoint := rfl
@[simp] theorem State.onStore_resetHeld : (s.onStore f).resetHeld = s.resetHeld := rfl
@[simp] theorem State.onStore_freeIndex : (s.onStore f).freeIndex = s.freeIndex := rfl
@[simp] theorem State.onStore_pending : (s.onStore f).pending = s.pending := rfl

end

section
variable (f : Engine → Engine)

@[simp] theorem State.onEngine_timer : (s.onEngine f).timer = s.timer := rfl
@[simp] theorem State.onEngine_streams : (s.onEngine f).streams = s.streams := rfl
@[simp] theorem State.onEngine_store : (s.onEngine f).store = s.store := rfl
@[simp] theorem State.onEngine_groups : (s.onEngine f).groups = s.groups := rfl
@[simp] theorem State.onEngine_latches : (s.onEngine f).latches = s.latches := rfl
@[simp] theorem State.onEngine_clips : (s.onEngine f).clips = s.clips := rfl
@[simp] theorem State.onEngine_engine : (s.onEngine f).engine = f s.engine := rfl
@[simp] theorem State.onEngine_channels : (s.onEngine f).channels = s.channels := rfl
@[simp] theorem State.onEngine_cues : (s.onEngine f).cues = s.cues := rfl
@[simp] theorem State.onEngine_lines : (s.onEngine f).lines = s.lines := rfl
@[simp] theorem State.onEngine_links : (s.onEngine f).links = s.links := rfl
@[simp] theorem State.onEngine_endpoint : (s.onEngine f).endpoint = s.endpoint := rfl
@[simp] theorem State.onEngine_resetHeld : (s.onEngine f).resetHeld = s.resetHeld := rfl
@[simp] theorem State.onEngine_freeIndex : (s.onEngine f).freeIndex = s.freeIndex := rfl
@[simp] theorem State.onEngine_pending : (s.onEngine f).pending = s.pending := rfl

end

section
variable (f : CueMemory → CueMemory)

@[simp] theorem State.onCues_timer : (s.onCues f).timer = s.timer := rfl
@[simp] theorem State.onCues_streams : (s.onCues f).streams = s.streams := rfl
@[simp] theorem State.onCues_store : (s.onCues f).store = s.store := rfl
@[simp] theorem State.onCues_groups : (s.onCues f).groups = s.groups := rfl
@[simp] theorem State.onCues_latches : (s.onCues f).latches = s.latches := rfl
@[simp] theorem State.onCues_clips : (s.onCues f).clips = s.clips := rfl
@[simp] theorem State.onCues_engine : (s.onCues f).engine = s.engine := rfl
@[simp] theorem State.onCues_channels : (s.onCues f).channels = s.channels := rfl
@[simp] theorem State.onCues_cues : (s.onCues f).cues = f s.cues := rfl
@[simp] theorem State.onCues_lines : (s.onCues f).lines = s.lines := rfl
@[simp] theorem State.onCues_links : (s.onCues f).links = s.links := rfl
@[simp] theorem State.onCues_endpoint : (s.onCues f).endpoint = s.endpoint := rfl
@[simp] theorem State.onCues_resetHeld : (s.onCues f).resetHeld = s.resetHeld := rfl
@[simp] theorem State.onCues_freeIndex : (s.onCues f).freeIndex = s.freeIndex := rfl
@[simp] theorem State.onCues_pending : (s.onCues f).pending = s.pending := rfl

end

section
variable (f : Endpoint → Endpoint)

@[simp] theorem State.onEndpoint_timer : (s.onEndpoint f).timer = s.timer := rfl
@[simp] theorem State.onEndpoint_streams : (s.onEndpoint f).streams = s.streams := rfl
@[simp] theorem State.onEndpoint_store : (s.onEndpoint f).store = s.store := rfl
@[simp] theorem State.onEndpoint_groups : (s.onEndpoint f).groups = s.groups := rfl
@[simp] theorem State.onEndpoint_latches : (s.onEndpoint f).latches = s.latches := rfl
@[simp] theorem State.onEndpoint_clips : (s.onEndpoint f).clips = s.clips := rfl
@[simp] theorem State.onEndpoint_engine : (s.onEndpoint f).engine = s.engine := rfl
@[simp] theorem State.onEndpoint_channels : (s.onEndpoint f).channels = s.channels := rfl
@[simp] theorem State.onEndpoint_cues : (s.onEndpoint f).cues = s.cues := rfl
@[simp] theorem State.onEndpoint_lines : (s.onEndpoint f).lines = s.lines := rfl
@[simp] theorem State.onEndpoint_links : (s.onEndpoint f).links = s.links := rfl
@[simp] theorem State.onEndpoint_endpoint : (s.onEndpoint f).endpoint = f s.endpoint := rfl
@[simp] theorem State.onEndpoint_resetHeld : (s.onEndpoint f).resetHeld = s.resetHeld := rfl
@[simp] theorem State.onEndpoint_freeIndex : (s.onEndpoint f).freeIndex = s.freeIndex := rfl
@[simp] theorem State.onEndpoint_pending : (s.onEndpoint f).pending = s.pending := rfl

end

section
variable (f : Table Clip → Table Clip)

@[simp] theorem State.onClips_timer : (s.onClips f).timer = s.timer := rfl
@[simp] theorem State.onClips_streams : (s.onClips f).streams = s.streams := rfl
@[simp] theorem State.onClips_store : (s.onClips f).store = s.store := rfl
@[simp] theorem State.onClips_groups : (s.onClips f).groups = s.groups := rfl
@[simp] theorem State.onClips_latches : (s.onClips f).latches = s.latches := rfl
@[simp] theorem State.onClips_clips : (s.onClips f).clips = f s.clips := rfl
@[simp] theorem State.onClips_engine : (s.onClips f).engine = s.engine := rfl
@[simp] theorem State.onClips_channels : (s.onClips f).channels = s.channels := rfl
@[simp] theorem State.onClips_cues : (s.onClips f).cues = s.cues := rfl
@[simp] theorem State.onClips_lines : (s.onClips f).lines = s.lines := rfl
@[simp] theorem State.onClips_links : (s.onClips f).links = s.links := rfl
@[simp] theorem State.onClips_endpoint : (s.onClips f).endpoint = s.endpoint := rfl
@[simp] theorem State.onClips_resetHeld : (s.onClips f).resetHeld = s.resetHeld := rfl
@[simp] theorem State.onClips_freeIndex : (s.onClips f).freeIndex = s.freeIndex := rfl
@[simp] theorem State.onClips_pending : (s.onClips f).pending = s.pending := rfl

end

section
variable (i : Fin 8) (f : Stream → Stream)

@[simp] theorem State.onStream_timer : (s.onStream i f).timer = s.timer := rfl
@[simp] theorem State.onStream_streams : (s.onStream i f).streams = s.streams.set i (f (s.streams.get i)) := rfl
@[simp] theorem State.onStream_store : (s.onStream i f).store = s.store := rfl
@[simp] theorem State.onStream_groups : (s.onStream i f).groups = s.groups := rfl
@[simp] theorem State.onStream_latches : (s.onStream i f).latches = s.latches := rfl
@[simp] theorem State.onStream_clips : (s.onStream i f).clips = s.clips := rfl
@[simp] theorem State.onStream_engine : (s.onStream i f).engine = s.engine := rfl
@[simp] theorem State.onStream_channels : (s.onStream i f).channels = s.channels := rfl
@[simp] theorem State.onStream_cues : (s.onStream i f).cues = s.cues := rfl
@[simp] theorem State.onStream_lines : (s.onStream i f).lines = s.lines := rfl
@[simp] theorem State.onStream_links : (s.onStream i f).links = s.links := rfl
@[simp] theorem State.onStream_endpoint : (s.onStream i f).endpoint = s.endpoint := rfl
@[simp] theorem State.onStream_resetHeld : (s.onStream i f).resetHeld = s.resetHeld := rfl
@[simp] theorem State.onStream_freeIndex : (s.onStream i f).freeIndex = s.freeIndex := rfl
@[simp] theorem State.onStream_pending : (s.onStream i f).pending = s.pending := rfl

/-- The record after an update of one record of its bank. -/
@[simp] theorem State.stream_onStream (j : Fin 8) :
    (s.onStream i f).stream j = if j = i then f (s.stream i) else s.stream j := by
  simp only [State.stream, State.onStream, Eight.get_set]

end

section
variable (i : Fin 4) (f : MarkGroup → MarkGroup)

@[simp] theorem State.onGroup_timer : (s.onGroup i f).timer = s.timer := rfl
@[simp] theorem State.onGroup_streams : (s.onGroup i f).streams = s.streams := rfl
@[simp] theorem State.onGroup_store : (s.onGroup i f).store = s.store := rfl
@[simp] theorem State.onGroup_groups : (s.onGroup i f).groups = s.groups.set i (f (s.groups.get i)) := rfl
@[simp] theorem State.onGroup_latches : (s.onGroup i f).latches = s.latches := rfl
@[simp] theorem State.onGroup_clips : (s.onGroup i f).clips = s.clips := rfl
@[simp] theorem State.onGroup_engine : (s.onGroup i f).engine = s.engine := rfl
@[simp] theorem State.onGroup_channels : (s.onGroup i f).channels = s.channels := rfl
@[simp] theorem State.onGroup_cues : (s.onGroup i f).cues = s.cues := rfl
@[simp] theorem State.onGroup_lines : (s.onGroup i f).lines = s.lines := rfl
@[simp] theorem State.onGroup_links : (s.onGroup i f).links = s.links := rfl
@[simp] theorem State.onGroup_endpoint : (s.onGroup i f).endpoint = s.endpoint := rfl
@[simp] theorem State.onGroup_resetHeld : (s.onGroup i f).resetHeld = s.resetHeld := rfl
@[simp] theorem State.onGroup_freeIndex : (s.onGroup i f).freeIndex = s.freeIndex := rfl
@[simp] theorem State.onGroup_pending : (s.onGroup i f).pending = s.pending := rfl

/-- The record after an update of one record of its bank. -/
@[simp] theorem State.group_onGroup (j : Fin 4) :
    (s.onGroup i f).group j = if j = i then f (s.group i) else s.group j := by
  simp only [State.group, State.onGroup, Four.get_set]

end

section
variable (i : Fin 8) (f : Latch → Latch)

@[simp] theorem State.onLatch_timer : (s.onLatch i f).timer = s.timer := rfl
@[simp] theorem State.onLatch_streams : (s.onLatch i f).streams = s.streams := rfl
@[simp] theorem State.onLatch_store : (s.onLatch i f).store = s.store := rfl
@[simp] theorem State.onLatch_groups : (s.onLatch i f).groups = s.groups := rfl
@[simp] theorem State.onLatch_latches : (s.onLatch i f).latches = s.latches.set i (f (s.latches.get i)) := rfl
@[simp] theorem State.onLatch_clips : (s.onLatch i f).clips = s.clips := rfl
@[simp] theorem State.onLatch_engine : (s.onLatch i f).engine = s.engine := rfl
@[simp] theorem State.onLatch_channels : (s.onLatch i f).channels = s.channels := rfl
@[simp] theorem State.onLatch_cues : (s.onLatch i f).cues = s.cues := rfl
@[simp] theorem State.onLatch_lines : (s.onLatch i f).lines = s.lines := rfl
@[simp] theorem State.onLatch_links : (s.onLatch i f).links = s.links := rfl
@[simp] theorem State.onLatch_endpoint : (s.onLatch i f).endpoint = s.endpoint := rfl
@[simp] theorem State.onLatch_resetHeld : (s.onLatch i f).resetHeld = s.resetHeld := rfl
@[simp] theorem State.onLatch_freeIndex : (s.onLatch i f).freeIndex = s.freeIndex := rfl
@[simp] theorem State.onLatch_pending : (s.onLatch i f).pending = s.pending := rfl

/-- The record after an update of one record of its bank. -/
@[simp] theorem State.latch_onLatch (j : Fin 8) :
    (s.onLatch i f).latch j = if j = i then f (s.latch i) else s.latch j := by
  simp only [State.latch, State.onLatch, Eight.get_set]

end

section
variable (i : Fin 4) (f : Channel → Channel)

@[simp] theorem State.onChannel_timer : (s.onChannel i f).timer = s.timer := rfl
@[simp] theorem State.onChannel_streams : (s.onChannel i f).streams = s.streams := rfl
@[simp] theorem State.onChannel_store : (s.onChannel i f).store = s.store := rfl
@[simp] theorem State.onChannel_groups : (s.onChannel i f).groups = s.groups := rfl
@[simp] theorem State.onChannel_latches : (s.onChannel i f).latches = s.latches := rfl
@[simp] theorem State.onChannel_clips : (s.onChannel i f).clips = s.clips := rfl
@[simp] theorem State.onChannel_engine : (s.onChannel i f).engine = s.engine := rfl
@[simp] theorem State.onChannel_channels : (s.onChannel i f).channels = s.channels.set i (f (s.channels.get i)) := rfl
@[simp] theorem State.onChannel_cues : (s.onChannel i f).cues = s.cues := rfl
@[simp] theorem State.onChannel_lines : (s.onChannel i f).lines = s.lines := rfl
@[simp] theorem State.onChannel_links : (s.onChannel i f).links = s.links := rfl
@[simp] theorem State.onChannel_endpoint : (s.onChannel i f).endpoint = s.endpoint := rfl
@[simp] theorem State.onChannel_resetHeld : (s.onChannel i f).resetHeld = s.resetHeld := rfl
@[simp] theorem State.onChannel_freeIndex : (s.onChannel i f).freeIndex = s.freeIndex := rfl
@[simp] theorem State.onChannel_pending : (s.onChannel i f).pending = s.pending := rfl

/-- The record after an update of one record of its bank. -/
@[simp] theorem State.channel_onChannel (j : Fin 4) :
    (s.onChannel i f).channel j = if j = i then f (s.channel i) else s.channel j := by
  simp only [State.channel, State.onChannel, Four.get_set]

end

section
variable (i : Fin 8) (f : Line → Line)

@[simp] theorem State.onLine_timer : (s.onLine i f).timer = s.timer := rfl
@[simp] theorem State.onLine_streams : (s.onLine i f).streams = s.streams := rfl
@[simp] theorem State.onLine_store : (s.onLine i f).store = s.store := rfl
@[simp] theorem State.onLine_groups : (s.onLine i f).groups = s.groups := rfl
@[simp] theorem State.onLine_latches : (s.onLine i f).latches = s.latches := rfl
@[simp] theorem State.onLine_clips : (s.onLine i f).clips = s.clips := rfl
@[simp] theorem State.onLine_engine : (s.onLine i f).engine = s.engine := rfl
@[simp] theorem State.onLine_channels : (s.onLine i f).channels = s.channels := rfl
@[simp] theorem State.onLine_cues : (s.onLine i f).cues = s.cues := rfl
@[simp] theorem State.onLine_lines : (s.onLine i f).lines = s.lines.set i (f (s.lines.get i)) := rfl
@[simp] theorem State.onLine_links : (s.onLine i f).links = s.links := rfl
@[simp] theorem State.onLine_endpoint : (s.onLine i f).endpoint = s.endpoint := rfl
@[simp] theorem State.onLine_resetHeld : (s.onLine i f).resetHeld = s.resetHeld := rfl
@[simp] theorem State.onLine_freeIndex : (s.onLine i f).freeIndex = s.freeIndex := rfl
@[simp] theorem State.onLine_pending : (s.onLine i f).pending = s.pending := rfl

/-- The record after an update of one record of its bank. -/
@[simp] theorem State.line_onLine (j : Fin 8) :
    (s.onLine i f).line j = if j = i then f (s.line i) else s.line j := by
  simp only [State.line, State.onLine, Eight.get_set]

end

section
variable (i : Fin 2) (f : Link → Link)

@[simp] theorem State.onPort_timer : (s.onPort i f).timer = s.timer := rfl
@[simp] theorem State.onPort_streams : (s.onPort i f).streams = s.streams := rfl
@[simp] theorem State.onPort_store : (s.onPort i f).store = s.store := rfl
@[simp] theorem State.onPort_groups : (s.onPort i f).groups = s.groups := rfl
@[simp] theorem State.onPort_latches : (s.onPort i f).latches = s.latches := rfl
@[simp] theorem State.onPort_clips : (s.onPort i f).clips = s.clips := rfl
@[simp] theorem State.onPort_engine : (s.onPort i f).engine = s.engine := rfl
@[simp] theorem State.onPort_channels : (s.onPort i f).channels = s.channels := rfl
@[simp] theorem State.onPort_cues : (s.onPort i f).cues = s.cues := rfl
@[simp] theorem State.onPort_lines : (s.onPort i f).lines = s.lines := rfl
@[simp] theorem State.onPort_links : (s.onPort i f).links = s.links.set i (f (s.links.get i)) := rfl
@[simp] theorem State.onPort_endpoint : (s.onPort i f).endpoint = s.endpoint := rfl
@[simp] theorem State.onPort_resetHeld : (s.onPort i f).resetHeld = s.resetHeld := rfl
@[simp] theorem State.onPort_freeIndex : (s.onPort i f).freeIndex = s.freeIndex := rfl
@[simp] theorem State.onPort_pending : (s.onPort i f).pending = s.pending := rfl

/-- The record after an update of one record of its bank. -/
@[simp] theorem State.port_onPort (j : Fin 2) :
    (s.onPort i f).port j = if j = i then f (s.port i) else s.port j := by
  simp only [State.port, State.onPort, Two.get_set]

end

section
variable (i : Fin 8) (f : Allotment → Allotment)

@[simp] theorem State.onAllotment_timer : (s.onAllotment i f).timer = s.timer := rfl
@[simp] theorem State.onAllotment_streams : (s.onAllotment i f).streams = s.streams := rfl
@[simp] theorem State.onAllotment_store :
    (s.onAllotment i f).store = { s.store with allotments := s.store.allotments.set i (f (s.store.allotments.get i)) } := rfl
@[simp] theorem State.onAllotment_groups : (s.onAllotment i f).groups = s.groups := rfl
@[simp] theorem State.onAllotment_latches : (s.onAllotment i f).latches = s.latches := rfl
@[simp] theorem State.onAllotment_clips : (s.onAllotment i f).clips = s.clips := rfl
@[simp] theorem State.onAllotment_engine : (s.onAllotment i f).engine = s.engine := rfl
@[simp] theorem State.onAllotment_channels : (s.onAllotment i f).channels = s.channels := rfl
@[simp] theorem State.onAllotment_cues : (s.onAllotment i f).cues = s.cues := rfl
@[simp] theorem State.onAllotment_lines : (s.onAllotment i f).lines = s.lines := rfl
@[simp] theorem State.onAllotment_links : (s.onAllotment i f).links = s.links := rfl
@[simp] theorem State.onAllotment_endpoint : (s.onAllotment i f).endpoint = s.endpoint := rfl
@[simp] theorem State.onAllotment_resetHeld : (s.onAllotment i f).resetHeld = s.resetHeld := rfl
@[simp] theorem State.onAllotment_freeIndex : (s.onAllotment i f).freeIndex = s.freeIndex := rfl
@[simp] theorem State.onAllotment_pending : (s.onAllotment i f).pending = s.pending := rfl

/-- The allotment after an update of one allotment. -/
@[simp] theorem State.allotment_onAllotment (j : Fin 8) :
    (s.onAllotment i f).allotment j = if j = i then f (s.allotment i) else s.allotment j := by
  simp only [State.allotment, State.onAllotment, Eight.get_set]

end

/-! ## Records that an update of another block leaves as they were -/

section
variable (j : Fin 8)

@[simp] theorem State.stream_onTimer (f : Timer → Timer) : (s.onTimer f).stream j = s.stream j := rfl
@[simp] theorem State.stream_onStore (f : Store → Store) : (s.onStore f).stream j = s.stream j := rfl
@[simp] theorem State.stream_onEngine (f : Engine → Engine) : (s.onEngine f).stream j = s.stream j := rfl
@[simp] theorem State.stream_onCues (f : CueMemory → CueMemory) : (s.onCues f).stream j = s.stream j := rfl
@[simp] theorem State.stream_onEndpoint (f : Endpoint → Endpoint) : (s.onEndpoint f).stream j = s.stream j := rfl
@[simp] theorem State.stream_onClips (f : Table Clip → Table Clip) : (s.onClips f).stream j = s.stream j := rfl
@[simp] theorem State.stream_onGroup (i : Fin 4) (f : MarkGroup → MarkGroup) : (s.onGroup i f).stream j = s.stream j := rfl
@[simp] theorem State.stream_onLatch (i : Fin 8) (f : Latch → Latch) : (s.onLatch i f).stream j = s.stream j := rfl
@[simp] theorem State.stream_onChannel (i : Fin 4) (f : Channel → Channel) : (s.onChannel i f).stream j = s.stream j := rfl
@[simp] theorem State.stream_onLine (i : Fin 8) (f : Line → Line) : (s.onLine i f).stream j = s.stream j := rfl
@[simp] theorem State.stream_onPort (i : Fin 2) (f : Link → Link) : (s.onPort i f).stream j = s.stream j := rfl
@[simp] theorem State.stream_onAllotment (i : Fin 8) (f : Allotment → Allotment) :
    (s.onAllotment i f).stream j = s.stream j := rfl

end

section
variable (j : Fin 4)

@[simp] theorem State.group_onTimer (f : Timer → Timer) : (s.onTimer f).group j = s.group j := rfl
@[simp] theorem State.group_onStore (f : Store → Store) : (s.onStore f).group j = s.group j := rfl
@[simp] theorem State.group_onEngine (f : Engine → Engine) : (s.onEngine f).group j = s.group j := rfl
@[simp] theorem State.group_onCues (f : CueMemory → CueMemory) : (s.onCues f).group j = s.group j := rfl
@[simp] theorem State.group_onEndpoint (f : Endpoint → Endpoint) : (s.onEndpoint f).group j = s.group j := rfl
@[simp] theorem State.group_onClips (f : Table Clip → Table Clip) : (s.onClips f).group j = s.group j := rfl
@[simp] theorem State.group_onStream (i : Fin 8) (f : Stream → Stream) : (s.onStream i f).group j = s.group j := rfl
@[simp] theorem State.group_onLatch (i : Fin 8) (f : Latch → Latch) : (s.onLatch i f).group j = s.group j := rfl
@[simp] theorem State.group_onChannel (i : Fin 4) (f : Channel → Channel) : (s.onChannel i f).group j = s.group j := rfl
@[simp] theorem State.group_onLine (i : Fin 8) (f : Line → Line) : (s.onLine i f).group j = s.group j := rfl
@[simp] theorem State.group_onPort (i : Fin 2) (f : Link → Link) : (s.onPort i f).group j = s.group j := rfl
@[simp] theorem State.group_onAllotment (i : Fin 8) (f : Allotment → Allotment) :
    (s.onAllotment i f).group j = s.group j := rfl

end

section
variable (j : Fin 8)

@[simp] theorem State.latch_onTimer (f : Timer → Timer) : (s.onTimer f).latch j = s.latch j := rfl
@[simp] theorem State.latch_onStore (f : Store → Store) : (s.onStore f).latch j = s.latch j := rfl
@[simp] theorem State.latch_onEngine (f : Engine → Engine) : (s.onEngine f).latch j = s.latch j := rfl
@[simp] theorem State.latch_onCues (f : CueMemory → CueMemory) : (s.onCues f).latch j = s.latch j := rfl
@[simp] theorem State.latch_onEndpoint (f : Endpoint → Endpoint) : (s.onEndpoint f).latch j = s.latch j := rfl
@[simp] theorem State.latch_onClips (f : Table Clip → Table Clip) : (s.onClips f).latch j = s.latch j := rfl
@[simp] theorem State.latch_onStream (i : Fin 8) (f : Stream → Stream) : (s.onStream i f).latch j = s.latch j := rfl
@[simp] theorem State.latch_onGroup (i : Fin 4) (f : MarkGroup → MarkGroup) : (s.onGroup i f).latch j = s.latch j := rfl
@[simp] theorem State.latch_onChannel (i : Fin 4) (f : Channel → Channel) : (s.onChannel i f).latch j = s.latch j := rfl
@[simp] theorem State.latch_onLine (i : Fin 8) (f : Line → Line) : (s.onLine i f).latch j = s.latch j := rfl
@[simp] theorem State.latch_onPort (i : Fin 2) (f : Link → Link) : (s.onPort i f).latch j = s.latch j := rfl
@[simp] theorem State.latch_onAllotment (i : Fin 8) (f : Allotment → Allotment) :
    (s.onAllotment i f).latch j = s.latch j := rfl

end

section
variable (j : Fin 4)

@[simp] theorem State.channel_onTimer (f : Timer → Timer) : (s.onTimer f).channel j = s.channel j := rfl
@[simp] theorem State.channel_onStore (f : Store → Store) : (s.onStore f).channel j = s.channel j := rfl
@[simp] theorem State.channel_onEngine (f : Engine → Engine) : (s.onEngine f).channel j = s.channel j := rfl
@[simp] theorem State.channel_onCues (f : CueMemory → CueMemory) : (s.onCues f).channel j = s.channel j := rfl
@[simp] theorem State.channel_onEndpoint (f : Endpoint → Endpoint) : (s.onEndpoint f).channel j = s.channel j := rfl
@[simp] theorem State.channel_onClips (f : Table Clip → Table Clip) : (s.onClips f).channel j = s.channel j := rfl
@[simp] theorem State.channel_onStream (i : Fin 8) (f : Stream → Stream) : (s.onStream i f).channel j = s.channel j := rfl
@[simp] theorem State.channel_onGroup (i : Fin 4) (f : MarkGroup → MarkGroup) : (s.onGroup i f).channel j = s.channel j := rfl
@[simp] theorem State.channel_onLatch (i : Fin 8) (f : Latch → Latch) : (s.onLatch i f).channel j = s.channel j := rfl
@[simp] theorem State.channel_onLine (i : Fin 8) (f : Line → Line) : (s.onLine i f).channel j = s.channel j := rfl
@[simp] theorem State.channel_onPort (i : Fin 2) (f : Link → Link) : (s.onPort i f).channel j = s.channel j := rfl
@[simp] theorem State.channel_onAllotment (i : Fin 8) (f : Allotment → Allotment) :
    (s.onAllotment i f).channel j = s.channel j := rfl

end

section
variable (j : Fin 8)

@[simp] theorem State.line_onTimer (f : Timer → Timer) : (s.onTimer f).line j = s.line j := rfl
@[simp] theorem State.line_onStore (f : Store → Store) : (s.onStore f).line j = s.line j := rfl
@[simp] theorem State.line_onEngine (f : Engine → Engine) : (s.onEngine f).line j = s.line j := rfl
@[simp] theorem State.line_onCues (f : CueMemory → CueMemory) : (s.onCues f).line j = s.line j := rfl
@[simp] theorem State.line_onEndpoint (f : Endpoint → Endpoint) : (s.onEndpoint f).line j = s.line j := rfl
@[simp] theorem State.line_onClips (f : Table Clip → Table Clip) : (s.onClips f).line j = s.line j := rfl
@[simp] theorem State.line_onStream (i : Fin 8) (f : Stream → Stream) : (s.onStream i f).line j = s.line j := rfl
@[simp] theorem State.line_onGroup (i : Fin 4) (f : MarkGroup → MarkGroup) : (s.onGroup i f).line j = s.line j := rfl
@[simp] theorem State.line_onLatch (i : Fin 8) (f : Latch → Latch) : (s.onLatch i f).line j = s.line j := rfl
@[simp] theorem State.line_onChannel (i : Fin 4) (f : Channel → Channel) : (s.onChannel i f).line j = s.line j := rfl
@[simp] theorem State.line_onPort (i : Fin 2) (f : Link → Link) : (s.onPort i f).line j = s.line j := rfl
@[simp] theorem State.line_onAllotment (i : Fin 8) (f : Allotment → Allotment) :
    (s.onAllotment i f).line j = s.line j := rfl

end

section
variable (j : Fin 2)

@[simp] theorem State.port_onTimer (f : Timer → Timer) : (s.onTimer f).port j = s.port j := rfl
@[simp] theorem State.port_onStore (f : Store → Store) : (s.onStore f).port j = s.port j := rfl
@[simp] theorem State.port_onEngine (f : Engine → Engine) : (s.onEngine f).port j = s.port j := rfl
@[simp] theorem State.port_onCues (f : CueMemory → CueMemory) : (s.onCues f).port j = s.port j := rfl
@[simp] theorem State.port_onEndpoint (f : Endpoint → Endpoint) : (s.onEndpoint f).port j = s.port j := rfl
@[simp] theorem State.port_onClips (f : Table Clip → Table Clip) : (s.onClips f).port j = s.port j := rfl
@[simp] theorem State.port_onStream (i : Fin 8) (f : Stream → Stream) : (s.onStream i f).port j = s.port j := rfl
@[simp] theorem State.port_onGroup (i : Fin 4) (f : MarkGroup → MarkGroup) : (s.onGroup i f).port j = s.port j := rfl
@[simp] theorem State.port_onLatch (i : Fin 8) (f : Latch → Latch) : (s.onLatch i f).port j = s.port j := rfl
@[simp] theorem State.port_onChannel (i : Fin 4) (f : Channel → Channel) : (s.onChannel i f).port j = s.port j := rfl
@[simp] theorem State.port_onLine (i : Fin 8) (f : Line → Line) : (s.onLine i f).port j = s.port j := rfl
@[simp] theorem State.port_onAllotment (i : Fin 8) (f : Allotment → Allotment) :
    (s.onAllotment i f).port j = s.port j := rfl

end

section
variable (j : Fin 8)

@[simp] theorem State.allotment_onTimer (f : Timer → Timer) : (s.onTimer f).allotment j = s.allotment j := rfl
@[simp] theorem State.allotment_onEngine (f : Engine → Engine) : (s.onEngine f).allotment j = s.allotment j := rfl
@[simp] theorem State.allotment_onCues (f : CueMemory → CueMemory) : (s.onCues f).allotment j = s.allotment j := rfl
@[simp] theorem State.allotment_onEndpoint (f : Endpoint → Endpoint) : (s.onEndpoint f).allotment j = s.allotment j := rfl
@[simp] theorem State.allotment_onClips (f : Table Clip → Table Clip) : (s.onClips f).allotment j = s.allotment j := rfl
@[simp] theorem State.allotment_onStream (i : Fin 8) (f : Stream → Stream) : (s.onStream i f).allotment j = s.allotment j := rfl
@[simp] theorem State.allotment_onGroup (i : Fin 4) (f : MarkGroup → MarkGroup) : (s.onGroup i f).allotment j = s.allotment j := rfl
@[simp] theorem State.allotment_onLatch (i : Fin 8) (f : Latch → Latch) : (s.onLatch i f).allotment j = s.allotment j := rfl
@[simp] theorem State.allotment_onChannel (i : Fin 4) (f : Channel → Channel) : (s.onChannel i f).allotment j = s.allotment j := rfl
@[simp] theorem State.allotment_onLine (i : Fin 8) (f : Line → Line) : (s.onLine i f).allotment j = s.allotment j := rfl
@[simp] theorem State.allotment_onPort (i : Fin 2) (f : Link → Link) : (s.onPort i f).allotment j = s.allotment j := rfl

end

end Sys2Proof.Machine
end

