-- ==== Sys2Proof/Laws/Ops.lean ====
section
/-! SUPPORT. What each shared operation does, said once: counters, notices, the fault level, replies and the taking of a
request. -/

namespace Sys2Proof.Machine

variable (s : State)

/-! ## Counters (R190) -/

theorem bump_le {n : Nat} (h : n ≤ 65535) : bump n ≤ 65535 := by
  unfold bump
  split <;> omega

theorem bump_of_lt {n : Nat} (h : n < 65535) : bump n = n + 1 := if_pos h

@[simp] theorem bump_full : bump 65535 = 65535 := rfl

/-! ## Notices (R187, R188) -/

/-- What raising a notice can do to the endpoint: the notice joins the queue, is lost with NOTICE_LOSS, or is not
recorded. -/
theorem Endpoint.raise_cases (n : Notice) (e : Endpoint) :
    (e.enabled n.body.noticeClass = true ∧ e.route.isSome = true ∧ e.notices.length < 32 ∧
        e.raise n = { e with notices := e.notices ++ [n] }) ∨
      (e.enabled n.body.noticeClass = true ∧ e.route.isSome = true ∧ 32 ≤ e.notices.length ∧
        e.raise n = { e with noticeLoss := true }) ∨
      ((e.enabled n.body.noticeClass = false ∨ e.route.isSome = false) ∧ e.raise n = e) := by
  unfold Endpoint.raise
  split
  · rename_i h
    obtain ⟨h1, h2⟩ := (Bool.and_eq_true _ _).mp h
    split
    · exact .inl ⟨h1, h2, ‹_›, rfl⟩
    · exact .inr (.inl ⟨h1, h2, not_lt.mp ‹_›, rfl⟩)
  · rename_i h
    refine .inr (.inr ⟨?_, rfl⟩)
    cases h1 : e.enabled n.body.noticeClass <;> cases h2 : e.route.isSome <;> simp_all

section
variable (n : Notice) (e : Endpoint)

@[simp] theorem Endpoint.raise_id : (e.raise n).id = e.id := by unfold Endpoint.raise; split <;> [split; skip] <;> rfl
@[simp] theorem Endpoint.raise_lastServed : (e.raise n).lastServed = e.lastServed := by unfold Endpoint.raise; split <;> [split; skip] <;> rfl
@[simp] theorem Endpoint.raise_enables : (e.raise n).enables = e.enables := by unfold Endpoint.raise; split <;> [split; skip] <;> rfl
@[simp] theorem Endpoint.raise_route : (e.raise n).route = e.route := by unfold Endpoint.raise; split <;> [split; skip] <;> rfl
@[simp] theorem Endpoint.raise_reset : (e.raise n).reset = e.reset := by unfold Endpoint.raise; split <;> [split; skip] <;> rfl

theorem Endpoint.raise_notices_length (h : e.notices.length ≤ 32) : (e.raise n).notices.length ≤ 32 := by
  obtain ⟨-, -, hl, h'⟩ | ⟨-, -, -, h'⟩ | ⟨-, h'⟩ := Endpoint.raise_cases n e <;> rw [h']
  · simp only [List.length_append, List.length_singleton]; omega
  · exact h
  · exact h

theorem Endpoint.raise_of_route_none (h : e.route = none) : e.raise n = e := by
  simp [Endpoint.raise, h]

/-- A turn of the arbiter and a notice do not meet. -/
theorem Endpoint.raise_lastServed_comm (l : Fin 2) :
    Endpoint.raise n { e with lastServed := l } = { e.raise n with lastServed := l } := by
  have h1 : Endpoint.enabled { e with lastServed := l } = e.enabled := rfl
  unfold Endpoint.raise
  simp only [h1]
  by_cases h : (e.enabled n.body.noticeClass && e.route.isSome) = true
  · by_cases h' : e.notices.length < 32
    · simp only [if_pos h, if_pos h']
    · simp only [if_pos h, if_neg h']
  · simp only [if_neg h]

end

section
variable (time : Nat) (body : NoticeBody)

@[simp] theorem raise_endpoint : (raise time body s).endpoint = s.endpoint.raise ⟨time, body⟩ := rfl
@[simp] theorem raise_timer : (raise time body s).timer = s.timer := rfl
@[simp] theorem raise_streams : (raise time body s).streams = s.streams := rfl
@[simp] theorem raise_store : (raise time body s).store = s.store := rfl
@[simp] theorem raise_groups : (raise time body s).groups = s.groups := rfl
@[simp] theorem raise_latches : (raise time body s).latches = s.latches := rfl
@[simp] theorem raise_clips : (raise time body s).clips = s.clips := rfl
@[simp] theorem raise_engine : (raise time body s).engine = s.engine := rfl
@[simp] theorem raise_channels : (raise time body s).channels = s.channels := rfl
@[simp] theorem raise_cues : (raise time body s).cues = s.cues := rfl
@[simp] theorem raise_lines : (raise time body s).lines = s.lines := rfl
@[simp] theorem raise_links : (raise time body s).links = s.links := rfl
@[simp] theorem raise_resetHeld : (raise time body s).resetHeld = s.resetHeld := rfl
@[simp] theorem raise_freeIndex : (raise time body s).freeIndex = s.freeIndex := rfl
@[simp] theorem raise_pending : (raise time body s).pending = s.pending := rfl
@[simp] theorem State.stream_raise (j : Fin 8) : (raise time body s).stream j = s.stream j := rfl
@[simp] theorem State.group_raise (j : Fin 4) : (raise time body s).group j = s.group j := rfl
@[simp] theorem State.latch_raise (j : Fin 8) : (raise time body s).latch j = s.latch j := rfl
@[simp] theorem State.channel_raise (j : Fin 4) : (raise time body s).channel j = s.channel j := rfl
@[simp] theorem State.line_raise (j : Fin 8) : (raise time body s).line j = s.line j := rfl
@[simp] theorem State.port_raise (j : Fin 2) : (raise time body s).port j = s.port j := rfl
@[simp] theorem State.allotment_raise (j : Fin 8) : (raise time body s).allotment j = s.allotment j := rfl

end

/-! ## The fault level (R169) -/

@[simp] theorem Channel.faultLevel_level (c : Channel) (n : Nat) :
    Channel.faultLevel { c with level := n } = c.faultLevel := rfl

/-- Settling the fault level: nothing when the level stands, otherwise the new level with its notice. -/
theorem settleFault_cases (ch : Fin 4) (time : Nat) :
    ((s.channel ch).faultLevel = (s.channel ch).level ∧ settleFault ch time s = s) ∨
      ((s.channel ch).faultLevel ≠ (s.channel ch).level ∧
        settleFault ch time s =
          raise time
            (.faultLevel ch (s.channel ch).level (s.channel ch).faultLevel (s.channel ch).conditions
              (s.channel ch).warnings (s.channel ch).haltCause)
            (s.onChannel ch fun c => { c with level := (s.channel ch).faultLevel })) := by
  unfold settleFault
  by_cases h : (s.channel ch).faultLevel = (s.channel ch).level
  · exact .inl ⟨h, if_pos h⟩
  · exact .inr ⟨h, if_neg h⟩

section
variable (ch : Fin 4) (time : Nat)

@[simp] theorem settleFault_timer : (settleFault ch time s).timer = s.timer := by
  obtain ⟨-, h⟩ | ⟨-, h⟩ := settleFault_cases s ch time <;> simp [h]
@[simp] theorem settleFault_streams : (settleFault ch time s).streams = s.streams := by
  obtain ⟨-, h⟩ | ⟨-, h⟩ := settleFault_cases s ch time <;> simp [h]
@[simp] theorem settleFault_store : (settleFault ch time s).store = s.store := by
  obtain ⟨-, h⟩ | ⟨-, h⟩ := settleFault_cases s ch time <;> simp [h]
@[simp] theorem settleFault_groups : (settleFault ch time s).groups = s.groups := by
  obtain ⟨-, h⟩ | ⟨-, h⟩ := settleFault_cases s ch time <;> simp [h]
@[simp] theorem settleFault_latches : (settleFault ch time s).latches = s.latches := by
  obtain ⟨-, h⟩ | ⟨-, h⟩ := settleFault_cases s ch time <;> simp [h]
@[simp] theorem settleFault_clips : (settleFault ch time s).clips = s.clips := by
  obtain ⟨-, h⟩ | ⟨-, h⟩ := settleFault_cases s ch time <;> simp [h]
@[simp] theorem settleFault_engine : (settleFault ch time s).engine = s.engine := by
  obtain ⟨-, h⟩ | ⟨-, h⟩ := settleFault_cases s ch time <;> simp [h]
@[simp] theorem settleFault_cues : (settleFault ch time s).cues = s.cues := by
  obtain ⟨-, h⟩ | ⟨-, h⟩ := settleFault_cases s ch time <;> simp [h]
@[simp] theorem settleFault_lines : (settleFault ch time s).lines = s.lines := by
  obtain ⟨-, h⟩ | ⟨-, h⟩ := settleFault_cases s ch time <;> simp [h]
@[simp] theorem settleFault_links : (settleFault ch time s).links = s.links := by
  obtain ⟨-, h⟩ | ⟨-, h⟩ := settleFault_cases s ch time <;> simp [h]
@[simp] theorem settleFault_resetHeld : (settleFault ch time s).resetHeld = s.resetHeld := by
  obtain ⟨-, h⟩ | ⟨-, h⟩ := settleFault_cases s ch time <;> simp [h]
@[simp] theorem settleFault_freeIndex : (settleFault ch time s).freeIndex = s.freeIndex := by
  obtain ⟨-, h⟩ | ⟨-, h⟩ := settleFault_cases s ch time <;> simp [h]
@[simp] theorem settleFault_pending : (settleFault ch time s).pending = s.pending := by
  obtain ⟨-, h⟩ | ⟨-, h⟩ := settleFault_cases s ch time <;> simp [h]

/-- The channels after a settlement: the level of the channel is the one its causes give. -/
@[simp] theorem channel_settleFault (j : Fin 4) :
    (settleFault ch time s).channel j =
      if j = ch then { s.channel ch with level := (s.channel ch).faultLevel } else s.channel j := by
  obtain ⟨h1, h⟩ | ⟨-, h⟩ := settleFault_cases s ch time <;> rw [h]
  · rw [h1]; split <;> simp_all
  · simp

end

/-! ## Replies and the taking of a request (R184, R185) -/

section
variable (o : Origin) (kind : Nat) (st : Status) (results : List Byte)

@[simp] theorem queueReply_timer : (queueReply o kind st results s).timer = s.timer := rfl
@[simp] theorem queueReply_streams : (queueReply o kind st results s).streams = s.streams := rfl
@[simp] theorem queueReply_store : (queueReply o kind st results s).store = s.store := rfl
@[simp] theorem queueReply_groups : (queueReply o kind st results s).groups = s.groups := rfl
@[simp] theorem queueReply_latches : (queueReply o kind st results s).latches = s.latches := rfl
@[simp] theorem queueReply_clips : (queueReply o kind st results s).clips = s.clips := rfl
@[simp] theorem queueReply_engine : (queueReply o kind st results s).engine = s.engine := rfl
@[simp] theorem queueReply_channels : (queueReply o kind st results s).channels = s.channels := rfl
@[simp] theorem queueReply_cues : (queueReply o kind st results s).cues = s.cues := rfl
@[simp] theorem queueReply_lines : (queueReply o kind st results s).lines = s.lines := rfl
@[simp] theorem queueReply_endpoint : (queueReply o kind st results s).endpoint = s.endpoint := rfl
@[simp] theorem queueReply_resetHeld : (queueReply o kind st results s).resetHeld = s.resetHeld := rfl
@[simp] theorem queueReply_freeIndex : (queueReply o kind st results s).freeIndex = s.freeIndex := rfl
@[simp] theorem queueReply_pending : (queueReply o kind st results s).pending = s.pending := rfl

@[simp] theorem port_queueReply (l : Fin 2) :
    (queueReply o kind st results s).port l =
      if l = o.link then
        { s.port o.link with replies := (s.port o.link).replies ++ [⟨o.source, o.tag, kind, st, results⟩] }
      else s.port l := by
  simp [queueReply]

end

/-- A request that is taken is carried out, and its reply queued. -/
theorem takeRequest_taken {o : Origin} {s : State} (h : s.canTake o.link = true) (kind : Nat) (run : State → Answer) :
    takeRequest o kind run s =
      .next (queueReply o kind (run (s.onEndpoint fun e => { e with lastServed := o.link })).status
        (run (s.onEndpoint fun e => { e with lastServed := o.link })).results
        (run (s.onEndpoint fun e => { e with lastServed := o.link })).state) := by
  rw [takeRequest, if_pos h]

/-- A request that cannot be taken leaves the part as it was. -/
theorem takeRequest_notTaken {o : Origin} {s : State} (h : s.canTake o.link = false) (kind : Nat)
    (run : State → Answer) : takeRequest o kind run s = .next s := by
  rw [takeRequest, if_neg (by simp [h])]

/-- When the arbiter can take a request of a link. -/
theorem State.canTake_iff (l : Fin 2) :
    s.canTake l = true ↔ (s.port l).up = true ∧ (s.port l).replies.length < 8 ∧ s.endpoint.reset = .none := by
  simp [State.canTake, and_assoc]

end Sys2Proof.Machine
end

