-- ==== Sys2Proof/Laws/Table.lean ====
section
/-! SUPPORT. Tables of numbered entries: reading after writing, and the canonical form that every operation keeps. -/

namespace Sys2Proof

variable {α : Type}

theorem Table.find_insert (t : Table α) (k j : Nat) (a : α) :
    (t.insert k a).find j = if j = k then some a else t.find j := by
  induction t with
  | nil => simp only [Table.insert, Table.find, eq_comm]
  | cons e t ih =>
    obtain ⟨n, b⟩ := e
    rcases lt_trichotomy k n with h | h | h
    · simp only [Table.insert, if_pos h, Table.find, eq_comm]
    · subst h
      simp only [Table.insert, lt_irrefl, if_false, if_true, Table.find, eq_comm]
      split <;> rfl
    · simp only [Table.insert, if_neg (not_lt.mpr h.le), if_neg (ne_of_gt h), Table.find, ih]
      by_cases hj : j = k
      · subst hj; simp [ne_of_lt h]
      · simp [hj]

theorem Table.find_erase (t : Table α) (k j : Nat) : (t.erase k).find j = if j = k then none else t.find j := by
  induction t with
  | nil => simp [Table.erase, Table.find]
  | cons e t ih =>
    obtain ⟨n, b⟩ := e
    by_cases hn : n = k
    · subst hn
      rw [Table.erase, if_pos rfl, ih, Table.find]
      by_cases hj : j = n
      · simp [hj]
      · simp [hj, Ne.symm hj]
    · rw [Table.erase, if_neg hn, Table.find, ih, Table.find]
      by_cases hj : j = k
      · subst hj; simp [hn]
      · simp [hj]

theorem Table.mem_insert {t : Table α} {k : Nat} {a : α} {e : Nat × α} (h : e ∈ t.insert k a) :
    e = (k, a) ∨ e ∈ t := by
  induction t with
  | nil => simp_all [Table.insert]
  | cons f t ih =>
    obtain ⟨n, b⟩ := f
    simp only [Table.insert] at h
    split at h
    · simpa using h
    · split at h
      · rcases List.mem_cons.mp h with h | h
        · exact .inl h
        · exact .inr (List.mem_cons_of_mem _ h)
      · rcases List.mem_cons.mp h with h | h
        · exact .inr (h ▸ List.mem_cons_self)
        · rcases ih h with h | h
          · exact .inl h
          · exact .inr (List.mem_cons_of_mem _ h)

theorem Table.mem_erase {t : Table α} {k : Nat} {e : Nat × α} (h : e ∈ t.erase k) : e ∈ t := by
  induction t with
  | nil => simp [Table.erase] at h
  | cons f t ih =>
    obtain ⟨n, b⟩ := f
    simp only [Table.erase] at h
    split at h
    · exact List.mem_cons_of_mem _ (ih h)
    · rcases List.mem_cons.mp h with h | h
      · exact h ▸ List.mem_cons_self
      · exact List.mem_cons_of_mem _ (ih h)

@[simp] theorem Table.wf_nil : Table.wf ([] : Table α) := List.Pairwise.nil

theorem Table.wf_cons {e : Nat × α} {t : Table α} :
    Table.wf (e :: t) ↔ (∀ f ∈ t, e.1 < f.1) ∧ Table.wf t := by
  simp [Table.wf, List.pairwise_cons]

/-- A write keeps the canonical form. -/
theorem Table.wf_insert {t : Table α} (h : t.wf) (k : Nat) (a : α) : (t.insert k a).wf := by
  induction t with
  | nil => simp [Table.insert, Table.wf]
  | cons f t ih =>
    obtain ⟨n, b⟩ := f
    obtain ⟨hn, ht⟩ := Table.wf_cons.mp h
    simp only [Table.insert]
    split
    · refine Table.wf_cons.mpr ⟨fun e he => ?_, h⟩
      rcases List.mem_cons.mp he with rfl | he
      · assumption
      · exact lt_trans ‹_› (hn e he)
    · split
      · subst_vars; exact Table.wf_cons.mpr ⟨hn, ht⟩
      · refine Table.wf_cons.mpr ⟨fun e he => ?_, ih ht⟩
        rcases Table.mem_insert he with rfl | he
        · simp only; omega
        · exact hn e he

/-- An erasure keeps the canonical form. -/
theorem Table.wf_erase {t : Table α} (h : t.wf) (k : Nat) : (t.erase k).wf := by
  induction t with
  | nil => simp [Table.erase]
  | cons f t ih =>
    obtain ⟨n, b⟩ := f
    obtain ⟨hn, ht⟩ := Table.wf_cons.mp h
    simp only [Table.erase]
    split
    · exact ih ht
    · exact Table.wf_cons.mpr ⟨fun e he => hn e (Table.mem_erase he), ih ht⟩

/-- In a canonical table an entry that is listed is the one found. -/
theorem Table.find_of_mem {t : Table α} (h : t.wf) {k : Nat} {a : α} (hm : (k, a) ∈ t) : t.find k = some a := by
  induction t with
  | nil => simp at hm
  | cons f t ih =>
    obtain ⟨n, b⟩ := f
    obtain ⟨hn, ht⟩ := Table.wf_cons.mp h
    simp only [Table.find]
    rcases List.mem_cons.mp hm with hm | hm
    · simp_all
    · have := hn _ hm
      rw [if_neg (by simp only at this; omega)]
      exact ih ht hm

end Sys2Proof
end

