-- ==== Sys2Proof/Laws/Store.lean ====
section
/-! SUPPORT. The Frame Store: reading after writing, the canonical form every memory operation keeps, and what claims,
holds and releases can do. -/

namespace Sys2Proof.Machine

/-! ## Reading after writing -/

theorem Store.slot_setSlot (st : Store) (x y : Nat) (r : Slot) :
    (st.setSlot x r).slot y = if y = x then r else st.slot y := by
  unfold Store.setSlot Store.slot
  by_cases h : r = blankSlot
  · simp only [if_pos h, Table.find_erase]
    split <;> simp [h]
  · simp only [if_neg h, Table.find_insert]
    split <;> simp

@[simp] theorem Store.slot_setSlot_self (st : Store) (x : Nat) (r : Slot) : (st.setSlot x r).slot x = r := by
  simp [Store.slot_setSlot]

theorem Store.band_writeBand (st : Store) (x b place : Nat) (bytes : Band) :
    (st.writeBand x b bytes).band place = if place = bandsPerFrame * x + b then bytes else st.band place := by
  simp only [Store.writeBand, Store.band, Table.find_insert]
  split <;> simp

section
variable (st : Store) (x : Nat) (r : Slot)

@[simp] theorem Store.setSlot_allotments : (st.setSlot x r).allotments = st.allotments := rfl
@[simp] theorem Store.setSlot_configured : (st.setSlot x r).configured = st.configured := rfl
@[simp] theorem Store.setSlot_dram : (st.setSlot x r).dram = st.dram := rfl
@[simp] theorem Store.setSlot_service : (st.setSlot x r).service = st.service := rfl
@[simp] theorem Store.setSlot_queue : (st.setSlot x r).queue = st.queue := rfl
@[simp] theorem Store.setSlot_errors : (st.setSlot x r).errors = st.errors := rfl
@[simp] theorem Store.setSlot_owner (y : Nat) : (st.setSlot x r).owner y = st.owner y := rfl

end

section
variable (st : Store) (x b : Nat) (bytes : Band)

@[simp] theorem Store.writeBand_allotments : (st.writeBand x b bytes).allotments = st.allotments := rfl
@[simp] theorem Store.writeBand_slots : (st.writeBand x b bytes).slots = st.slots := rfl
@[simp] theorem Store.writeBand_slot (y : Nat) : (st.writeBand x b bytes).slot y = st.slot y := rfl

end

/-! ## The canonical form (R35) -/

/-- The slot table is canonical: numbers strictly rising, and no blank record listed. -/
def SlotsCanonical (t : Table Slot) : Prop := t.wf ∧ ∀ e ∈ t, e.2 ≠ blankSlot

theorem slotsCanonical_nil : SlotsCanonical [] := ⟨Table.wf_nil, by simp⟩

theorem SlotsCanonical.setSlot {st : Store} (h : SlotsCanonical st.slots) (x : Nat) (r : Slot) :
    SlotsCanonical (st.setSlot x r).slots := by
  unfold Store.setSlot
  by_cases hr : r = blankSlot
  · simp only [if_pos hr]
    exact ⟨Table.wf_erase h.1 x, fun e he => h.2 e (Table.mem_erase he)⟩
  · simp only [if_neg hr]
    refine ⟨Table.wf_insert h.1 x r, fun e he => ?_⟩
    rcases Table.mem_insert he with rfl | he
    · exact hr
    · exact h.2 e he

/-- A band write keeps the canonical form of the stacked DRAM. -/
theorem Store.dram_writeBand_wf {st : Store} (h : st.dram.wf) (x b : Nat) (bytes : Band) :
    (st.writeBand x b bytes).dram.wf := Table.wf_insert h _ _

/-! ## The recall start (R45) -/

section
variable (i : Fin 8) (s : State)

@[simp] theorem recomputeRecall_streams : (recomputeRecall i s).streams = s.streams := rfl
@[simp] theorem recomputeRecall_pending : (recomputeRecall i s).pending = s.pending := rfl
@[simp] theorem recomputeRecall_slots : (recomputeRecall i s).store.slots = s.store.slots := rfl
@[simp] theorem recomputeRecall_dram : (recomputeRecall i s).store.dram = s.store.dram := rfl
@[simp] theorem recomputeRecall_clips : (recomputeRecall i s).clips = s.clips := rfl
@[simp] theorem recomputeRecall_channels : (recomputeRecall i s).channels = s.channels := rfl
@[simp] theorem recomputeRecall_links : (recomputeRecall i s).links = s.links := rfl
@[simp] theorem recomputeRecall_endpoint : (recomputeRecall i s).endpoint = s.endpoint := rfl
@[simp] theorem recomputeRecall_timer : (recomputeRecall i s).timer = s.timer := rfl
@[simp] theorem recomputeRecall_cues : (recomputeRecall i s).cues = s.cues := rfl

/-- Only the recall start of the one stream changes. -/
theorem allotment_recomputeRecall (j : Fin 8) :
    (recomputeRecall i s).allotment j =
      if j = i then
        { s.allotment i with
          recallStart := (s.stream i).lastKey.map fun live =>
            recallKey live (s.allotment i).size (s.allotment i).held ((s.stream i).originKey.getD 0) *
              nativePeriod (s.stream i).multiple }
      else s.allotment j := by
  simp [recomputeRecall]

end

/-! ## Claims (R38) -/

/-- A scan that answers a slot found one with hold count 0. -/
theorem Store.scanUnheld_holds {st : Store} {f D : Nat} {n x y : Nat} (h : st.scanUnheld f D n x = some y) :
    (st.slot y).holds = 0 := by
  induction n generalizing x with
  | zero => simp [Store.scanUnheld] at h
  | succ n ih =>
    rw [Store.scanUnheld] at h
    split at h
    · cases h; assumption
    · exact ih h

/-- Everything a claim can do. -/
theorem claim_some {i : Fin 8} {key : Nat} {s t : State} {x : Nat} (h : claim i key s = some (x, t)) :
    ∃ f c, (s.allotment i).first = some f ∧ (s.allotment i).cursor = some c ∧ (s.store.slot x).holds = 0 ∧
      t = (s.onStore (Store.setSlot x
          { s.store.slot x with occupant := .filling key, generation := ((s.store.slot x).generation + 1) % 65536 })).onAllotment
        i fun a => { a with cursor := some (nextSlot f (s.allotment i).size x) } := by
  unfold claim at h
  simp only at h
  split at h
  · rename_i f c hf hc
    split at h
    · cases h
    · rename_i y hy
      cases h
      exact ⟨f, c, hf, hc, Store.scanUnheld_holds hy, rfl⟩
  · cases h

/-! ## Holds and releases (R40, R41) -/

/-- Everything a request to take a hold can answer. -/
theorem takeHold_cases (i : Fin 8) (key : Nat) (s : State) :
    (s.store.lookup i key = none ∧ takeHold i key s = (.absent, s)) ∨
      ∃ x g, s.store.lookup i key = some (x, g) ∧
        (((s.store.slot x).holds = 15 ∧ takeHold i key s = (.holdLimit, s)) ∨
          ((s.store.slot x).holds = 0 ∧ (s.allotment i).unheld < (s.allotment i).floor + 1 ∧
            takeHold i key s = (.floor, s)) ∨
          ((s.store.slot x).holds = 0 ∧ (s.allotment i).floor + 1 ≤ (s.allotment i).unheld ∧
            takeHold i key s =
              (.held x, recomputeRecall i
                ((s.onStore (Store.setSlot x { s.store.slot x with holds := 1 })).onAllotment i fun a =>
                  { a with held := a.held + 1 }))) ∨
          ((s.store.slot x).holds ≠ 0 ∧ (s.store.slot x).holds ≠ 15 ∧
            takeHold i key s =
              (.held x, s.onStore (Store.setSlot x { s.store.slot x with holds := (s.store.slot x).holds + 1 })))) := by
  rcases h : s.store.lookup i key with _ | ⟨x, g⟩
  · exact .inl ⟨rfl, by simp [takeHold, h]⟩
  · refine .inr ⟨x, g, rfl, ?_⟩
    by_cases h15 : (s.store.slot x).holds = 15
    · exact .inl ⟨h15, by simp [takeHold, h, h15]⟩
    · by_cases h0 : (s.store.slot x).holds = 0
      · by_cases hu : (s.allotment i).unheld < (s.allotment i).floor + 1
        · exact .inr (.inl ⟨h0, hu, by simp [takeHold, h, h0, hu]⟩)
        · exact .inr (.inr (.inl ⟨h0, not_lt.mp hu, by simp [takeHold, h, h0, hu]⟩))
      · exact .inr (.inr (.inr ⟨h0, h15, by simp [takeHold, h, h0, h15]⟩))

/-- Everything the release of one hold can do. -/
theorem releaseHold_cases (s : State) (x : Nat) :
    releaseHold s x =
      match (s.store.slot x).holds, s.store.owner x with
      | 1, some i =>
        (s.onStore (Store.setSlot x { s.store.slot x with holds := 0 })).onAllotment i fun a =>
          { a with held := a.held - 1 }
      | h, _ => s.onStore (Store.setSlot x { s.store.slot x with holds := h - 1 }) := by
  unfold releaseHold
  by_cases h : (s.store.slot x).holds = 1
  · cases s.store.owner x <;> simp [h]
  · simp only [if_neg h]
    split
    · contradiction
    · rfl

end Sys2Proof.Machine
end

