-- ==== Sys2Proof/Laws/Frame.lean ====
section
/-! SUPPORT. What the parts of a channel's step leave as it was: one relation, kept by every operation a step is made of. -/

namespace Sys2Proof.Machine

/-- What no part of a channel's step changes: the timer, the recorder, the store's layout and contents, marks, the Protect
Engine, cue memory, the ports, the endpoint but for its notices, channel configurations and cue bindings, and line settings. -/
structure StepFrame (s t : State) : Prop where
  timer : t.timer = s.timer
  streams : t.streams = s.streams
  groups : t.groups = s.groups
  latches : t.latches = s.latches
  engine : t.engine = s.engine
  cues : t.cues = s.cues
  links : t.links = s.links
  store : t.store.configured = s.store.configured ∧ t.store.allotments = s.store.allotments ∧
    t.store.slots = s.store.slots ∧ t.store.dram = s.store.dram ∧ t.store.errors = s.store.errors
  endpoint : t.endpoint.id = s.endpoint.id ∧ t.endpoint.lastServed = s.endpoint.lastServed ∧
    t.endpoint.enables = s.endpoint.enables ∧ t.endpoint.route = s.endpoint.route ∧ t.endpoint.reset = s.endpoint.reset
  channels : ∀ ch, (t.channel ch).config = (s.channel ch).config ∧ (t.channel ch).cueBinding = (s.channel ch).cueBinding
  lines : ∀ n, (s.line n).sameSetting (t.line n)
  rest : t.resetHeld = s.resetHeld ∧ t.freeIndex = s.freeIndex ∧ t.pending = s.pending

theorem Line.sameSetting_refl (l : Line) : l.sameSetting l := ⟨rfl, rfl, rfl, rfl, rfl, rfl, rfl⟩

theorem Line.sameSetting_trans {l m n : Line} (h : l.sameSetting m) (k : m.sameSetting n) : l.sameSetting n := by
  obtain ⟨a1, a2, a3, a4, a5, a6, a7⟩ := h
  obtain ⟨b1, b2, b3, b4, b5, b6, b7⟩ := k
  exact ⟨b1.trans a1, b2.trans a2, b3.trans a3, b4.trans a4, b5.trans a5, b6.trans a6, b7.trans a7⟩

namespace StepFrame

theorem refl (s : State) : StepFrame s s :=
  ⟨rfl, rfl, rfl, rfl, rfl, rfl, rfl, ⟨rfl, rfl, rfl, rfl, rfl⟩, ⟨rfl, rfl, rfl, rfl, rfl⟩, fun _ => ⟨rfl, rfl⟩,
    fun _ => Line.sameSetting_refl _, ⟨rfl, rfl, rfl⟩⟩

theorem trans {s t u : State} (h : StepFrame s t) (k : StepFrame t u) : StepFrame s u where
  timer := k.timer.trans h.timer
  streams := k.streams.trans h.streams
  groups := k.groups.trans h.groups
  latches := k.latches.trans h.latches
  engine := k.engine.trans h.engine
  cues := k.cues.trans h.cues
  links := k.links.trans h.links
  store := by
    obtain ⟨a1, a2, a3, a4, a5⟩ := h.store
    obtain ⟨b1, b2, b3, b4, b5⟩ := k.store
    exact ⟨b1.trans a1, b2.trans a2, b3.trans a3, b4.trans a4, b5.trans a5⟩
  endpoint := by
    obtain ⟨a1, a2, a3, a4, a5⟩ := h.endpoint
    obtain ⟨b1, b2, b3, b4, b5⟩ := k.endpoint
    exact ⟨b1.trans a1, b2.trans a2, b3.trans a3, b4.trans a4, b5.trans a5⟩
  channels := fun ch => ⟨(k.channels ch).1.trans (h.channels ch).1, (k.channels ch).2.trans (h.channels ch).2⟩
  lines := fun n => Line.sameSetting_trans (h.lines n) (k.lines n)
  rest := ⟨k.rest.1.trans h.rest.1, k.rest.2.1.trans h.rest.2.1, k.rest.2.2.trans h.rest.2.2⟩

theorem raise (time : Nat) (body : NoticeBody) (s : State) : StepFrame s (raise time body s) :=
  { refl s with endpoint := ⟨by simp, by simp, by simp, by simp, by simp⟩ }

theorem onChannel {ch : Fin 4} {f : Channel → Channel} (s : State)
    (hf : ∀ c, (f c).config = c.config ∧ (f c).cueBinding = c.cueBinding := by exact fun _ => ⟨rfl, rfl⟩) : StepFrame s (s.onChannel ch f) :=
  { refl s with
    channels := fun j => by
      rw [State.channel_onChannel]
      split
      · subst j; exact hf _
      · exact ⟨rfl, rfl⟩ }

theorem clips (s : State) (t : Table Clip) : StepFrame s { s with clips := t } := { refl s with }

theorem onStore {f : Store → Store} (s : State)
    (hf : ∀ st, (f st).configured = st.configured ∧ (f st).allotments = st.allotments ∧ (f st).slots = st.slots ∧
      (f st).dram = st.dram ∧ (f st).errors = st.errors) : StepFrame s (s.onStore f) :=
  { refl s with store := hf _ }

theorem onLine {n : Fin 8} {f : Line → Line} (s : State) (hf : ∀ l : Line, l.sameSetting (f l)) :
    StepFrame s (s.onLine n f) :=
  { refl s with
    lines := fun j => by
      rw [State.line_onLine]
      split
      · subst j; exact hf _
      · exact Line.sameSetting_refl _ }

theorem settleFault (ch : Fin 4) (time : Nat) (s : State) : StepFrame s (settleFault ch time s) := by
  obtain ⟨-, h⟩ | ⟨-, h⟩ := settleFault_cases s ch time <;> rw [h]
  · exact refl s
  · exact (onChannel s).trans (StepFrame.raise _ _ _)

theorem leaveClip (b : Binding) (s : State) : StepFrame s (leaveClip b s) := by
  unfold Machine.leaveClip
  split
  · split
    · exact refl s
    · exact clips s _
  · exact refl s

/-- A fold of operations each of which keeps the frame keeps it. -/
theorem foldl {α : Type} {f : State → α → State} (hf : ∀ s a, StepFrame s (f s a)) (l : List α) (s : State) :
    StepFrame s (l.foldl f s) := by
  induction l generalizing s with
  | nil => exact refl s
  | cons a l ih => exact (hf s a).trans (ih _)

theorem actOnLines (a : LineAction) (mask length : Nat) (s : State) : StepFrame s (actOnLines a mask length s) := by
  refine foldl (fun t n => ?_) _ s
  split
  · refine onLine t fun l => ?_
    unfold Line.act
    split
    · cases a <;> exact ⟨rfl, rfl, rfl, rfl, rfl, rfl, rfl⟩
    · exact Line.sameSetting_refl _
  · exact refl t

theorem countPulses (h : Nat) (s : State) : StepFrame s (countPulses h s) := by
  refine foldl (fun t n => onLine t fun l => ?_) _ s
  unfold Line.countPulse
  split
  · split <;> exact ⟨rfl, rfl, rfl, rfl, rfl, rfl, rfl⟩
  · exact Line.sameSetting_refl _

theorem closeClips (time : Nat) (s : State) : StepFrame s (closeClips time s) := by
  refine foldl (fun t e => ?_) _ s
  unfold closeClip
  split
  · split
    · exact (clips t _).trans (StepFrame.raise _ _ _)
    · exact refl t
  · exact refl t

/-! ## The scanner (chapter 8) -/

theorem warnCue (ch : Fin 4) (w : Warning) (index time : Nat) (s : State) :
    StepFrame s (warnCue ch w index time s) := by
  unfold Machine.warnCue
  split
  · exact refl s
  · exact (onChannel s).trans (StepFrame.raise _ _ _)

theorem angleCue (ch : Fin 4) (n index time : Nat) (s : State) : StepFrame s (angleCue ch n index time s).1 := by
  unfold Machine.angleCue
  split
  · split
    · dsimp only
      exact onChannel s
    · exact warnCue _ _ _ _ _
  · split
    · exact warnCue _ _ _ _ _
    · split
      · exact warnCue _ _ _ _ _
      · dsimp only
        exact onChannel s
  · exact refl s

theorem jumpCue (ch : Fin 4) (target index time : Nat) (s : State) : StepFrame s (jumpCue ch target index time s) := by
  unfold Machine.jumpCue
  simp only
  refine StepFrame.trans ?_ (onChannel _)
  split
  · exact warnCue _ _ _ _ _
  · exact refl s

theorem executed {ch : Fin 4} (mark : Nat) (s : State) : StepFrame s (s.onChannel ch (Channel.executed mark)) :=
  onChannel s

theorem executeCue (ch : Fin 4) (q : CueRecord) (time : Nat) (s : State) :
    StepFrame s (executeCue ch q time s).1 := by
  unfold Machine.executeCue
  simp only
  split
  · exact (onChannel s).trans (executed _ _)
  · exact (onChannel s).trans (executed _ _)
  · exact (onChannel s).trans (executed _ _)
  · exact (StepFrame.raise _ _ _).trans (executed _ _)
  · exact (actOnLines _ _ _ _).trans (executed _ _)
  · exact (angleCue _ _ _ _ _).trans (executed _ _)
  · exact (jumpCue _ _ _ _ _).trans (executed _ _)
  · split
    · exact (warnCue _ _ _ _ _).trans (executed _ _)
    · dsimp only [returnCue]
      exact onChannel s
  · exact refl s
  · exact refl s

theorem scan (ch : Fin 4) (limit : Int) (time : Nat) (s : State) : StepFrame s (scan ch limit time s) := by
  unfold Machine.scan
  generalize (s.channel ch).listLength + 1 = n
  induction n generalizing s with
  | zero => exact refl s
  | succ n ih =>
    unfold scanLoop
    simp only
    split
    · exact onChannel s
    · split
      · exact onChannel s
      · split
        · exact (onChannel s).trans (ih _)
        · split
          · exact onChannel s
          · split
            · exact (onChannel s).trans (StepFrame.raise _ _ _)
            · split
              · exact executeCue _ _ _ _
              · exact (executeCue _ _ _ _).trans (ih _)

theorem reseek (ch : Fin 4) (from_ : Int) (s : State) : StepFrame s (reseek ch from_ s) := by
  unfold Machine.reseek
  exact onChannel s

theorem cueScan (ch : Fin 4) (from_ limit : Int) (time : Nat) (s : State) :
    StepFrame s (cueScan ch from_ limit time s) := by
  unfold Machine.cueScan
  simp only
  by_cases hr : (s.channel ch).scanner.reseek = true
  · simp only [if_pos hr]
    split
    · exact (reseek _ _ _).trans (scan _ _ _ _)
    · exact reseek _ _ _
  · simp only [if_neg hr]
    split
    · exact scan _ _ _ _
    · exact refl s

theorem wrapScan (ch : Fin 4) (time : Nat) (s : State) : StepFrame s (wrapScan ch time s) := by
  unfold Machine.wrapScan
  simp only
  split
  · exact (onChannel s).trans (onChannel _)
  · exact onChannel s
  · exact ((onChannel s).trans (onChannel _)).trans (scan _ _ _ _)

/-! ## Breaks and motion (chapters 7 and 9) -/

theorem raiseAhead (ch : Fin 4) (src : Option BreakSource) (time : Nat) (s : State) :
    StepFrame s (raiseAhead ch src time s) := by
  cases src
  · exact refl s
  · exact StepFrame.raise _ _ _

theorem announce {ch : Fin 4} (src : Option BreakSource) (s : State) :
    StepFrame s (s.onChannel ch (Channel.announce src)) :=
  onChannel s fun c => by unfold Channel.announce; split <;> exact ⟨rfl, rfl⟩

theorem sampleBreak (ch : Fin 4) (time : Nat) (s : State) : StepFrame s (sampleBreak ch time s) :=
  (announce _ s).trans (raiseAhead _ _ _ _)

theorem wrap (ch : Fin 4) (cause : Option BreakCause) (time : Nat) (s : State) : StepFrame s (wrap ch cause time s) := by
  unfold Machine.wrap
  simp only
  refine StepFrame.trans ?_ (wrapScan _ _ _)
  refine StepFrame.trans ?_ (raiseAhead _ _ _ _)
  have h := (onChannel (f := Channel.newPass (s.base ch)) s (ch := ch)).trans
    (announce (ch := ch) (breakSource ch (s.onChannel ch (Channel.newPass (s.base ch)))) _)
  split
  · exact h
  · exact h.trans (StepFrame.raise _ _ _)

theorem endBreak (ch : Fin 4) (cause : BreakCause) (s : State) : StepFrame s (endBreak ch cause s) :=
  (wrap _ _ _ _).trans (settleFault _ _ _)

theorem breakTimerStep (ch : Fin 4) (time : Nat) (s : State) : StepFrame s (breakTimerStep ch time s) := by
  unfold Machine.breakTimerStep
  simp only
  split
  · exact refl s
  · split
    · exact (onChannel s).trans (wrap _ _ _ _)
    · exact onChannel s

theorem shuttleStep (ch : Fin 4) (time : Nat) (s : State) : StepFrame s (shuttleStep ch time s) := by
  unfold Machine.shuttleStep
  simp only
  split
  · split
    · exact ((onChannel s).trans (onChannel _)).trans (StepFrame.raise _ _ _)
    · exact onChannel s
  · exact refl s

theorem overtake (ch : Fin 4) (stream : Fin 8) (before : Int) (p time : Nat) (s : State) :
    StepFrame s (overtake ch stream before p time s) := by
  unfold Machine.overtake
  simp only
  split
  · exact onChannel s
  · exact (onChannel s).trans (StepFrame.raise _ _ _)

theorem setAtLive (ch : Fin 4) (stream : Fin 8) (live : Bool) (time after : Nat) (s : State) :
    StepFrame s (setAtLive ch stream live time after s) := by
  unfold Machine.setAtLive
  simp only
  split
  · exact (onChannel s).trans (StepFrame.raise _ _ _)
  · exact onChannel s

theorem freeBounds (ch : Fin 4) (stream : Fin 8) (x : Int) (moving : Bool) (time after : Nat) (s : State) :
    StepFrame s (freeBounds ch stream x moving time after s) := by
  unfold Machine.freeBounds
  simp only
  split
  · exact onChannel s
  · refine StepFrame.trans ?_ (setAtLive _ _ _ _ _ _)
    split
    · exact onChannel s
    · split
      · split
        · exact (onChannel s).trans (StepFrame.raise _ _ _)
        · exact overtake _ _ _ _ _ _
      · exact onChannel s

theorem stopAtEnd (ch : Fin 4) (id out : Nat) (action : EndAction) (noLive : Option Bool) (time after : Nat)
    (s : State) : StepFrame s (stopAtEnd ch id out action noLive time after s) :=
  (onChannel s).trans (StepFrame.raise _ _ _)

theorem runOn (ch : Fin 4) (id tin : Nat) (stream : Fin 8) (lo hi : Nat) (x : Int) (time after : Nat)
    (s : State) : StepFrame s (runOn ch id tin stream lo hi x time after s) := by
  unfold Machine.runOn
  simp only
  refine StepFrame.trans ?_ (StepFrame.raise _ _ _)
  split
  · exact ((leaveClip _ s).trans (onChannel _)).trans (setAtLive _ _ _ _ _ _)
  · split
    · exact ((leaveClip _ s).trans (onChannel _)).trans (overtake _ _ _ _ _ _)
    · exact (leaveClip _ s).trans (onChannel _)

theorem endAction (ch : Fin 4) (id tin out : Nat) (x : Int) (time after : Nat) (s : State) :
    StepFrame s (endAction ch id tin out x time after s).state := by
  unfold Machine.endAction
  simp only
  split
  · exact stopAtEnd _ _ _ _ _ _ _ _
  · split
    · exact stopAtEnd _ _ _ _ _ _ _ _
    · split
      · exact stopAtEnd _ _ _ _ _ _ _ _
      · exact runOn _ _ _ _ _ _ _ _ _ _
  · split
    · exact (onChannel s).trans (StepFrame.raise _ _ _)
    · dsimp only
      exact wrap _ _ _ _

theorem clipBounds (ch : Fin 4) (id tin out : Nat) (x : Int) (time after : Nat) (s : State) :
    StepFrame s (clipBounds ch id tin out x time after s).state := by
  unfold Machine.clipBounds
  split
  · exact (onChannel s).trans (StepFrame.raise _ _ _)
  · split
    · exact endAction _ _ _ _ _ _ _ _
    · dsimp only
      exact onChannel s

theorem holdStep (ch : Fin 4) (time after : Nat) (s : State) : StepFrame s (holdStep ch time after s) := by
  unfold Machine.holdStep
  simp only
  split
  · exact (onChannel s).trans (freeBounds _ _ _ _ _ _ _)
  · exact onChannel s

theorem movingStep (ch : Fin 4) (time after : Nat) (s : State) : StepFrame s (movingStep ch time after s).state := by
  have h : StepFrame s (s.onChannel ch Channel.ramped) := onChannel s
  unfold Machine.movingStep
  simp only
  split
  · exact h.trans (freeBounds _ _ _ _ _ _ _)
  · split
    · exact h.trans (clipBounds _ _ _ _ _ _ _ _)
    · exact h
  · exact h

theorem flagReseek (ch : Fin 4) (p0 : Nat) (s : State) : StepFrame s (flagReseek ch p0 s) := by
  unfold Machine.flagReseek
  split
  · exact onChannel s
  · exact refl s

theorem motionShowing (ch : Fin 4) (time after : Nat) (s : State) : StepFrame s (motionShowing ch time after s) := by
  unfold Machine.motionShowing
  simp only
  split
  · exact (holdStep _ _ _ _).trans (flagReseek _ _ _)
  · split
    · split
      · exact ((movingStep _ _ _ _).trans (flagReseek _ _ _)).trans (cueScan _ _ _ _ _)
      · exact (movingStep _ _ _ _).trans (flagReseek _ _ _)
    · exact movingStep _ _ _ _

theorem motion (ch : Fin 4) (time : Nat) (s : State) : StepFrame s (motion ch time s) := motionShowing _ _ _ _

/-! ## Selection and output (chapters 7 and 10) -/

theorem discardFetches (ch : Fin 4) (s : State) : StepFrame s (s.onStore (Store.discardFetches ch)) :=
  onStore s fun _ => ⟨rfl, rfl, rfl, rfl, rfl⟩

theorem serve (s : State) : StepFrame s (s.onStore Store.serve) :=
  onStore s fun st => by unfold Store.serve; split <;> exact ⟨rfl, rfl, rfl, rfl, rfl⟩

theorem enqueue (e : ReadEntry) (s : State) : StepFrame s (s.onStore (Store.enqueue e)) :=
  onStore s fun st => by unfold Store.enqueue Store.serve; split <;> exact ⟨rfl, rfl, rfl, rfl, rfl⟩

theorem prepare {ch : Fin 4} (p : Prepared) (s : State) : StepFrame s (s.onChannel ch (Channel.prepare p)) :=
  onChannel s fun c => by unfold Channel.prepare; simp only; split <;> exact ⟨rfl, rfl⟩

theorem selectSources (ch : Fin 4) (s : State) : StepFrame s (selectSources ch s) := by
  have h : StepFrame s (s.onStore (Store.withdrawFetches ch)) := onStore s fun _ => ⟨rfl, rfl, rfl, rfl, rfl⟩
  unfold Machine.selectSources
  simp only
  split
  · exact h.trans (prepare _ _)
  · exact (h.trans (prepare _ _)).trans (foldl (fun t x => enqueue _ t) _ _)

theorem Channel.rescore_keeps (n : Nat) (c : Channel) :
    (c.rescore n).config = c.config ∧ (c.rescore n).cueBinding = c.cueBinding := ⟨rfl, rfl⟩

theorem outputStep (ch : Fin 4) (h : Nat) (s : State) : StepFrame s (outputStep ch h s) := by
  refine StepFrame.trans (onChannel s fun c => ?_) (discardFetches _ _)
  unfold Channel.output
  split
  · exact ⟨rfl, rfl⟩
  · exact ⟨rfl, rfl⟩
  · split
    · exact ⟨rfl, rfl⟩
    · split
      · exact ⟨rfl, rfl⟩
      · split <;> split <;> exact ⟨rfl, rfl⟩

theorem channelStep (h : Nat) (s : State) (ch : Fin 4) : StepFrame s (channelStep h s ch) := by
  unfold Machine.channelStep
  refine StepFrame.trans ?_ (settleFault _ _ _)
  refine StepFrame.trans (outputStep ch h s) ?_
  refine StepFrame.trans (t := stepPartB ch (h * 2880) (s.channel ch).state (Machine.outputStep ch h s)) ?_ ?_
  · unfold stepPartB
    split
    · exact (shuttleStep _ _ _).trans (motion _ _ _)
    · exact breakTimerStep _ _ _
    · exact refl _
  · unfold stepPartC
    split
    · exact selectSources _ _
    · exact refl _

end StepFrame

/-- A boundary is an advance of the house frame count followed by operations that keep the frame of a step. -/
theorem boundary_frame (s : State) :
    StepFrame (s.onTimer fun t => { t with frames := nextFrame s.timer.frames, fresh := false }) (boundary s) :=
  ((StepFrame.foldl (StepFrame.channelStep _) _ _).trans (StepFrame.closeClips _ _)).trans (StepFrame.countPulses _ _)

@[simp] theorem boundary_timer (s : State) :
    (boundary s).timer = { s.timer with frames := nextFrame s.timer.frames, fresh := false } :=
  (boundary_frame s).timer

/-! ## The timer's own boundaries -/

/-- What the Reference Timer does by itself next: nothing in UNLOCKED, and otherwise the boundary of its state with what
that expiry leaves in the timer (R4, R6 to R8). -/
theorem nextBoundary_cases (s : State) :
    let b := boundary (s.onTimer fun t => { t with count := t.due })
    (s.timer.state = .unlocked ∧ nextBoundary s = .next s) ∨
      (s.timer.state = .lost ∧ nextBoundary s = .next (b.onTimer fun t => { t with count := 0 })) ∨
      (s.timer.state ≠ .unlocked ∧ s.timer.state ≠ .lost ∧
        nextBoundary s = .next (noteState s.timer.state (b.onTimer Timer.expired))) := by
  cases h : s.timer.state <;> simp [nextBoundary, execLostFreeRun, execFlywheelExpiry, h]

end Sys2Proof.Machine
end

