-- ==== Sys2Proof/Laws/PerInstr.lean ====
section
/-! SUPPORT. Facts about commands as syntax, one lemma per command. -/

namespace Sys2Proof.Laws

/-- A well-formed command that is a request has an origin and a kind byte that fit their fields (R179, R184). -/
def Fits.Statement (i : Instr) : Prop :=
  i.wf = true → ∀ o kind args, encodeRequest i = some (o, kind, args) → o.wf = true ∧ kind < 256

theorem Fits.all (i : Instr) : Fits.Statement i := by
  intro hw o kind args he
  cases i <;> simp only [encodeRequest, reduceCtorEq] at he <;> cases he <;> simp_all [Instr.wf, fits]

theorem Fits.referencePulse (c) : Fits.Statement (.referencePulse c) := Fits.all _
theorem Fits.flywheelExpiry : Fits.Statement .flywheelExpiry := Fits.all _
theorem Fits.lostFreeRun : Fits.Statement .lostFreeRun := Fits.all _
theorem Fits.pulseEnd (line) : Fits.Statement (.pulseEnd line) := Fits.all _
theorem Fits.shuttleLapse (ch) : Fits.Statement (.shuttleLapse ch) := Fits.all _
theorem Fits.holdCountExpiry (ch) : Fits.Statement (.holdCountExpiry ch) := Fits.all _
theorem Fits.breakTimerExpiry (ch) : Fits.Statement (.breakTimerExpiry ch) := Fits.all _
theorem Fits.fetchCompletion (error) : Fits.Statement (.fetchCompletion error) := Fits.all _
theorem Fits.protectLookupServed : Fits.Statement .protectLookupServed := Fits.all _
theorem Fits.withdrawnLookupEnd : Fits.Statement .withdrawnLookupEnd := Fits.all _
theorem Fits.cueCommitComplete : Fits.Statement .cueCommitComplete := Fits.all _
theorem Fits.linkUp (link) : Fits.Statement (.linkUp link) := Fits.all _
theorem Fits.linkDown (link) : Fits.Statement (.linkDown link) := Fits.all _
theorem Fits.packetReceive (link bytes) : Fits.Statement (.packetReceive link bytes) := Fits.all _
theorem Fits.transmitChoose (link) : Fits.Statement (.transmitChoose link) := Fits.all _
theorem Fits.transmitEnd (link) : Fits.Statement (.transmitEnd link) := Fits.all _
theorem Fits.linePinChange (line high) : Fits.Statement (.linePinChange line high) := Fits.all _
theorem Fits.setHouseTime (o rate count) : Fits.Statement (.setHouseTime o rate count) := Fits.all _
theorem Fits.enableStream (o stream sourceId link multiple) : Fits.Statement (.enableStream o stream sourceId link multiple) :=
  Fits.all _
theorem Fits.disableStream (o stream) : Fits.Statement (.disableStream o stream) := Fits.all _
theorem Fits.configureStore (o pairs) : Fits.Statement (.configureStore o pairs) := Fits.all _
theorem Fits.setMarkGroup (o group angles defaultLength preRoll postRoll recycle) : Fits.Statement (.setMarkGroup o group angles defaultLength preRoll postRoll recycle) :=
  Fits.all _
theorem Fits.readMarkGroup (o group) : Fits.Statement (.readMarkGroup o group) := Fits.all _
theorem Fits.markIn (o group time) : Fits.Statement (.markIn o group time) := Fits.all _
theorem Fits.markOut (o group time) : Fits.Statement (.markOut o group time) := Fits.all _
theorem Fits.markSpot (o group time) : Fits.Statement (.markSpot o group time) := Fits.all _
theorem Fits.setClipLabel (o id label) : Fits.Statement (.setClipLabel o id label) := Fits.all _
theorem Fits.dropClip (o id) : Fits.Statement (.dropClip o id) := Fits.all _
theorem Fits.listClips (o start count) : Fits.Statement (.listClips o start count) := Fits.all _
theorem Fits.readClip (o id) : Fits.Statement (.readClip o id) := Fits.all _
theorem Fits.takeLatch (o line action group) : Fits.Statement (.takeLatch o line action group) := Fits.all _
theorem Fits.protectClip (o id) : Fits.Statement (.protectClip o id) := Fits.all _
theorem Fits.releaseClip (o id) : Fits.Statement (.releaseClip o id) := Fits.all _
theorem Fits.configureChannel (o ch args) : Fits.Statement (.configureChannel o ch args) := Fits.all _
theorem Fits.bindChannel (o ch form) : Fits.Statement (.bindChannel o ch form) := Fits.all _
theorem Fits.play (o ch target immediate) : Fits.Statement (.play o ch target immediate) := Fits.all _
theorem Fits.stop (o ch immediate) : Fits.Statement (.stop o ch immediate) := Fits.all _
theorem Fits.shuttle (o ch speed) : Fits.Statement (.shuttle o ch speed) := Fits.all _
theorem Fits.jog (o ch n) : Fits.Statement (.jog o ch n) := Fits.all _
theorem Fits.seek (o ch form) : Fits.Statement (.seek o ch form) := Fits.all _
theorem Fits.angle (o ch number) : Fits.Statement (.angle o ch number) := Fits.all _
theorem Fits.halt (o ch) : Fits.Statement (.halt o ch) := Fits.all _
theorem Fits.resetChannel (o ch) : Fits.Statement (.resetChannel o ch) := Fits.all _
theorem Fits.readChannel (o ch) : Fits.Statement (.readChannel o ch) := Fits.all _
theorem Fits.clearWarnings (o ch) : Fits.Statement (.clearWarnings o ch) := Fits.all _
theorem Fits.stageCues (o start records) : Fits.Statement (.stageCues o start records) := Fits.all _
theorem Fits.clearStaging (o) : Fits.Statement (.clearStaging o) := Fits.all _
theorem Fits.readStaging (o) : Fits.Statement (.readStaging o) := Fits.all _
theorem Fits.commitCuePage (o page) : Fits.Statement (.commitCuePage o page) := Fits.all _
theorem Fits.readCuePage (o page) : Fits.Statement (.readCuePage o page) := Fits.all _
theorem Fits.bindCues (o ch first count) : Fits.Statement (.bindCues o ch first count) := Fits.all _
theorem Fits.requestBreak (o ch) : Fits.Statement (.requestBreak o ch) := Fits.all _
theorem Fits.continue_ (o ch) : Fits.Statement (.continue_ o ch) := Fits.all _
theorem Fits.configureLine (o line function channel polarity action group) : Fits.Statement (.configureLine o line function channel polarity action group) :=
  Fits.all _
theorem Fits.setLines (o mask) : Fits.Statement (.setLines o mask) := Fits.all _
theorem Fits.clearLines (o mask) : Fits.Statement (.clearLines o mask) := Fits.all _
theorem Fits.pulseLines (o mask length) : Fits.Statement (.pulseLines o mask length) := Fits.all _
theorem Fits.readLines (o) : Fits.Statement (.readLines o) := Fits.all _
theorem Fits.setNoticeEnables (o classes) : Fits.Statement (.setNoticeEnables o classes) := Fits.all _
theorem Fits.setNoticeRoute (o route) : Fits.Statement (.setNoticeRoute o route) := Fits.all _
theorem Fits.readStatus (o) : Fits.Statement (.readStatus o) := Fits.all _
theorem Fits.clearStatus (o) : Fits.Statement (.clearStatus o) := Fits.all _
theorem Fits.resetPart (o) : Fits.Statement (.resetPart o) := Fits.all _
theorem Fits.unknownRequest (o kind) : Fits.Statement (.unknownRequest o kind) := Fits.all _
theorem Fits.resetPartActs : Fits.Statement .resetPartActs := Fits.all _
theorem Fits.lineReset (strapA strapB) : Fits.Statement (.lineReset strapA strapB) := Fits.all _
theorem Fits.powerOnReset (strapA strapB) : Fits.Statement (.powerOnReset strapA strapB) := Fits.all _
theorem Fits.resetNHeldLow : Fits.Statement .resetNHeldLow := Fits.all _

end Sys2Proof.Laws
end

