-- ==== Sys2Proof/Tests/Slice0.lean ====
section
/-! SUPPORT. Tests: ill-formed commands refused, request payloads written out by hand, worked values of the spec, small
tests of the commands, and for each statement with hypotheses a state and operands that meet them. -/

set_option Elab.async false

open Sys2Proof Sys2Proof.Machine

namespace Sys2Proof.Tests

/-! ## Helpers -/

/-- The state an outcome goes on to. -/
def after : Host.Outcome State Fault Refusal → State
  | .next t => t
  | _ => State.reset

def run (i : Instr) (s : State) : State := after (exec i s)

/-- A request from endpoint 5 of link 0 with tag 7. -/
def o : Origin := ⟨0, 5, 7⟩

/-- The last reply waiting on link 0: its status and results. -/
def answer (s : State) : Option (Status × List Byte) := (s.port 0).replies.getLast?.map fun r => (r.status, r.results)

/-- The bodies of the notices waiting. -/
def notes (s : State) : List NoticeBody := s.endpoint.notices.map Notice.body

/-- Reset, with both links UP and every notice class sent to endpoint 5 of link 0. -/
def up : State := { links := Two.fill { up := true }, endpoint := { enables := 255, route := some ⟨0, 5⟩ } }

def atFrame (n : Nat) (s : State) : State := { s with timer := { state := .locked, frames := n, fresh := false } }

/-- A clip of frames 1000 to 1050 with angle list [0]. -/
def clip3 : Clip := { group := 0, state := .closed, inPoint := 2880000, outPoint := some 3024000, angles := [0] }

/-- Stream 0 enabled at 50 Hz with keys 1000 to 1100 committed, the newest in slot 9; clip 3; channel 0 CUED on clip 3;
channel 1 RUNNING on stream 0. -/
def scene : State :=
  { atFrame 1100 up with
    streams := (Eight.fill {}).set 0
      { enabled := true, source := 17, link := 0, multiple := 1, lastKey := some 1100, originKey := some 1000 }
    store :=
      { configured := true
        allotments := (Eight.fill {}).set 0
          { size := 512, first := some 0, floor := 64, cursor := some 10, directory := [(76, (1100, 9))]
            recallStart := some 2880000 }
        slots := [(9, { occupant := .full 1100, holds := 0, generation := 5 })] }
    clips := [(3, { clip3 with useCount := 1 })]
    channels := ⟨{ state := .cued, binding := .clip 3 0, position := 2880000, config := { route := some ⟨0, 9⟩ } },
      { state := .running, binding := .free 2880000 0, position := 3168000, config := { route := some ⟨1, 9⟩ } },
      {}, {}⟩ }

/-! ## Well-formedness: each check refuses a command that fails it -/

theorem test_wf_accepts_largest_fields :
    [Instr.setHouseTime ⟨0, 255, 65535⟩ 255 (256 ^ 5 - 1), .play o 255 (-32768) 255, .play o 255 32767 255,
      .jog o 0 (-128), .jog o 0 127, .unknownRequest o 0, .unknownRequest o 47, .markIn o 0 .now,
      .stageCues o 0 [⟨0, 1, 0, .other 10⟩]].all Instr.wf = true := by decide +kernel

theorem test_wf_refuses_origin : [Instr.readLines ⟨0, 256, 0⟩, .readLines ⟨0, 0, 65536⟩].any Instr.wf = false := by
  decide +kernel

theorem test_wf_refuses_recorder_fields :
    [Instr.setHouseTime o 256 0, .setHouseTime o 1 (256 ^ 5), .enableStream o 256 0 0 1, .enableStream o 0 256 0 1,
      .enableStream o 0 0 256 1, .enableStream o 0 0 0 256, .disableStream o 256,
      .configureStore o ((Eight.fill (0, 0)).set 0 (256 ^ 3, 0)),
      .configureStore o ((Eight.fill (0, 0)).set 7 (0, 65536))].any Instr.wf = false := by decide +kernel

theorem test_wf_refuses_mark_fields :
    [Instr.setMarkGroup o 256 [0] 1 1 1 0, .setMarkGroup o 0 (List.replicate 256 0) 1 1 1 0,
      .setMarkGroup o 0 [256] 1 1 1 0, .setMarkGroup o 0 [0] 65536 1 1 0, .setMarkGroup o 0 [0] 1 65536 1 0,
      .setMarkGroup o 0 [0] 1 1 65536 0, .setMarkGroup o 0 [0] 1 1 1 256, .readMarkGroup o 256, .markIn o 256 .now,
      .markOut o 0 (.explicit (256 ^ 7)), .markSpot o 256 .now, .takeLatch o 256 1 0, .takeLatch o 0 256 0,
      .takeLatch o 0 1 256].any Instr.wf = false := by decide +kernel

theorem test_wf_refuses_clip_fields :
    [Instr.setClipLabel o 65536 [], .setClipLabel o 0 (List.replicate 256 0), .dropClip o 65536, .readClip o 65536,
      .protectClip o 65536, .releaseClip o 65536, .listClips o 65536 1, .listClips o 0 256].any Instr.wf = false := by
  decide +kernel

def args0 : ChannelArgs := ⟨8, 24, 25, 1, 1, 0, 1, 1, some ⟨0, 9⟩⟩

theorem test_wf_refuses_channel_fields :
    ([{ args0 with programRamp := 65536 }, { args0 with shuttleRamp := 65536 }, { args0 with shuttleHoldOff := 256 },
        { args0 with endAction := 256 }, { args0 with passPeriod := 256 }, { args0 with breakLimit := 65536 },
        { args0 with mixMode := 256 }, { args0 with fill := 256 }, { args0 with route := some ⟨256, 9⟩ },
        { args0 with route := some ⟨0, 256⟩ }].map (Instr.configureChannel o 0) ++
      [Instr.configureChannel o 256 args0, .bindChannel o 256 (.clip 0 0 0), .bindChannel o 0 (.clip 65536 0 0),
        .bindChannel o 0 (.clip 0 256 0), .bindChannel o 0 (.clip 0 0 (256 ^ 4)),
        .bindChannel o 0 (.free 256 (.absolute 0)), .bindChannel o 0 (.free 0 (.absolute (256 ^ 7))),
        .bindChannel o 0 (.free 0 (.liveMinus (256 ^ 3))), .play o 256 0 0, .play o 0 32768 0, .play o 0 0 256,
        .stop o 256 0, .stop o 0 256, .shuttle o 256 0, .shuttle o 0 (-32769), .jog o 256 0, .jog o 0 128,
        .seek o 256 (.relative 0), .seek o 0 (.relative (256 ^ 4)), .seek o 0 (.absolute (256 ^ 7)), .angle o 256 0,
        .angle o 0 256, .halt o 256, .resetChannel o 256, .readChannel o 256, .clearWarnings o 256,
        .requestBreak o 256, .continue_ o 256]).any Instr.wf = false := by decide +kernel

theorem test_wf_refuses_cue_fields :
    ([CueRecord.mk (256 ^ 4) 1 0 .stop, ⟨0, 256, 0, .stop⟩, ⟨0, 1, 256, .stop⟩, ⟨0, 1, 0, .speed 32768 0⟩,
        ⟨0, 1, 0, .speed 0 256⟩, ⟨0, 1, 0, .hold 65536⟩, ⟨0, 1, 0, .angle 256⟩, ⟨0, 1, 0, .jump (256 ^ 4)⟩,
        ⟨0, 1, 0, .line 256 1 1⟩, ⟨0, 1, 0, .line 1 256 1⟩, ⟨0, 1, 0, .line 1 1 256⟩, ⟨0, 1, 0, .note 256⟩,
        ⟨0, 1, 0, .other 9⟩, ⟨0, 1, 0, .other 256⟩].map (fun q => Instr.stageCues o 0 [q]) ++
      [Instr.stageCues o 256 [], .stageCues o 0 (List.replicate 256 ⟨0, 1, 0, .stop⟩), .commitCuePage o 256,
        .readCuePage o 256, .bindCues o 256 0 1, .bindCues o 0 256 1, .bindCues o 0 0 256]).any Instr.wf = false := by
  decide +kernel

theorem test_wf_refuses_line_and_endpoint_fields :
    [Instr.configureLine o 256 1 0 1 1 0, .configureLine o 0 256 0 1 1 0, .configureLine o 0 1 256 1 1 0,
      .configureLine o 0 1 0 256 1 0, .configureLine o 0 1 0 1 256 0, .configureLine o 0 1 0 1 1 256, .setLines o 256,
      .clearLines o 256, .pulseLines o 256 1, .pulseLines o 1 256, .setNoticeEnables o 256,
      .setNoticeRoute o (some ⟨256, 0⟩), .setNoticeRoute o (some ⟨0, 256⟩), .unknownRequest o 1,
      .unknownRequest o 46, .unknownRequest o 256].any Instr.wf = false := by decide +kernel

/-! ## Request payloads written out from R180 and the owning rules -/

theorem test_decode_timer_and_streams :
    decodeRequest o 1 [2, 0, 0, 0, 1, 44] = .request (.setHouseTime o 2 300) ∧
      decodeRequest o 2 [3, 17, 1, 6] = .request (.enableStream o 3 17 1 6) := by decide +kernel

theorem test_decode_store :
    decodeRequest o 4 ([0, 16, 0, 1, 0] ++ List.replicate 30 0 ++ [0, 8, 0, 0, 64]) =
      .request (.configureStore o (((Eight.fill (0, 0)).set 0 (4096, 256)).set 7 (2048, 64))) := by decide +kernel

theorem test_decode_marks :
    decodeRequest o 5 [1, 3, 3, 4, 0, 1, 144, 0, 150, 0, 100, 1] = .request (.setMarkGroup o 1 [3, 4, 0] 400 150 100 1) ∧
      decodeRequest o 7 [1, 2, 0, 0, 0, 0, 1, 0, 0] = .request (.markIn o 1 (.explicit 65536)) ∧
      decodeRequest o 10 [1, 0, 2, 71, 79] = .request (.setClipLabel o 256 [71, 79]) := by decide +kernel

theorem test_decode_channels :
    decodeRequest o 17 [2, 0, 8, 0, 24, 25, 1, 64, 58, 152, 3, 2, 1, 1, 200] =
        .request (.configureChannel o 2 ⟨8, 24, 25, 1, 64, 15000, 3, 2, some ⟨1, 200⟩⟩) ∧
      decodeRequest o 18 [0, 1, 1, 2, 3, 0, 0, 1, 0] = .request (.bindChannel o 0 (.clip 258 3 256)) ∧
      decodeRequest o 19 [3, 252, 0, 1] = .request (.play o 3 (-1024) 1) ∧
      decodeRequest o 22 [0, 129] = .request (.jog o 0 (-127)) := by decide +kernel

theorem test_decode_cues :
    decodeRequest o 29 [5, 2, 0, 0, 11, 64, 1, 0, 1, 2, 0, 0, 0, 0, 16, 0, 4, 3, 6, 5, 3, 10] =
      .request (.stageCues o 5 [⟨2880, 1, 0, .speed 512 0⟩, ⟨4096, 4, 3, .line 5 3 10⟩]) := by decide +kernel

theorem test_decode_lines_and_endpoint :
    decodeRequest o 37 [2, 2, 0, 1, 3, 1] = .request (.configureLine o 2 2 0 1 3 1) ∧
      decodeRequest o 43 [1, 0, 200] = .request (.setNoticeRoute o (some ⟨0, 200⟩)) ∧
      decodeRequest o 43 [0] = .request (.setNoticeRoute o none) ∧ decodeRequest o 43 [2] = .malformed ∧
      decodeRequest o 47 [] = .request (.unknownRequest o 47) := by decide +kernel

/-! ## Worked values of the spec -/

/-- Section 12.2: the check of the nine ASCII digits. -/
theorem test_crc_of_digits : crc [0x31, 0x32, 0x33, 0x34, 0x35, 0x36, 0x37, 0x38, 0x39] = 0xFC891918#32 := by
  decide +kernel

/-- Section 1.4, the worked cases of phase. -/
theorem test_phase_cases :
    Timer.phase { state := .locked, period := 4000000, count := 1234567 } = 888 ∧
      Timer.phase { state := .flywheel, period := 4000200, count := 15625 } = 11 ∧
      Timer.phase { state := .locked, rate := .hz5994, period := 3336667, count := 1668334 } = 1440 ∧
      Timer.phase { state := .locked, rate := .hz5994, period := 3336667, count := 3340000 } = 2879 := by decide +kernel

/-- Section 1.8, row by row: the first expiry, the loss of the reference, and its return. -/
def row (t : Timer) : RefState × Nat × Nat × Nat × Nat := (t.state, t.period, t.count, t.missing, t.frames)

def lost18 : State := run .lostFreeRun (run .flywheelExpiry (run .flywheelExpiry (run .flywheelExpiry
  (run (.referencePulse 4000200) (atFrame 1000 {})))))

theorem test_reference_lost : row lost18.timer = (.lost, 4000200, 0, 3, 1005) := by decide +kernel

theorem test_reference_regained :
    let s := run (.referencePulse 1500000) lost18
    row s.timer = (.locking, 4000200, 0, 0, 1005) ∧
      row (run (.referencePulse 3999900) s).timer = (.locked, 3999900, 0, 0, 1006) := by decide +kernel

/-- R3 and R12: house time is 0 in LOCKING after a reset, and runs by the phase in LOCKING from a second pulse that is a
retime, and after SET HOUSE TIME. -/
theorem test_house_time_in_locking :
    let half : State → State := State.onTimer fun t => { t with count := 2000000 }
    (half (run (.referencePulse 0) State.reset)).houseTime = 0 ∧
      (half (run (.referencePulse 1000000) (run (.referencePulse 0) State.reset))).houseTime = 1440 ∧
      (half (run (.referencePulse 0) (run (.setHouseTime o 1 7) up))).houseTime = 21600 := by decide +kernel

/-- Section 7.3: the mix weight of q = 720 at r = 697 and 698. -/
theorem test_mix_weight : mixWeight 697 720 = 15 ∧ mixWeight 698 720 = 16 := by decide +kernel

/-- R163, the worked samples. -/
theorem test_mix_samples :
    mixSample 11 600 200 = 325 ∧ mixSample 8 64 940 = 502 ∧ mixSample 5 1023 1023 = 1023 ∧
      mixSample 15 512 513 = 513 := by decide +kernel

/-! ## Commands, one small step each -/

theorem test_set_house_time :
    let s := run (.setHouseTime o 2 10) up
    s.timer.period = 3336667 ∧ answer s = some (.ok, be 7 28800) ∧
      answer (run (.setHouseTime o 1 (2 ^ 40)) up) = some (.badArgument, []) ∧
      answer (run (.setHouseTime o 1 0) scene) = some (.inUse, []) := by decide +kernel

theorem test_streams :
    let s := run (.enableStream o 1 18 1 8) (scene.onAllotment 1 fun a => { a with size := 512 })
    (s.stream 1).multiple = 8 ∧ answer s = some (.ok, [0]) ∧
      answer (run (.disableStream o 0) scene) = some (.ok, 1 :: be 6 1100) := by decide +kernel

theorem test_configure_store :
    let s := run (.configureStore o (((Eight.fill (0, 0)).set 1 (512, 64)).set 7 (65024, 100))) up
    answer s = some (.ok, [0, 1, 0, 0, 0, 0, 0, 0, 0, 1, 2, 0]) ∧ (s.allotment 7).cursor = some 512 := by decide +kernel

theorem test_marks :
    let s := run (.markIn o 1 .now) scene
    answer s = some (.ok, be 2 0 ++ [1] ++ be 7 3168000 ++ [1]) ∧
      (run (.markOut o 1 (.explicit 3168001)) s).clip 0 =
        some { group := 1, state := .closing, inPoint := 3168000, outPoint := some 3168001, angles := [0] } ∧
      answer (run (.markSpot o 0 (.explicit 3168000)) scene) =
        some (.ok, be 2 0 ++ [2] ++ be 7 2736000 ++ be 7 3456000 ++ [5]) := by decide +kernel

theorem test_mark_group :
    answer (run (.readMarkGroup o 1) (run (.setMarkGroup o 1 [7, 0] 3000 1 0 1) up)) =
      some (.ok, [2, 7, 0, 11, 184, 0, 1, 0, 0, 1, 0]) := by decide +kernel

theorem test_clip_requests :
    answer (run (.dropClip o 3) scene) = some (.inUse, []) ∧ answer (run (.dropClip o 4) scene) = some (.notFound, []) ∧
      answer (run (.listClips o 0 16) scene) =
        some (.ok, [0, 1, 0, 0, 1] ++ ([0, 3, 0, 3] ++ be 7 2880000 ++ [1] ++ be 7 3024000 ++ [1, 0, 1, 0, 0])) ∧
      ((run (.setClipLabel o 3 [65]) scene).clip 3).bind Clip.label = some [65] := by decide +kernel

theorem test_latch :
    let s := run (.linePinChange 2 true) (scene.onLine 2 fun l => { l with function := .mark, markGroup := 1 })
    (s.latch 2).captured = some 3168000 ∧ notes s = [.lineEdge 2 .mark none (some 1), .markCaptured 2 1 3168000] ∧
      ((run (.takeLatch o 2 4 0) s).latch 2).captured = none := by decide +kernel

/-- A clip of one key whose slot is still whole. -/
def scene100 : State :=
  { scene with clips := [(4, { clip3 with inPoint := 3168000, outPoint := some 3168000 })] }

theorem test_protect_and_release :
    let s := run .protectLookupServed (run (.protectClip o 4) scene100)
    (s.clip 4).map Clip.state = some .protected_ ∧ (s.store.slot 9).holds = 1 ∧
      answer (run (.releaseClip o 4) s) = some (.ok, be 4 1) ∧
      ((run (.releaseClip o 4) s).store.slot 9).holds = 0 := by decide +kernel

theorem test_bind_and_play :
    let s := run (.bindChannel o 2 (.clip 3 0 5000)) (run (.configureChannel o 2 args0) scene)
    answer s = some (.ok, be 7 2885000 ++ [0]) ∧
      ((run (.play o 2 (-5000) 1) s).channel 2).speed = -3072 ∧
      answer (run (.play o 2 0 0) up) = some (.refusedState, []) := by decide +kernel

theorem test_stop_in_break :
    ((run (.stop o 0 0) (scene.onChannel 0 fun c => { c with state := .inBreak, speed := 96, target := 96 })).channel 0).speed =
      0 := by decide +kernel

theorem test_position_requests :
    answer (run (.jog o 0 2) scene) = some (.ok, be 7 2885760) ∧
      answer (run (.seek o 0 (.relative 4294967295)) scene) = some (.ok, be 7 3024000) ∧
      answer (run (.angle o 0 1) scene) = some (.badArgument, []) ∧
      answer (run (.shuttle o 0 4000) scene) = some (.ok, be 2 3072) := by decide +kernel

theorem test_halt_and_reset_channel :
    let s := run (.halt o 1) scene
    (s.channel 1).level = 3 ∧ ((run (.resetChannel o 1) s).channel 1).state = .idle ∧
      (run (.resetChannel o 0) scene).clip 3 = some clip3 := by decide +kernel

theorem test_cues :
    let s := run (.stageCues o 31 [⟨0, 1, 0, .stop⟩, ⟨5, 1, 0, .note 9⟩]) up
    answer s = some (.ok, [1, 1, 31]) ∧ s.cues.staging.getLast? = some (some ⟨5, 1, 0, .note 9⟩) ∧
      notes (run .cueCommitComplete (run (.commitCuePage o 15) s)) = [.commitDone 15 none 1] := by decide +kernel

/-- R119: an AT_LIVE notice carries p after a JUMP of the same step. -/
theorem test_notice_after_jump :
    let s := (scene.onChannel 1 fun c =>
      { c with position := 3167000, speed := 96, target := 96, cueBinding := some ⟨0, 1⟩, scanner := ⟨.active, 0, none, false⟩ }).onCues
      fun m => { m with pages := [[⟨287500, 1, 0, .jump 1000⟩]] }
    notes (motion 1 3170880 s) = [.atLive 1 0 2881000] ∧ ((motion 1 3170880 s).channel 1).stack = [⟨288000, 1⟩] := by
  decide +kernel

theorem test_breaks :
    let s := scene.onChannel 1 fun c => { c with breakAnnounced := true }
    answer (run (.requestBreak o 1) s) = some (.ok, [1, 1]) ∧ answer (run (.continue_ o 1) s) = some (.ok, [2, 0, 0]) ∧
      answer (run (.continue_ o 0) s) = some (.ok, [3, 0, 0]) := by decide +kernel

/-- R140, R147: a wrap that lowers p flags a FAULTED scanner; an ENDED one is reset and its flag cleared. -/
theorem test_wrap_flags_scanner :
    let ended : ScannerState → Channel := fun st =>
      (run (.continue_ o 0) (scene.onChannel 0 fun c =>
        { c with state := .inBreak, position := 3024000, scanner := ⟨st, 5, some 2880, false⟩ })).channel 0
    (ended .faulted).position = 2880000 ∧ (ended .faulted).scanner = ⟨.faulted, 0, none, true⟩ ∧
      (ended .ended).scanner.reseek = false := by decide +kernel

theorem test_lines :
    let s := run (.pulseLines o 0x84 0) (up.onLine 7 fun l => { l with function := .output })
    answer s = some (.ok, [2, 2, 2, 2, 2, 2, 2, 1]) ∧ (s.line 7).pulseTimer = 1 ∧
      (run (.pulseEnd 7) (atFrame 1 s)).line 7 = { function := .output } ∧ run (.pulseEnd 7) s = s := by decide +kernel

theorem test_counters :
    let s := scene.onChannel 1 fun c => { c with source := .shuttle, target := 48, holdOff := 1 }
    let t := run (.shuttleLapse 1) s
    ((t.channel 1).target = 0 ∧ NoticeBody.shuttleLapse 1 0 ∈ notes t ∧ t.timer.frames = 1101) ∧
      run (.shuttleLapse 1) { s with timer := {} } = { s with timer := {} } ∧
      ((run (.holdCountExpiry 1) (scene.onChannel 1 fun c => { c with hold := 1, target := 9 })).channel 1).speed = 8 := by
  decide +kernel

/-- A request packet for this endpoint, from endpoint 5. -/
def packet (kind dest route : Nat) (payload : List Byte) : Packet := ⟨kind, dest, 5, route, 1100, 0, 0, payload⟩

theorem test_request_by_packet :
    let s := run (.packetReceive 0 (packet 2 224 0 [0, 7, 44]).bytes) up
    (s.port 0).control = [⟨5, [0, 7, 44]⟩] ∧ answer (after (step s)) = answer (run (.readStatus o) up) ∧
      ((after (step s)).port 0).control = [] := by decide +kernel

theorem test_packet_with_bad_check :
    ((run (.packetReceive 1 ((packet 2 224 0 [0, 7, 44]).bytes.set 3 1)) up).port 1).badCheck = 1 := by decide +kernel

theorem test_links :
    let s := run (.linkDown 1) scene
    (s.channel 1).state = .halted .linkDown ∧ (s.channel 0).state = .cued ∧ (run (.linkUp 1) s).port 1 = { up := true } := by
  decide +kernel

theorem test_transmitter :
    let s := run (.transmitChoose 0) (run (.clearStaging o) up)
    (s.port 0).sending.bind readPacket = some ⟨3, 5, 224, 0, 0, 0, 0, [0, 7, 30, 1]⟩ ∧
      ((run (.transmitEnd 0) s).port 0).sending = none := by decide +kernel

theorem test_endpoint_requests :
    answer (run (.setNoticeRoute o (some ⟨1, 254⟩)) up) = some (.ok, [255, 1, 1, 254]) ∧
      answer (run (.setNoticeRoute o (some ⟨1, 255⟩)) up) = some (.badArgument, []) ∧
      answer (run (.unknownRequest o 47) up) = some (.unknownRequest, []) ∧
      ((run (.clearStatus o) (up.onPort 1 fun p => { p with badCheck := 3 })).port 1).badCheck = 0 := by decide +kernel

theorem test_resets :
    (run (.lineReset true true) scene).endpoint.id = 227 ∧
      (let s := run (.transmitEnd 0) (run (.transmitChoose 0) (run (.resetPart o) scene))
       s.clips = [] ∧ (s.port 0).up = true) ∧
      ((run .resetNHeldLow scene).port 0).up = false := by decide +kernel

theorem test_fetch_completion :
    let s := run (.flywheelExpiry) scene
    s.store.service = some (.fetch 1 9 5 .earlier true false) ∧
      ((run (.fetchCompletion true) s).channel 1).warnings.storeError = true := by decide +kernel

theorem test_no_word_spells_a_command : (State.reset.withFetchWord 16 0x1234) = State.reset := rfl

/-! ## Hypotheses met: for each statement that has some, a state and operands, clause by clause at its limits -/

/-- SetHouseTime, ListClips, HaltResetClear, StagingAndBindCues (BIND CUES), LineRequests and EndpointRequests ask of the
state only that the request can be taken. -/
theorem witness_can_take : up.canTake 0 = true ∧ scene.canTake 0 = true ∧ scene.canTake 1 = true := by decide +kernel

def offering : State := up.onPort 0 fun p => { p with control := [⟨5, [0, 7, 44]⟩] }

def bothOffer : State := offering.onPort 1 fun p => { p with control := [⟨6, [0, 8, 44]⟩] }

theorem witness_step_runs_front_command :
    (scene.withCommand .flywheelExpiry).pending = [.flywheelExpiry] ∧
      (bothOffer.pending = [] ∧ bothOffer.offers 0 = true ∧ bothOffer.offers (otherLink 0) = true ∧
        bothOffer.endpoint.lastServed ≠ 0) ∧
      (up.pending = [] ∧ (∀ l, up.offers l = false) ∧ up.timer.state = .unlocked) ∧
      ∀ n, n = 4015624 ∨ n = 4015625 →
        let s := (atFrame 9 up).onTimer fun t => { t with count := n }
        s.pending = [] ∧ (∀ l, s.offers l = false) ∧ s.timer.state ≠ .unlocked ∧
          (s.timer.count < s.timer.due ∨ s.timer.due ≤ s.timer.count) := by
  refine ⟨by decide +kernel, by decide +kernel, by decide +kernel, ?_⟩
  rintro n (rfl | rfl) <;> decide +kernel

theorem witness_requests_answered_once :
    (Instr.readStatus o).wf = true ∧ encodeRequest (.readStatus o) = some (o, 44, []) ∧
      (offering.port 0).control = ⟨5, be 2 7 ++ be 1 44 ++ [] ++ []⟩ :: [] ∧ State.reset.canTake 0 = false ∧
      (up.onPort 0 fun p => { p with replies := List.replicate 8 ⟨5, 0, 1, .ok, []⟩ }).canTake 0 = false ∧
      (up.onPort 0 fun p => { p with replies := List.replicate 7 ⟨5, 0, 1, .ok, []⟩ }).canTake 0 = true := by
  decide +kernel

/-- RequestsAnsweredOnce: arguments too short, malformed arguments, and a payload without a kind. -/
theorem witness_malformed_requests :
    (∀ l, up.canTake l = true) ∧ (7 < 65536 ∧ 11 < 256 ∧ 5 < 256) ∧ ([0, 7] : List Byte).length < 3 ∧
      (∀ i full extra, i.wf = true → encodeRequest i = some (o, 11, full) → [9] ≠ full ++ extra) ∧
      ∀ i full extra, i.wf = true → encodeRequest i = some (o, 7, full) → [0, 3] ≠ full ++ extra := by
  refine ⟨by decide +kernel, by decide, by decide, fun i full extra hw he => ?_, fun i full extra hw he => ?_⟩
  · cases i <;> simp [encodeRequest] at he
    · obtain ⟨-, rfl⟩ := he
      simp [be]
    · obtain ⟨-, rfl, -⟩ := he
      simp [Instr.wf] at hw
  · cases i <;> simp [encodeRequest] at he
    · obtain ⟨-, rfl⟩ := he
      rename_i t
      cases t <;> simp [timeBytes, be]
    · obtain ⟨-, rfl, -⟩ := he
      simp [Instr.wf] at hw

theorem witness_request_round_trip :
    (Instr.setHouseTime ⟨1, 255, 65535⟩ 255 (256 ^ 5 - 1)).wf = true ∧
      encodeRequest (.setHouseTime ⟨1, 255, 65535⟩ 255 (256 ^ 5 - 1)) =
        some (⟨1, 255, 65535⟩, 1, [255, 255, 255, 255, 255, 255]) ∧
      (Instr.play o 3 (-32768) 255).wf = true ∧
      encodeRequest (.play o 3 (-32768) 255) = some (o, 19, [3, 128, 0, 255]) := by decide +kernel

theorem witness_packet_round_trip :
    let p : Packet := ⟨255, 255, 255, 255, 256 ^ 5 - 1, 255, 255, List.replicate 65535 0⟩
    p.kind < 256 ∧ p.destination < 256 ∧ p.source < 256 ∧ p.route < 256 ∧ p.frame < 256 ^ 5 ∧ p.sub < 256 ∧
      p.band < 256 ∧ p.payload.length < 65536 := by
  simp only [List.length_replicate]
  decide +kernel

/-! ### Invariants -/

theorem witness_queues_bounded :
    QueuesBounded (scene.withCommand (.transmitEnd 0)) ∧ ∃ t, step (scene.withCommand (.transmitEnd 0)) = .next t := by
  refine ⟨?_, _, rfl⟩
  unfold QueuesBounded Link.bounded Endpoint.bounded
  refine ⟨by decide +kernel, by decide +kernel, ?_⟩
  intro h
  exact absurd h (by decide +kernel)

theorem witness_tables_canonical :
    TablesCanonical (scene.withCommand (.transmitEnd 0)) ∧ ∃ t, step (scene.withCommand (.transmitEnd 0)) = .next t := by
  refine ⟨?_, _, rfl⟩
  unfold TablesCanonical
  decide +kernel

theorem witness_levels_settled :
    LevelsSettled (scene.withCommand (.transmitEnd 0)) ∧ ∃ t, step (scene.withCommand (.transmitEnd 0)) = .next t := by
  refine ⟨?_, _, rfl⟩
  unfold LevelsSettled
  decide +kernel

theorem witness_channels_in_range :
    ChannelsInRange (scene.withCommand (.transmitEnd 0)) ∧ ∃ t, step (scene.withCommand (.transmitEnd 0)) = .next t := by
  refine ⟨?_, _, rfl⟩
  unfold ChannelsInRange Channel.inRange ChannelConfig.inRange
  decide +kernel

theorem witness_timer_lawful :
    TimerLawful (scene.withCommand (.transmitEnd 0)) ∧ ∃ t, step (scene.withCommand (.transmitEnd 0)) = .next t := by
  refine ⟨⟨rfl, ?_⟩, _, rfl⟩
  decide +kernel

theorem witness_reads_bounded :
    ReadsBounded (run (.protectClip o 4) scene100) ∧ (run (.protectClip o 4) scene100).store.lookupsInFlight = 1 ∧
      ∃ t, step (run (.protectClip o 4) scene100) = .next t := by
  refine ⟨?_, by decide +kernel, _, rfl⟩
  unfold ReadsBounded
  decide +kernel

theorem witness_streams_budgeted : StreamsBudgeted scene ∧ ∃ t, step scene = .next t := by
  refine ⟨?_, _, rfl⟩
  unfold StreamsBudgeted
  decide +kernel

/-- Slot 9 alone is listed in `scene`, with no hold. -/
theorem witness_holds_and_ids : HoldsAndIdsBounded scene ∧ ∃ t, step scene = .next t := by
  refine ⟨⟨fun x => ?_, by decide +kernel⟩, _, rfl⟩
  have h : scene.store.slot x = if 9 = x then { occupant := .full 1100, holds := 0, generation := 5 } else {} := by
    show (Table.find [(9, _)] x).getD blankSlot = _
    simp only [Table.find]
    split <;> simp_all [blankSlot]
  rw [h]
  split <;> decide

theorem witness_counters_bounded :
    CountersBounded (scene.withCommand (.transmitEnd 0)) ∧ ∃ t, step (scene.withCommand (.transmitEnd 0)) = .next t := by
  refine ⟨?_, _, rfl⟩
  unfold CountersBounded
  decide +kernel

/-- The one clip of `scene`. -/
theorem scene_clip {id : Nat} {c : Clip} (h : scene.clip id = some c) : id = 3 ∧ c = { clip3 with useCount := 1 } := by
  have hc : scene.clip id = if 3 = id then some { clip3 with useCount := 1 } else none := by
    rfl
  rw [hc] at h
  split at h
  · exact ⟨by omega, (Option.some.inj h).symm⟩
  · cases h

theorem witness_routes_up : RoutesUp scene ∧ ∃ t, step scene = .next t := by
  refine ⟨?_, _, rfl⟩
  intro ch hp
  have h : (scene.channel ch).config.route = some ⟨0, 9⟩ ∨ (scene.channel ch).config.route = some ⟨1, 9⟩ := by
    revert ch
    decide +kernel
  rcases h with h | h
  · exact ⟨_, h, rfl⟩
  · exact ⟨_, h, rfl⟩

theorem witness_use_counts : UseCountsMatch scene ∧ ∃ t, step scene = .next t := by
  refine ⟨⟨by decide +kernel, ?_, ?_⟩, _, rfl⟩
  · intro ch id h
    have h' : id = 3 := by
      fin_cases ch <;> cases h
      rfl
    rw [h']
    decide +kernel
  · intro id c h
    obtain ⟨rfl, rfl⟩ := scene_clip h
    decide +kernel

theorem owner_of_range {x : Nat} (h : x < 512) : scene.store.owner x = some 0 := by
  have e : ((scene.store.allotments.get 0).owns x) = true := by
    show decide (0 ≤ x ∧ x < 0 + 512) = true
    simp [h]
  simp only [Store.owner, allEight, List.find?, e]

theorem witness_store_sound : StoreSound scene := by
  refine ⟨by decide +kernel, ?_, by decide +kernel⟩
  intro i
  by_cases h : i = 0
  · subst h
    refine ⟨by decide +kernel, by decide +kernel, fun _ => ⟨by decide +kernel, 0, 10, rfl, rfl, by decide, by decide⟩, ?_⟩
    intro x hx
    have hx' : decide (0 ≤ x ∧ x < 0 + 512) = true := hx
    exact owner_of_range (by simpa using hx')
  · have e : scene.store.allotments.get i = {} := by
      revert i
      decide +kernel
    have e' : scene.store.heldSlots i = 0 := by
      revert i
      decide +kernel
    refine ⟨by simp [e, e'], by simp [e], by simp [e], fun x hx => ?_⟩
    simp [e, Allotment.owns] at hx

/-! ### Timer and Recorder -/

theorem witness_reference_pulse :
    up.timer.state = .unlocked ∧
      (∀ c, c = 3984375 ∨ c = 4015625 →
        let t := (atFrame 9 up).timer
        t.count ≤ c ∧ c ≤ t.period + 15625 ∧ t.period ≤ c + 15625 ∧ t.state = .locked) ∧
      (let t := (atFrame 9 up).timer
       t.count ≤ 3984374 ∧ 3984374 + 15625 < t.period ∧ t.state = .locked) ∧
      (let t : Timer := { state := .locking }
       t.count ≤ 3984374 ∧ t.state = .locking ∧ 3984374 + 15625 < t.period) ∧
      let t : Timer := { state := .lost, missing := 3, count := 4000000 }
      t.count ≤ 4000000 ∧ t.state = .lost ∧ 4000000 ≤ t.period := by
  refine ⟨by decide +kernel, ?_, by decide +kernel, by decide +kernel, by decide +kernel⟩
  rintro c (rfl | rfl) <;> decide +kernel

theorem witness_stream_requests :
    scene.canTake 0 = true ∧ (8 ≤ 8 ∧ 2 ≤ 2 ∧ 255 < 256 ∧ 5 ∉ [1, 2, 3, 4, 6, 8]) ∧
      (255 ≤ 255 ∧ 8 ∈ [1, 2, 3, 4, 6, 8]) := by decide +kernel

def waiting (n : Nat) : State := scene.onPort 0 fun q => { q with control := List.replicate n ⟨5, []⟩ }

theorem witness_packet_outcomes :
    (State.reset.port 0).up = false ∧ ((scene.port 0).up = true ∧ readPacket (List.replicate 16 0) = none) ∧
      (let p := packet 1 224 99 []
       readPacket p.bytes = some p ∧ p.destination = scene.endpoint.id ∧ p.kind = 1 ∧ ∀ i, ¬scene.takes 0 p i) ∧
      (let p := packet 3 224 0 []
       readPacket p.bytes = some p ∧ p.destination = scene.endpoint.id ∧ p.kind ≠ 1 ∧ p.kind ≠ 2) ∧
      (let p := packet 2 224 0 [255, 255, 255]
       readPacket p.bytes = some p ∧ p.destination = scene.endpoint.id ∧ p.kind = 2 ∧
         ((waiting 3).port 0).control.length < 4 ∧ 4 ≤ ((waiting 4).port 0).control.length ∧ 65535 < 65536 ∧ 255 < 256 ∧
         p.payload = be 2 65535 ++ be 1 255 ++ []) ∧
      (let p := packet 1 255 99 []
       readPacket p.bytes = some p ∧ p.destination ≠ scene.endpoint.id ∧ ∀ i, ¬scene.takes 0 p i) ∧
      let p := packet 1 255 17 []
      readPacket p.bytes = some p ∧ p.destination ≠ scene.endpoint.id ∧ p.destination = 255 ∧ p.kind = 1 ∧
        scene.takes 0 p 0 := by
  unfold State.takes
  decide +kernel

/-- A BAND packet for stream 0 of `scene`. -/
def bandOf (frame band : Nat) (payload : List Byte) : Packet := ⟨1, 224, 5, 17, frame, 0, band, payload⟩

def picture : List Byte := List.replicate 38400 0

theorem picture_length : picture.length = 38400 := List.length_replicate

/-- A packet with a whole band of picture is read back. -/
theorem band_reads {f b : Nat} (hf : f < 256 ^ 5) (hb : b < 256) :
    readPacket (bandOf f b picture).bytes = some (bandOf f b picture) := by
  obtain ⟨p, hp⟩ : ∃ p, p = picture := ⟨_, rfl⟩
  have hl : p.length = 38400 := by rw [hp]; exact picture_length
  rw [← hp]
  clear hp
  have hh : (bandOf f b p).body = be 1 1 ++ be 1 224 ++ be 1 5 ++ be 1 17 ++ be 5 f ++ be 1 0 ++ be 1 b ++ be 2 38400 ++ p := by
    simp only [bandOf, Packet.body, hl]
  have hc : (crc (bandOf f b p).body).toNat < 256 ^ 4 := (crc _).isLt
  have h5 := ofBE_be (n := 5) hf
  have h1 := ofBE_be (n := 1) (x := b) (by omega)
  unfold readPacket Packet.bytes
  generalize hcr : crc (bandOf f b p).body = c at *
  simp only [List.length_append, be_length, Nat.add_sub_cancel, List.take_left, List.drop_left, ofBE_be hc]
  rw [hh]
  simp [be, hl, ofBE] at h5 h1 ⊢
  simp [h5, h1, bandOf]
  rw [← hcr, hh]
  simp [be]

/-- A stream of `scene` with a frame in assembly. -/
def assembling (a : Assembly) : State := scene.onStream 0 fun r => { r with assembly := some a }

/-- What `State.delivered` asks of a whole band of stream 0 of `scene`, but for its frame number and band. -/
theorem delivered_of {s : State} {f b : Nat} (hf : f < 256 ^ 5) (hb : b < 256) (ht : s.timer = scene.timer)
    (hl : (s.port 0).up = true) (hi : s.endpoint.id = 224) (he : (s.stream 0).enabled = true)
    (hs : (s.stream 0).source = 17) (hk : (s.stream 0).link = 0) (hm : (s.stream 0).multiple = 1) (h1 : f ≤ 1104)
    (h2 : 1096 ≤ f) : s.delivered 0 (bandOf f b picture).bytes 0 (bandOf f b picture) := by
  have hfr : scene.timer.frames = 1100 := rfl
  refine ⟨⟨hl, band_reads hf hb, hi.symm, rfl, he, hs, hk, fun n hn => absurd hn (by omega)⟩, ?_, ?_, ?_, ?_⟩
  · rw [ht]; decide
  · show f ≤ s.timer.frames + 4
    rw [ht]; omega
  · show s.timer.frames ≤ f + 4
    rw [ht]; omega
  · show 0 < (s.stream 0).multiple
    omega

theorem witness_band_zero :
    (∀ f, f = 1100 ∨ f = 1101 →
      scene.delivered 0 (bandOf f 0 picture).bytes 0 (bandOf f 0 picture) ∧ (bandOf f 0 picture).band = 0 ∧
        (bandOf f 0 picture).payload.length = 38400) ∧
      ((scene.stream 0).lastKey = some 1100 ∧ scene.bandKey 0 (bandOf 1100 0 picture) ≤ 1100) ∧
      (1100 < scene.bandKey 0 (bandOf 1101 0 picture) ∧ ∃ x, claim 0 1101 scene = some x) := by
  refine ⟨?_, ⟨rfl, by decide +kernel⟩, by decide +kernel, ?_⟩
  · rintro f (rfl | rfl) <;>
      exact ⟨delivered_of (by norm_num) (by norm_num) rfl rfl rfl rfl rfl rfl rfl (by norm_num) (by norm_num), rfl,
        picture_length⟩
  · exact Option.isSome_iff_exists.mp (by decide +kernel)

theorem witness_later_band :
    (let p := bandOf 1105 1 []
     scene.delivers 0 p.bytes 0 p ∧ ¬scene.delivered 0 p.bytes 0 p) ∧
      (∀ b, b = 1 ∨ b = 134 →
        let s := assembling ⟨1101, 20, b⟩
        let p := bandOf 1101 b picture
        s.delivers 0 p.bytes 0 p ∧ s.delivered 0 p.bytes 0 p ∧ (s.stream 0).assembly = some ⟨1101, 20, b⟩ ∧ p.band ≠ 0 ∧
          p.band ≤ 134 ∧ 1101 = s.bandKey 0 p ∧ p.payload.length = 38400) ∧
      (let p := bandOf 1104 135 []
       (assembling ⟨1101, 20, 1⟩).delivered 0 p.bytes 0 p ∧ p.payload.length ≠ 38400 ∧ p.band ≠ 0 ∧ 134 < p.band) ∧
      let p := bandOf 1096 1 []
      scene.delivered 0 p.bytes 0 p ∧ (scene.stream 0).assembly = none ∧ p.band ≠ 0 := by
  refine ⟨?_, ?_, ?_, ?_⟩
  · unfold State.delivered State.delivers State.takes
    decide +kernel
  · rintro b (rfl | rfl) <;> intro s p <;>
      · have h : s.delivered 0 p.bytes 0 p :=
          delivered_of (by norm_num) (by norm_num) rfl rfl rfl rfl rfl rfl rfl (by norm_num) (by norm_num)
        refine ⟨h.1, h, rfl, by decide, by decide, by decide +kernel, picture_length⟩
  · unfold State.delivered State.delivers State.takes
    decide +kernel
  · unfold State.delivered State.delivers State.takes
    decide +kernel

/-! ### Frame Store and Protect Engine -/

theorem witness_claim :
    let s := (scene.onAllotment 0 fun a => { a with cursor := some 511 }).onStore (Store.setSlot 511 { holds := 15 })
    (s.allotment 0).first = some 0 ∧ (s.allotment 0).cursor = some 511 ∧ 0 ≤ 511 ∧ 511 < 0 + (s.allotment 0).size ∧
      1 < (s.allotment 0).size ∧ (∀ m < 1, (s.store.slot (0 + (511 - 0 + m) % (s.allotment 0).size)).holds ≠ 0) ∧
      (s.store.slot (0 + (511 - 0 + 1) % (s.allotment 0).size)).holds = 0 := by decide +kernel

theorem witness_lookups :
    (scene.store.lookup 0 1099 = none ∧ scene.store.lookup 0 1100 = some (9, 5)) ∧ (scene.stream 1).lastKey = none ∧
      ∀ n, n = 0 ∨ n = 512 →
        let s := scene.onAllotment 0 fun a => { a with held := n }
        (s.stream 0).lastKey = some 1100 ∧ (s.stream 0).originKey = some 1000 ∧ (s.allotment 0).held ≤ (s.allotment 0).size := by
  refine ⟨by decide +kernel, by decide +kernel, ?_⟩
  rintro n (rfl | rfl) <;> decide +kernel

/-- BoundaryLeavesTheRest: a table in its form, with a clip and without one. -/
theorem witness_boundary : scene.clips.wf ∧ scene.clip 4 = none ∧ scene.clip 3 = some { clip3 with useCount := 1 } := by
  decide +kernel

/-- An allotment and floor for stream 0 alone. -/
def only (d f : Nat) : Eight (Nat × Nat) := (Eight.fill (0, 0)).set 0 (d, f)

theorem witness_configure_store :
    (up.canTake 0 = true ∧ scene.canTake 0 = true) ∧
      ((only 511 64).get 0).1 < 512 ∧ ((only 65537 64).get 0).1 > 65536 ∧ ((only 513 64).get 0).1 % 256 ≠ 0 ∧
      (65536 < ∑ i : Fin 8, (((only 65536 64).set 7 (512, 64)).get i).1) ∧ ((only 512 63).get 0).2 < 64 ∧
      ((only 512 257).get 0).1 / 2 < ((only 512 257).get 0).2 ∧
      (∀ p, p = only 512 64 ∨ p = only 65536 32768 →
        (∀ i, (p.get i).1 = 0 ∨ 512 ≤ (p.get i).1 ∧ (p.get i).1 % 256 = 0 ∧ 64 ≤ (p.get i).2 ∧
          (p.get i).2 ≤ (p.get i).1 / 2) ∧ ∑ i : Fin 8, (p.get i).1 ≤ 65536) ∧
      (∃ i, (scene.stream i).enabled = true) ∧
      ((∀ i, (up.stream i).enabled = false) ∧
        (∀ e ∈ up.clips, e.2.state ≠ .protecting ∧ e.2.state ≠ .protected_) ∧ ∀ ch, (up.channel ch).state = .idle) := by
  refine ⟨by decide +kernel, by decide +kernel, by decide +kernel, by decide +kernel, by decide +kernel, by decide +kernel,
    by decide +kernel, ?_, by decide +kernel, by decide +kernel⟩
  rintro p (rfl | rfl) <;> decide +kernel

/-- `scene` after a boundary, with the fetch of channel 1 in service. -/
def fetching : State := scene.onStore fun st => { st with service := some (.fetch 1 9 5 .earlier true false) }

theorem witness_fetch_completion :
    scene.store.service = none ∧ fetching.store.service = some (.fetch 1 9 5 .earlier true false) ∧
      ∀ a b : Option Bands,
        let c : Channel := { mixer := { prepared := some { kind := .blend 15, fetches := 2, earlier := a, later := b } } }
        ∃ p, c.mixer.prepared = some p ∧ p.kind = .blend 15 ∧ p.earlier = a ∧ p.later = b := by
  refine ⟨rfl, rfl, fun a b => ⟨_, rfl, rfl, rfl, rfl⟩⟩

/-- The walk of clip 4 of `scene100`, with its one lookup in service. -/
def walking : State := run (.protectClip o 4) scene100

/-- Clip 4 while its walk runs. -/
def protectingClip : Clip :=
  { group := 0, state := .protecting, inPoint := 3168000, outPoint := some 3168000, angles := [0]
    protection := some { extents := [[]] } }

/-- Clip 4 after its walk. -/
def protectedClip : Clip :=
  { protectingClip with state := .protected_, protection := some { extents := [[⟨1100, 1, 9⟩]] } }

def noService (s : State) : State := s.onStore fun st => { st with service := none }

theorem witness_protect_lookup :
    walking.store.service = some (.lookup 0 1100) ∧ walking.engine.walk = some ⟨4, 0, 1100, 1100, 0, [2880]⟩ ∧
      walking.engine.withdrawn = false ∧
      walking.clip 4 = some protectingClip ∧ protectingClip.protection = some { extents := [[]] } ∧
      (takeHold 0 1100 (noService walking)).1 = .held 9 ∧
      (takeHold 0 1100 ((noService walking).onStore (Store.setSlot 9 {}))).1 = .absent ∧
      (takeHold 0 1100 ((noService walking).onStore (Store.setSlot 9
        { occupant := .full 1100, holds := 15, generation := 5 }))).1 = .holdLimit ∧
      (takeHold 0 1100 ((noService walking).onAllotment 0 fun a => { a with held := 448 })).1 = .floor := by
  decide +kernel

/-- `walking` with an extent list of clip 4 already filled. -/
def walkingWith (l : List Extent) : State :=
  walking.onClip 4 fun c => { c with protection := some { extents := [l] } }

/-- Extents of one key each, none beside another. -/
def apart (n : Nat) : List Extent := (List.range n).map fun k => ⟨2 * k, 1, 100 + 2 * k⟩

/-- ProtectLookupServed: an extent that grows, a 32nd extent, and a 33rd. -/
theorem witness_protect_extents :
    (∀ l, l = [⟨1099, 1, 8⟩] ∨ l = apart 31 ∨ l = apart 32 →
      let s := walkingWith l
      let c : Clip := { protectingClip with protection := some { extents := [l] } }
      s.store.service = some (.lookup 0 1100) ∧ s.engine.walk = some ⟨4, 0, 1100, 1100, 0, [2880]⟩ ∧
        s.engine.withdrawn = false ∧ s.clip 4 = some c ∧ (takeHold 0 1100 (noService s)).1 = .held 9) ∧
      (1100 = 1099 + 1 ∧ 9 = 8 + 1) ∧ (apart 31).length < 32 ∧ ¬(apart 32).length < 32 := by
  refine ⟨?_, by decide, by decide, by decide⟩
  rintro l (rfl | rfl | rfl) <;> decide +kernel

theorem witness_walk :
    let c : Clip := { clip3 with inPoint := 1, outPoint := some 2, angles := [0, 1, 2] }
    let s := { scene with clips := [(3, c)] }
    let lo : Nat → Nat → Nat := fun q _ => (c.inPoint + q - 1) / q
    let hi : Nat → Nat → Nat := fun q _ => c.outPoint.getD c.inPoint / q
    let w : Walk := ⟨3, 0, 1, 2, 0, [1, 2880, 1]⟩
    s.clip 3 = some c ∧ w.nextKey < w.lastKey ∧
      (2 ≤ 2 ∧ w.angle < 2 ∧ 2 < w.periods.length ∧ lo (w.periods.getD 2 0) 2 ≤ hi (w.periods.getD 2 0) 2 ∧
        ∀ n < 2, w.angle < n → hi (w.periods.getD n 0) n < lo (w.periods.getD n 0) n) ∧
      ∀ n < 2, w.angle < n → hi ([1, 2880].getD n 0) n < lo ([1, 2880].getD n 0) n := by decide +kernel

/-- The state after a release of clip 4 while its lookup was in service. -/
def released : State := run (.releaseClip o 4) walking

/-- A second walk of clip 4, its lookup deferred behind the withdrawn one. -/
def deferred : State := run (.protectClip o 4) released

theorem witness_withdrawn_lookup :
    scene.engine.withdrawn = false ∧
      (released.engine.withdrawn = true ∧ released.store.service = some (.lookup 0 1100) ∧
        released.engine.lookup ≠ .deferred) ∧
      deferred.engine.withdrawn = true ∧ deferred.store.service = some (.lookup 0 1100) ∧
      deferred.engine.lookup = .deferred ∧ deferred.engine.walk = some ⟨4, 0, 1100, 1100, 0, [2880]⟩ ∧
      (deferred.clip 4).isSome = true := by decide +kernel

theorem witness_protect_clip :
    scene100.canTake 0 = true ∧ scene100.clip 511 = none ∧ 511 < 512 ∧
      scene100.clip 4 = some { clip3 with inPoint := 3168000, outPoint := some 3168000 } ∧ clip3.state = .closed ∧
      scene100.engine.walk = none ∧ walking.engine.walk ≠ none ∧ walking.canTake 0 = true ∧
      ({ clip3 with state := .opened } : Clip).state ≠ .closed ∧
      (0 < clip3.angles.length ∧ (3168000 + scene100.period 0 - 1) / scene100.period 0 ≤ 3168000 / scene100.period 0) ∧
      ∀ n < 1, 2 / scene.period 0 < (1 + scene.period 0 - 1) / scene.period n := by decide +kernel

/-- Clip 4 of `scene100` PROTECTED. -/
def protectedScene : State := run .protectLookupServed walking

theorem witness_release_clip :
    (protectedScene.canTake 0 = true ∧ walking.canTake 0 = true ∧ scene.canTake 0 = true) ∧ scene.clip 511 = none ∧
      scene.clip 3 = some { clip3 with useCount := 1 } ∧ clip3.state ≠ .protecting ∧ clip3.state ≠ .protected_ ∧
      (let c := { protectedClip with useCount := 1 }
       (protectedScene.onClip 4 fun _ => c).clip 4 = some c ∧ c.useCount ≠ 0) ∧
      (protectedScene.clip 4 = some protectedClip ∧ protectedClip.useCount = 0) ∧
      walking.clip 4 = some protectingClip ∧ protectingClip.useCount = 0 ∧
      walking.engine.walk = some ⟨4, 0, 1100, 1100, 0, [2880]⟩ := by decide +kernel

/-- The one clip of `protectedScene`. -/
theorem protectedScene_clip {id : Nat} {c : Clip} (h : protectedScene.clip id = some c) : id = 4 ∧ c = protectedClip := by
  have e : protectedScene.clips = [(4, protectedClip)] := by decide +kernel
  have hc : protectedScene.clip id = if 4 = id then some protectedClip else none := by
    rw [State.clip, e]
    rfl
  rw [hc] at h
  split at h
  · exact ⟨by omega, (Option.some.inj h).symm⟩
  · cases h

theorem witness_hold_counts : HoldsMatchClips protectedScene ∧ ∃ t, step protectedScene = .next t := by
  have e : protectedScene.clips = [(4, protectedClip)] := by decide +kernel
  have es : protectedScene.store.slots = [(9, { occupant := .full 1100, holds := 1, generation := 5 })] := by decide +kernel
  refine ⟨⟨by decide +kernel, ⟨?_, ?_⟩, ?_, ?_⟩, _, rfl⟩
  · have hg : ∀ g, (protectedScene.group g).openClip = none := by decide +kernel
    intro g id h
    rw [hg] at h
    cases h
  · intro id c h
    obtain ⟨rfl, rfl⟩ := protectedScene_clip h
    decide
  · have hw : protectedScene.engine.walk = none := by decide +kernel
    intro w h
    rw [hw] at h
    cases h
  · intro x
    have hs : protectedClip.heldSlots = [9] := by decide +kernel
    rw [Store.slot, es, e]
    by_cases hx : 9 = x
    · simp [Table.find, hx, hs]
    · simp [Table.find, hx, hs, blankSlot]

theorem witness_positions :
    UseCountsMatch scene ∧ HoldsMatchClips scene ∧ StoreSound scene ∧ PositionsInBounds scene ∧ ∃ t, step scene = .next t := by
  refine ⟨witness_use_counts.1, ⟨by decide +kernel, ⟨?_, ?_⟩, nofun, ?_⟩, witness_store_sound, ⟨?_, ?_, ?_⟩, _, rfl⟩
  · intro g id h
    fin_cases g <;> cases h
  · intro id c h
    obtain ⟨rfl, rfl⟩ := scene_clip h
    decide
  · intro x
    by_cases hx : 9 = x
    · subst hx
      decide +kernel
    · have : scene.store.slot x = blankSlot := by
        show (Table.find [_] x).getD blankSlot = _
        simp [Table.find, hx]
      rw [this]
      rfl
  · have h : ∀ i, scene.stream i = if i = 0 then
        { enabled := true, source := 17, link := 0, multiple := 1, lastKey := some 1100, originKey := some 1000 } else {} := by
      decide +kernel
    intro i
    by_cases hi : i = 0
    · subst hi
      refine ⟨by decide +kernel, ?_, nofun⟩
      rintro live hl
      cases hl
      exact ⟨by decide +kernel, by decide +kernel, ⟨1000, rfl, by decide⟩, 2880000, rfl, by decide +kernel⟩
    · simp only [h, if_neg hi]
      exact ⟨fun _ => trivial, nofun, nofun⟩
  · intro id c h
    obtain ⟨rfl, rfl⟩ := scene_clip h
    refine ⟨by decide, ?_, fun _ => ⟨3024000, rfl, by decide⟩⟩
    rintro out ho
    cases ho
    decide
  · intro ch
    fin_cases ch
    · refine ⟨by decide +kernel, fun _ => nofun, fun _ id a h => ?_, fun _ origin i => nofun⟩
      cases h
      exact ⟨_, 3024000, rfl, by decide, by decide, rfl, by decide +kernel, by decide +kernel⟩
    · refine ⟨by decide +kernel, fun _ => nofun, fun _ id a => nofun, fun _ origin i h => ?_⟩
      cases h
      exact ⟨nofun, 3168000, by decide +kernel, by decide +kernel⟩
    · exact ⟨by decide +kernel, nofun, nofun, nofun⟩
    · exact ⟨by decide +kernel, nofun, nofun, nofun⟩

/-! ### Marks and clips -/

theorem witness_mark_group_requests :
    up.canTake 0 = true ∧
      (4 ≤ 4 ∧ 8 < (List.replicate 9 0).length ∧ (∃ x ∈ [8], 8 ≤ x) ∧ ¬[1, 1].Nodup ∧ 0 < 1 ∧ 3000 < 3001) ∧
      (1 ≤ allEight.length ∧ allEight.length ≤ 8 ∧ allEight.Nodup ∧ 3000 ≤ 3000 ∧ 1 ≤ 1) := by decide +kernel

/-- A full table: clip n runs from n to n + 1. -/
def fullTable (users : Nat) : Table Clip :=
  (List.range 512).map fun n => (n, { clip3 with inPoint := n, outPoint := some (n + 1), useCount := users })

def fullScene (users : Nat) : State :=
  { scene with clips := fullTable users }.onGroup 0 fun m => { m with recycle := true }

theorem numbered_wf {α : Type} (k : Nat) (f : Nat → α) : Table.wf ((List.range k).map fun n => (n, f n)) := by
  rw [Table.wf, List.map_map]
  exact (List.map_id (List.range k)).symm ▸ List.pairwise_lt_range

theorem fullTable_wf (users : Nat) : (fullTable users).wf := numbered_wf 512 _

theorem fullScene_clips (users : Nat) : (fullScene users).clips = fullTable users := by
  unfold fullScene State.onGroup
  generalize fullTable users = t
  rfl

theorem witness_new_clip :
    (scene.clips.wf ∧ (∀ e ∈ scene.clips, e.1 < 512) ∧ scene.clips.length < 512) ∧
      (fullScene 0).clips.wf ∧ (fullScene 1).clips.wf ∧ (∀ e ∈ (fullScene 0).clips, e.1 < 512) ∧
      512 ≤ (fullScene 0).clips.length ∧ ((fullScene 0).group 1).recycle = false ∧
      ((fullScene 1).group 0).recycle = true ∧ (∀ e ∈ (fullScene 1).clips, recyclable (fullScene 1) e.2 = false) ∧
      ∃ k, (fullScene 0).clip 0 = some k ∧ recyclable (fullScene 0) k = true ∧
        ∀ e ∈ (fullScene 0).clips, recyclable (fullScene 0) e.2 = true →
          e = (0, k) ∨ k.inPoint < e.2.inPoint ∨ (k.inPoint = e.2.inPoint ∧ 0 < e.1) := by
  refine ⟨by decide +kernel, by rw [fullScene_clips]; exact fullTable_wf 0,
    by rw [fullScene_clips]; exact fullTable_wf 1, by decide +kernel, by decide +kernel, by decide +kernel,
    by decide +kernel, by decide +kernel, { clip3 with inPoint := 0, outPoint := some 1 }, by decide +kernel,
    by decide +kernel, ?_⟩
  intro e he _
  rw [fullScene_clips] at he
  obtain ⟨n, _, rfl⟩ := List.mem_map.mp he
  rcases Nat.eq_zero_or_pos n with rfl | h
  · exact .inl rfl
  · exact .inr (.inl h)

/-- Marks: the group and the time in its two forms. -/
theorem witness_marks :
    scene.canTake 0 = true ∧ 4 ≤ 4 ∧ (MarkTime.now = .now ∧ scene.houseTime = scene.houseTime) ∧
      MarkTime.explicit (2 ^ 52 - 1) = .explicit (2 ^ 52 - 1) := by decide +kernel

/-- `scene` with line 2 a MARK line under an action, its latch empty or full. -/
def marking (a : MarkAction) (c : Option Nat) : State :=
  (scene.onLine 2 fun l => { l with function := .mark, markAction := a }).onLatch 2 fun r => { r with captured := c }

theorem witness_mark_latches :
    (marking .latchOnly none).canTake 0 = true ∧ (8 ≤ 8 ∧ 4 < 5 ∧ 4 ≤ 4) ∧
      ((marking .latchOnly none).latch 2).captured = none ∧
      ((marking .latchOnly (some 9)).latch 2).captured = some 9 ∧
      ((State.reset.latch 2).captured = none ∧ State.reset.timer.state = .unlocked) ∧
      (marking .latchOnly none).timer.state ≠ .unlocked ∧ ((marking .latchOnly none).line 2).markAction = .latchOnly ∧
      ((marking .autoIn none).line 2).markAction = .autoIn ∧ ((marking .autoOut none).line 2).markAction = .autoOut ∧
      ((marking .autoSpot none).line 2).markAction = .autoSpot := by decide +kernel

theorem witness_clip_requests :
    scene.canTake 0 = true ∧ (512 ≤ 512 ∧ 16 < (List.replicate 17 (0 : Byte)).length) ∧
      (511 < 512 ∧ (List.replicate 16 (0 : Byte)).length ≤ 16 ∧ scene.clip 511 = none) ∧
      scene.clip 3 = some { clip3 with useCount := 1 } ∧ scene.clips.wf := by decide +kernel

/-! ### Channels -/

theorem witness_bad_numbers : scene.canTake 0 = true ∧ 1 < 2 ∧ 4 ≤ 4 := by decide +kernel

theorem witness_configure_channel :
    scene.canTake 0 = true ∧
      [{ args0 with shuttleHoldOff := 0 }, { args0 with shuttleHoldOff := 251 }, { args0 with endAction := 0 },
        { args0 with endAction := 4 }, { args0 with passPeriod := 3 }, { args0 with breakLimit := 15001 },
        { args0 with mixMode := 0 }, { args0 with mixMode := 4 }, { args0 with fill := 0 }, { args0 with fill := 3 },
        { args0 with route := some ⟨2, 0⟩ }, { args0 with route := some ⟨0, 256⟩ }].all (fun a =>
          decide (a.shuttleHoldOff < 1 ∨ 250 < a.shuttleHoldOff ∨ a.endAction < 1 ∨ 3 < a.endAction ∨
            a.passPeriod ∉ [1, 2, 4, 8, 16, 32, 64] ∨ 15000 < a.breakLimit ∨ a.mixMode < 1 ∨ 3 < a.mixMode ∨ a.fill < 1 ∨
            2 < a.fill ∨ a.route.any fun r => decide (2 ≤ r.link ∨ 255 < r.endpoint))) = true ∧
      let a : ChannelArgs := ⟨65535, 3072, 250, 3, 64, 15000, 3, 2, some ⟨1, 255⟩⟩
      1 ≤ a.shuttleHoldOff ∧ a.shuttleHoldOff ≤ 250 ∧ a.passPeriod ∈ [1, 2, 4, 8, 16, 32, 64] ∧ a.breakLimit ≤ 15000 ∧
        (a.endAction, EndAction.runOn) ∈ [(1, EndAction.stop), (2, .loop), (3, .runOn)] ∧
        (a.mixMode, MixMode.hold) ∈ [(1, MixMode.blend), (2, .nearest), (3, .hold)] ∧
        (a.fill, Fill.last) ∈ [(1, Fill.black), (2, .last)] ∧
        a.route = (some (⟨1, 255⟩ : Route)).map fun r => ⟨r.link.val, r.endpoint⟩ := by decide +kernel

/-- `scene` with clip 3 in another state. -/
def withClip (st : ClipState) : State := scene.onClip 3 fun c => { c with state := st }

theorem witness_bind_channel :
    scene.canTake 0 = true ∧
      (let s := scene.onChannel 0 fun c => { c with state := .halted .route }
       s.canTake 0 = true ∧ (s.channel 0).state = .halted .route) ∧
      ((scene.channel 2).haltCause = none ∧ (scene.channel 2).config.route = none) ∧
      ((scene.channel 0).haltCause = none ∧ (scene.channel 0).config.route = some ⟨0, 9⟩ ∧ (scene.port 0).up = true) ∧
      (512 ≤ 512 ∧ 511 < 512 ∧ scene.clip 511 = none) ∧
      (((withClip .opened).clip 3).map Clip.state = some .opened ∧
        ((withClip .closing).clip 3).map Clip.state = some .closing) ∧
      (scene.clip 3 = some { clip3 with useCount := 1 } ∧ clip3.state = .closed ∧ clip3.angles.length ≤ 1 ∧
        clip3.outPoint = some 3024000 ∧ clip3.angles[0]? = some 0) ∧
      (8 ≤ 8 ∧ 1048575 < 1048576 ∧ 1048575 ≤ 1048575 ∧ (scene.stream 1).lastKey = none) ∧
      scene.recallStart 0 = some 2880000 ∧ scene.liveEdge 0 = some 3168000 ∧ 2880000 ≤ 3168000 := by decide +kernel

/-- `scene` with a break request for channel 1, by its flag, by line 5, or by neither. -/
def requested (flag line : Bool) : State :=
  (scene.onChannel 1 fun c => { c with breakRequested := flag }).onLine 5 fun l =>
    { l with function := .breakRequest, channel := 1, inputActive := line }

theorem witness_pass_starts :
    scene.clip 3 = some { clip3 with useCount := 1 } ∧
      ((∀ id a, Binding.unbound ≠ .clip id a) ∧ ∀ id a, Binding.free 0 0 ≠ .clip id a) ∧
      ((requested true false).channel 1).breakRequested = true ∧
      (∀ b, ((requested false b).channel 1).breakRequested = false ∧
        ((∃ n, ((requested false b).line n).function = .breakRequest ∧ ((requested false b).line n).channel = 1 ∧
          ((requested false b).line n).inputActive = true) ↔ b = true)) ∧
      ∀ a b, ((requested a b).channel 1).scanner.state = .waiting := by
  refine ⟨by decide +kernel, ⟨nofun, nofun⟩, by decide +kernel, by decide +kernel, by decide +kernel⟩

def inState (st : ChannelState) : State := scene.onChannel 0 fun c => { c with state := st }

/-- Channel 0 of `scene` with pages 14 and 15 as its cue list, and the commit of a page in flight. -/
def committing (page : Nat) : State :=
  (scene.onChannel 0 fun c => { c with cueBinding := some ⟨14, 2⟩ }).onCues fun m => { m with commit := some page }

theorem witness_speed_requests :
    scene.canTake 0 = true ∧ ((inState .idle).channel 0).state = .idle ∧ ((inState .inBreak).channel 0).state = .inBreak ∧
      ((inState .running).channel 0).state = .running ∧ ((scene.channel 0).state = .cued ∧ scene.cues.commit = none) ∧
      ((committing 15).cues.commit = some 15 ∧ ((committing 15).channel 0).cueBinding = some ⟨14, 2⟩ ∧ 14 ≤ 15 ∧
        15 < 14 + 2) ∧
      ((committing 13).cues.commit = some 13 ∧ ¬14 ≤ 13) := by decide +kernel

theorem witness_jog_and_seek :
    scene.canTake 0 = true ∧
      ((scene.onChannel 0 fun c => { c with speed := 1 }).channel 0).speed ≠ 0 ∧
      ((inState .inBreak).channel 0).state = .inBreak ∧ scene.boundedBy 0 2880000 3024000 ∧
      scene.boundedBy 1 2880000 3168000 ∧ 2880000 ≤ 3024000 ∧ (scene.channel 0).state = .cued ∧
      (scene.channel 1).state = .running ∧ (scene.channel 1).speed = 0 ∧ (scene.channel 1).target = 0 ∧
      scene.playedStream 0 = some 0 ∧ scene.playedStream 1 = some 0 := by
  refine ⟨by decide +kernel, by decide +kernel, by decide +kernel,
    .inl ⟨3, 0, _, rfl, rfl, rfl, rfl⟩, .inr ⟨2880000, 0, rfl, by decide +kernel, by decide +kernel⟩, ?_⟩
  decide +kernel

theorem witness_angle_request :
    scene.canTake 0 = true ∧ ((inState .idle).channel 0).state = .idle ∧
      ((scene.channel 0).state = .cued ∧ (scene.channel 0).binding = .clip 3 0 ∧
        scene.clip 3 = some { clip3 with useCount := 1 }) ∧
      ((scene.channel 1).state = .running ∧ (scene.channel 1).binding = .free 2880000 0 ∧ 8 ≤ 8 ∧
        (scene.stream 7).lastKey = none ∧ scene.recallStart 0 = some 2880000 ∧ scene.liveEdge 0 = some 3168000) := by
  decide +kernel

theorem witness_read_requests :
    scene.canTake 0 = true ∧ 512 ≤ 512 ∧ 511 < 512 ∧ scene.clip 511 = none ∧
      scene.clip 3 = some { clip3 with useCount := 1 } ∧ 16 ≤ 16 ∧ 15 < 16 := by decide +kernel

theorem witness_ramp :
    let c : Channel := { speed := -3072, target := 3072 }
    (-3072 : Int) ≤ c.speed ∧ c.speed ≤ 3072 ∧ -3072 ≤ c.target ∧ c.target ≤ 3072 := by decide +kernel

/-- Channel 0 RUNNING on clip 3 at a position, a speed and an end action, in an announced pass or not. -/
def moving (p : Nat) (v : Int) (e : EndAction) (announced : Bool) : State :=
  scene.onChannel 0 fun c =>
    { c with state := .running, position := p, speed := v, target := v, breakAnnounced := announced,
             config := { c.config with endAction := e } }

def next (s : State) (ch : Fin 4) : Int := (s.channel ch).position + 30 * (s.channel ch).ramped.speed

theorem witness_moving_step :
    (∀ p v e b, ((moving p v e b).channel 0).hold = 0 ∧ ((moving p v e b).channel 0).binding = .clip 3 0 ∧ ((moving p v e b).channel 0).config.endAction = e ∧
        ((moving p v e b).channel 0).breakAnnounced = b) ∧
      (scene.clip 3 = some { clip3 with useCount := 1 } ∧ clip3.inPoint = 2880000 ∧ clip3.outPoint = some 3024000) ∧
      (next (moving 2880030 (-1) .stop false) 0 = 2880000 ∧ next (moving 3023970 1 .stop false) 0 = 3024000) ∧
      (next (moving 2880000 (-1) .stop false) 0 < 2880000) ∧ (3024000 < next (moving 3024000 1 .stop false) 0) ∧
      (3024000 < next (moving 3023971 1 .loop true) 0) ∧
      ((scene.channel 1).binding = .free 2880000 0 ∧ (scene.channel 1).hold = 0 ∧ scene.recallStart 0 = some 2880000 ∧
        scene.liveEdge 0 = some 3168000) ∧
      next scene 1 = 3168000 ∧ next (scene.onChannel 1 fun c => { c with position := 3167999 }) 1 = 3167999 := by
  refine ⟨fun p v e b => ⟨rfl, rfl, rfl, rfl⟩, by decide +kernel⟩

/-- A channel of `scene` RUNNING with a hold counter. -/
def holding (ch : Fin 4) (n : Nat) : State := scene.onChannel ch fun c => { c with state := .running, hold := n }

/-- Channel 1 of `scene` FREE at a position and speed, with its hold counter. -/
def roaming (p : Nat) (v : Int) (hold : Nat) : State :=
  scene.onChannel 1 fun c => { c with position := p, speed := v, target := v, hold := hold }

/-- MovingStepAdvances: hold steps, RUN_ON with and without a live key and landing on the live edge itself, and a free channel below its recall start. -/
theorem witness_moving_step_ends :
    (0 < ((holding 0 1).channel 0).hold ∧ ((holding 0 1).channel 0).binding = .clip 3 0) ∧
      (∀ p, p = 2879999 ∨ p = 3168000 →
        0 < ((roaming p 0 1).channel 1).hold ∧ ((roaming p 0 1).channel 1).binding = .free 2880000 0 ∧
          (roaming p 0 1).recallStart 0 = some 2880000 ∧ (roaming p 0 1).liveEdge 0 = some 3168000 ∧
          ((roaming p 0 1).channel 1).position ≤ 3168000) ∧
      (let s := moving 3024000 1 .runOn false
       ((s.channel 0).config.endAction = .runOn ∧ clip3.angles[0]? = some 0 ∧ s.recallStart 0 = some 2880000 ∧
         s.liveEdge 0 = some 3168000) ∧ (3024000 : Int) < next s 0) ∧
      (let s := (moving 3024000 96 .runOn false).onStream 0 fun r => { r with lastKey := some 1051 }
       s.liveEdge 0 = some 3026880 ∧ next s 0 = 3026880) ∧
      (let s := (moving 3024000 1 .runOn false).onStream 0 fun r => { r with lastKey := none }
       (s.stream 0).lastKey = none ∧ (3024000 : Int) < next s 0) ∧
      (next (roaming 2880000 (-1) 0) 1 < 2880000 ∧ ((roaming 2880000 (-1) 0).channel 1).ramped.speed < 0) ∧
      (next (roaming 2879999 0 0) 1 < 2880000 ∧ 0 ≤ ((roaming 2879999 0 0).channel 1).ramped.speed) := by
  refine ⟨by decide +kernel, ?_, by decide +kernel⟩
  rintro p (rfl | rfl) <;> decide +kernel

/-- `scene` with a frame prepared for channel 0. -/
def preparedScene (p : Prepared) : State := scene.onChannel 0 fun c => { c with mixer := { c.mixer with prepared := some p } }

theorem witness_step_and_output :
    ((scene.channel 2).state = .idle ∧ ((inState (.halted .request)).channel 0).haltCause ≠ none ∧
        (scene.channel 0).state = .cued ∧ (scene.channel 0).mixer.prepared = none) ∧
      (∀ p, ((preparedScene p).channel 0).state = .cued ∧ ((preparedScene p).channel 0).mixer.prepared = some p) ∧
      (let awaits : Store → Bool := fun st => (st.service.toList ++ st.queue).any (ReadEntry.currentOf 0)
       awaits scene.store = false ∧ awaits { scene.store with service := some (.fetch 0 9 5 .earlier true false) } = true) ∧
      (∃ p : Prepared, p.picture = some []) ∧ ∃ p : Prepared, p.picture = none := by
  refine ⟨by decide +kernel, fun p => ⟨rfl, rfl⟩, by decide +kernel, ⟨{ kind := .alone, fetches := 1, picture := some [] }, rfl⟩,
    { kind := .again, fetches := 0 }, rfl⟩

/-- Channel 0 of `scene`, at a position and under a mix mode. -/
def mixing (m : MixMode) (p : Nat) : State :=
  scene.onChannel 0 fun c => { c with position := p, config := { c.config with mixMode := m } }

/-- The mix weight of channel 0 at a position of stream 0. -/
def weightAt (p : Nat) : Nat := mixWeight (p % scene.period 0) (scene.period 0)

/-- `scene` with key 1101 in slot 10 as well. -/
def twoKeys : State :=
  (scene.onStore (Store.setSlot 10 { occupant := .full 1101 })).onAllotment 0 fun a =>
    { a with directory := [(76, (1100, 9)), (77, (1101, 10))] }

theorem witness_sources_of_a_step :
    (∀ m p, (mixing m p).playedStream 0 = some 0 ∧ ((mixing m p).channel 0).config.mixMode = m ∧
        ((mixing m p).channel 0).conditions.degraded = false) ∧
      ([2880089, 2880090, 2881349, 2881350, 2882789, 2882790].map weightAt = [0, 1, 7, 8, 15, 16]) ∧
      (scene.sourceLookup 0 0 1099 = none ∧ scene.sourceLookup 0 0 1101 = none ∧
        twoKeys.sourceLookup 0 0 1100 = some (9, 5) ∧ twoKeys.sourceLookup 0 0 1101 = some (10, 0)) ∧
      (let l := protectedClip.heldSlots
       l = [9] ∧ protectedClip.protection = some { extents := [[⟨1100, 1, 9⟩]] } ∧ 1100 ≤ 1100 ∧ 1100 < 1100 + 1 ∧
         ¬(1100 ≤ 1099) ∧ ¬(1101 < 1100 + 1)) ∧
      (fetching.store.service ≠ none ∧ scene.store.service = none ∧ scene.store.queue = []) ∧
      (0 < 2880 ∧ 2879 < 2880) ∧ (0 < 1 ∧ 0 < 1) ∧ 16 ≤ 16 := by
  refine ⟨fun m p => ⟨by rfl, by rfl, by rfl⟩, by decide +kernel⟩

/-! ### Cues, breaks and counters -/

theorem witness_staging :
    (up.canTake 0 = true ∧ up.cues.commit = none ∧ up.cues.staging.length = 32) ∧ (committing 13).cues.commit ≠ none ∧
      (31 < 32 ∧ 32 < (List.replicate 33 blankCue).length) ∧ (31 ≤ 31 ∧ (List.replicate 32 blankCue).length ≤ 32) := by
  decide +kernel

/-- A staging buffer of 31 absent entries and one last entry. -/
def lastEntry (q : CueRecord) : List (Option CueRecord) := List.replicate 31 none ++ [some q]

theorem witness_commit :
    (scene.canTake 0 = true ∧ scene.cues.commit = none) ∧ (committing 15).cues.commit = some 15 ∧
      (let ok : Option CueRecord → Prop := fun e => ∀ q, e = some q →
        q.passRepeat ∈ [1, 2, 4, 8, 16, 32, 64] ∧ q.passFirst < q.passRepeat ∧ bodyOk q.body = true
       (∀ e ∈ lastEntry ⟨0, 64, 63, .hold 1⟩, ok e) ∧
       ∀ q, q ∈ [CueRecord.mk 0 3 0 .stop, ⟨0, 64, 64, .stop⟩, ⟨0, 1, 0, .other 10⟩] →
         (lastEntry q)[31]? = some (some q) ∧ ¬ok (some q) ∧
           ∀ m < 31, ∀ e, (lastEntry q)[m]? = some e → ok e) := by
  refine ⟨by decide +kernel, by decide +kernel, ?_, ?_⟩
  · intro e he q hq
    subst hq
    have : q = ⟨0, 64, 63, .hold 1⟩ := by simpa [lastEntry] using he
    subst this
    decide +kernel
  · intro q hq
    refine ⟨by simp [lastEntry], ?_, ?_⟩
    · intro h
      have h' := h q rfl
      revert h' hq
      revert q
      simp only [List.mem_cons, List.not_mem_nil, or_false]
      rintro q _ (rfl | rfl | rfl) <;> decide +kernel
    · intro m hm e he q' hq'
      have hn : (lastEntry q)[m]? = some none := by
        rw [lastEntry, List.getElem?_append_left (by simpa using hm), List.getElem?_replicate, if_pos hm]
      rw [hn] at he
      rw [← Option.some.inj he] at hq'
      cases hq'

/-- Channel 0 of `scene` on clip 3 with a list of one page whose last cue is `q`, the scanner at an index with a last mark. -/
def scanning (q : CueRecord) (i : Nat) (last : Option Nat) (flagged : Bool) : State :=
  (scene.onChannel 0 fun c =>
    { c with cueBinding := some ⟨0, 1⟩, scanner := ⟨.active, i, last, flagged⟩, stack := [⟨5, 32⟩] }).onCues fun m =>
    { m with pages := (List.replicate 31 ⟨9, 2, 1, .stop⟩ ++ [q]) :: m.pages.tail }

theorem witness_cues_act :
    (∀ a, a = 1 ∨ a = 3 → a = 1 ∨ a = 2 ∨ a = 3) ∧
      ((scene.channel 0).binding = .clip 3 0 ∧ scene.clip 3 = some { clip3 with useCount := 1 } ∧ 0 < clip3.angles.length ∧
        clip3.angles.length ≤ 1) ∧
      ((scene.channel 1).binding = .free 2880000 0 ∧ 8 ≤ 8 ∧ (scene.stream 7).lastKey = none ∧
        scene.recallStart 0 = some 2880000 ∧ scene.liveEdge 0 = some 3168000 ∧ 2880000 ≤ 3168000) ∧
      (scene.channel 0).stack = [] ∧
      let s := scanning ⟨0, 1, 0, .stop⟩ 31 none false
      s.boundedBy 0 2880000 3024000 ∧ 2880000 ≤ 3024000 ∧ (s.channel 0).stack = ⟨5, 32⟩ :: [] := by
  refine ⟨fun a h => by omega, by decide +kernel, by decide +kernel, by decide +kernel,
    .inl ⟨3, 0, _, rfl, rfl, rfl, rfl⟩, by decide, rfl⟩

theorem witness_scans :
    (let s := scanning blankCue 32 none false
     ((s.channel 0).cueBinding.elim 0 fun b => 32 * b.count) ≤ (s.channel 0).scanner.index) ∧
      (∀ q last flagged, let s := scanning q 31 last flagged
        (s.channel 0).cueBinding = some ⟨0, 1⟩ ∧ (s.channel 0).scanner.index = 31 ∧ 31 < 32 * 1 ∧
          (s.channel 0).scanner.lastMark = last ∧ (s.channel 0).scanner.reseek = flagged ∧ (s.channel 0).passCount = 0) ∧
      (∀ q, (List.replicate 31 (⟨9, 2, 1, .stop⟩ : CueRecord) ++ [q])[31 % 32]? = some q) ∧
      (let q : CueRecord := ⟨100, 2, 0, .stop⟩
       q.body ≠ .listEnd ∧ 0 % q.passRepeat = q.passFirst ∧ (99 : Int) < q.mark ∧ (q.mark : Int) ≤ 100 ∧ q.mark < 101 ∧
         100 ≤ q.mark) ∧
      (¬0 % (⟨0, 2, 1, .stop⟩ : CueRecord).passRepeat = 1) ∧ blankCue.body = .listEnd := by
  refine ⟨by decide +kernel, fun q last flagged => ⟨rfl, rfl, by decide, rfl, rfl, rfl⟩, fun q => by simp, by decide, by decide,
    rfl⟩

/-- ScansAndReseeks: a re-seek that finds the last cue of the list, and one that finds none. -/
theorem witness_reseek :
    let found := scanning ⟨100, 2, 0, .stop⟩ 31 none true
    let cue : State → Nat → CueRecord := fun s j => (s.cues.pages.getD (0 + j / 32) []).getD (j % 32) ⟨0, 1, 0, .listEnd⟩
    let good : State → Nat → Int → Prop := fun s j start =>
      (s.channel 0).passCount % (cue s j).passRepeat = (cue s j).passFirst ∧ start ≤ (cue s j).mark
    (31 < 32 ∧ good found 31 100 ∧ (cue found 31).body ≠ .listEnd ∧
        ∀ k < 31, (cue found k).body ≠ .listEnd ∧ ¬good found k 100) ∧
      ∀ j < 32, ¬good found j 101 := by
  decide +kernel

theorem witness_break_requests :
    scene.canTake 0 = true ∧ ((inState (.halted .request)).channel 0).state = .halted .request ∧
      ((inState .inBreak).channel 0).state = .inBreak ∧
      (((moving 2880000 1 .loop true).channel 0).state = .running ∧
        ((moving 2880000 1 .loop true).channel 0).breakAnnounced = true) ∧
      ((scene.channel 0).state = .cued ∧ (scene.channel 2).state = .idle ∧ (scene.channel 1).state = .running ∧
        (scene.channel 1).breakAnnounced = false) := by decide +kernel

theorem witness_counter_expiries :
    scene.timer.state ≠ .unlocked ∧
      (let c := (scene.onChannel 1 fun c => { c with source := .shuttle, holdOff := 1 }).channel 1
       c.state = .running ∧ c.source = .shuttle ∧ c.holdOff = 1) ∧
      (((holding 0 1).channel 0).state = .running ∧ ((holding 0 1).channel 0).hold = 1 ∧
        ((holding 0 1).channel 0).binding = .clip 3 0) ∧
      (let c := ((inState .inBreak).onChannel 0 fun c => { c with breakTimer := 1 }).channel 0
       c.state = .inBreak ∧ c.breakTimer = 1) ∧
      let s := (atFrame 9 up).onLine 7 fun l => { l with function := .output, pulseTimer := 1, pulseFrame := some 9 }
      s.timer.state ≠ .unlocked ∧ s.timer.frames < 2 ^ 40 - 1 ∧
        ((s.line 7).function = .output ∧ (s.line 7).pulseTimer = 1 ∧ (s.line 7).pulseFrame ≠ some (s.timer.frames + 1)) ∧
        ∀ ch, (s.channel ch).state ≠ .running ∧ (s.channel ch).state ≠ .inBreak := by
  decide +kernel

/-! ### Lines, links and resets -/

def lineOf (f : LineFunction) (p : Polarity) (active : Bool) : State :=
  scene.onLine 7 fun l => { l with function := f, polarity := p, inputActive := active }

theorem witness_line_pin :
    (∀ p a, ((lineOf .output p a).line 7).function = .output ∧ ((lineOf .tally p a).line 7).function = .tally) ∧
      (∀ f ∈ [LineFunction.input, .mark, .breakEnd, .breakRequest],
        ((lineOf f .activeHigh true).line 7).inputActive = true ∧ f ≠ .output ∧ f ≠ .tally ∧
          ((lineOf f .activeHigh false).line 7).inputActive = false ∧
          ((lineOf f .activeLow false).line 7).polarity = .activeLow) :=
  ⟨fun _ _ => ⟨rfl, rfl⟩, by decide +kernel⟩

theorem witness_line_requests :
    up.canTake 0 = true ∧ (8 ≤ 8 ∧ 0 < 1 ∧ 6 < 7 ∧ 4 ≤ 4 ∧ 2 < 3 ∧ 4 < 5) := by decide +kernel

theorem witness_link_up_and_down :
    (State.reset.port 0).up = false ∧ ((scene.port 1).up = true ∧ scene.endpoint.reset = .none) ∧
      ((assembling ⟨1101, 20, 134⟩).stream 0).assembly = some ⟨1101, 20, 134⟩ ∧
      ((assembling ⟨1101, 20, 134⟩).stream 0).enabled = true ∧ ((assembling ⟨1101, 20, 134⟩).stream 0).link = 0 ∧
      (assembling ⟨1101, 20, 134⟩).endpoint.reset = .none ∧
      (let s := run (.resetPart o) scene
       (∀ l, (s.port l).up = true) ∧ s.endpoint.reset = .queued 0 ∧ ResetProgress.queued 0 ≠ .queued 1) ∧
      (run (.transmitChoose 0) (run (.resetPart o) scene)).endpoint.reset = .sending 0 := by decide +kernel

/-- `up` with an emission of channel `ch` under way on link 0 at a cursor. -/
def emitting (ch : Fin 4) (n : Nat) : State :=
  scene.onChannel ch fun c => { c with mixer := { c.mixer with emission := some ⟨0, 9, 1100, n⟩ } }

theorem witness_transmitter :
    let none_ : State → Prop := fun s => ∀ ch, ¬∃ e, (s.channel ch).mixer.emission = some e ∧ e.link = 0
    let ready : State → Prop := fun s => (s.port 0).up = true ∧ (s.port 0).sending = none ∧ s.resetHeld = false ∧
      ∀ k, s.endpoint.reset ≠ .sending k
    let reply : Reply := ⟨5, 7, 46, .ok, []⟩
    (State.reset.port 0).up = false ∧
      (∀ n, n = 0 ∨ n = 134 → ready (emitting 2 n) ∧
        ((emitting 2 n).channel (((emitting 2 n).port 0).rotation + 1 + 2)).mixer.emission = some ⟨0, 9, 1100, n⟩ ∧
        ∀ j < (2 : Fin 4), ((emitting 2 n).channel (((emitting 2 n).port 0).rotation + 1 + j)).mixer.emission = none) ∧
      (ready scene ∧ (∀ ch, (scene.channel ch).mixer.emission = none) ∧ none_ scene) ∧
      ((scene.onPort 0 fun p => { p with forward := [[1]] }).port 0).forward = [1] :: [] ∧
      ((scene.port 0).forward = [] ∧ (scene.onPort 0 fun p => { p with replies := [reply] }).endpoint.reset ≠ .queued 0) ∧
      ((run (.resetPart o) scene).port 0).replies = [reply] ∧ (run (.resetPart o) scene).endpoint.reset = .queued 0 ∧
      (scene.endpoint.route = some ⟨0, 5⟩ ∧ (scene.port 0).replies = [] ∧ scene.endpoint.notices = []) ∧
      (raise 0 (.lineEdge 0 .input none none) scene).endpoint.notices = [⟨0, .lineEdge 0 .input none none⟩] ∧
      (run (.transmitChoose 0) (run (.resetPart o) scene)).endpoint.reset = .sending 0 := by
  have h : ∀ ch, (scene.channel ch).mixer.emission = none := by decide +kernel
  refine ⟨by decide +kernel, ?_, ⟨by decide +kernel, h, ?_⟩, by decide +kernel, by decide +kernel, by decide +kernel,
    by decide +kernel, by decide +kernel, by decide +kernel, by decide +kernel⟩
  · rintro n (rfl | rfl) <;> decide +kernel
  · rintro ch ⟨e, he, _⟩
    rw [h ch] at he
    cases he

theorem witness_endpoint_requests :
    up.canTake 0 = true ∧ 255 < 256 ∧ (2 ≤ 2 ∧ 254 < 255) ∧ 254 ≤ 254 ∧ 46 < 47 := by decide +kernel

theorem witness_resets :
    (∀ l, scene.endpoint.reset ≠ .sending l) ∧
      (run (.transmitChoose 0) (run (.resetPart o) scene)).endpoint.reset = .sending 0 ∧
      ∀ l, (State.reset.port l).up = false := by decide +kernel

end Sys2Proof.Tests
end

section
/-! PROOFS. CONFIGURE STORE (R33, R34, R52): the checks in their order, the layout, the reply. -/

namespace Sys2Proof.Machine

/-! ## Banks of eight, read as lists and as sums -/

section
variable {α : Type} (t : Eight α)

theorem mem_allEight (i : Fin 8) : i ∈ allEight := by fin_cases i <;> decide

theorem mem_allFour (ch : Fin 4) : ch ∈ allFour := by fin_cases ch <;> decide

theorem Eight.toList_eq_map_get : Eight.toList t = allEight.map t.get := rfl

theorem Eight.all_toList_eq_false_iff (f : α → Bool) :
    (Eight.toList t).all f = false ↔ ∃ i, f (t.get i) = false := by
  simp [Eight.toList_eq_map_get, mem_allEight]

theorem Eight.sum_map_toList (f : α → Nat) : ((Eight.toList t).map f).sum = ∑ i : Fin 8, f (t.get i) := by
  simp [Eight.toList, Eight.get, Fin.sum_univ_eight, Nat.add_assoc]

end

/-! ## The checks (R33) -/

/-- The arguments fail check 1, 2 or 3 of R33: an allotment, their sum, or a recall floor out of range. -/
def Malformed (p : Eight (Nat × Nat)) : Prop :=
  (∃ i, (p.get i).1 ≠ 0 ∧ ((p.get i).1 < 512 ∨ 65536 < (p.get i).1 ∨ (p.get i).1 % 256 ≠ 0)) ∨
    65536 < ∑ i : Fin 8, (p.get i).1 ∨
    ∃ i, (p.get i).1 ≠ 0 ∧ ((p.get i).2 < 64 ∨ (p.get i).1 / 2 < (p.get i).2)

/-- The part fails check 4, 5 or 6 of R33: a stream enabled, a clip under protection, or a channel not IDLE. -/
def StoreInUse (s : State) : Prop :=
  (∃ i, (s.stream i).enabled = true) ∨
    (∃ e ∈ s.clips, e.2.state = .protecting ∨ e.2.state = .protected_) ∨
    ∃ ch, (s.channel ch).state ≠ .idle

theorem allotmentOk_eq_false_iff (d : Nat) :
    allotmentOk d = false ↔ d ≠ 0 ∧ (d < 512 ∨ 65536 < d ∨ d % 256 ≠ 0) := by
  simp only [allotmentOk, Bool.or_eq_false_iff, Bool.and_eq_false_iff, beq_eq_false_iff_ne, decide_eq_false_iff_not]
  omega

/-- Check 3 of R33 on one pair. -/
theorem floorOk_eq_false_iff (d f : Nat) :
    (d == 0 || decide (64 ≤ f ∧ f ≤ d / 2)) = false ↔ d ≠ 0 ∧ (f < 64 ∨ d / 2 < f) := by
  simp only [Bool.or_eq_false_iff, beq_eq_false_iff_ne, decide_eq_false_iff_not]
  omega

/-- Three checks in a row that answer the same are one check. -/
theorem ite_ite_ite_same {α : Type} {A B C D : Prop} [Decidable A] [Decidable B] [Decidable C] [Decidable D]
    (hD : D ↔ A ∨ B ∨ C) (x y : α) :
    (if A then x else if B then x else if C then x else y) = if D then x else y := by
  by_cases hA : A
  · simp [hD, hA]
  · by_cases hB : B <;> simp [hD, hA, hB]

/-- The six checks, gathered by the status a failure gives. -/
theorem configureStoreCheck_eq (p : Eight (Nat × Nat)) (s : State) [Decidable (Malformed p)]
    [Decidable (StoreInUse s)] :
    configureStoreCheck (Eight.toList p) s =
      if Malformed p then some .badArgument else if StoreInUse s then some .inUse else none := by
  have hstreams : allEight.any (fun i => (s.stream i).enabled) = true ↔ ∃ i, (s.stream i).enabled = true := by
    simp [mem_allEight]
  have hclips : s.clips.any (fun c => c.2.state = .protecting ∨ c.2.state = .protected_) = true ↔
      ∃ e ∈ s.clips, e.2.state = .protecting ∨ e.2.state = .protected_ := by
    simp
  have hchannels : allFour.all (fun ch => (s.channel ch).state = .idle) = false ↔
      ∃ ch, (s.channel ch).state ≠ .idle := by
    simp [mem_allFour]
  simp only [configureStoreCheck, Bool.not_eq_true', Eight.all_toList_eq_false_iff, Eight.sum_map_toList,
    allotmentOk_eq_false_iff, floorOk_eq_false_iff, hstreams, hclips, hchannels]
  rw [ite_ite_ite_same (D := StoreInUse s) Iff.rfl, ite_ite_ite_same (D := Malformed p) Iff.rfl]

/-- Arguments within the ranges of R33 pass checks 1 to 3: no allotment is above 65,536 when their sum is not. -/
theorem not_malformed {p : Eight (Nat × Nat)}
    (hpairs : ∀ i, (p.get i).1 = 0 ∨ 512 ≤ (p.get i).1 ∧ (p.get i).1 % 256 = 0 ∧ 64 ≤ (p.get i).2 ∧
      (p.get i).2 ≤ (p.get i).1 / 2)
    (hsum : ∑ i : Fin 8, (p.get i).1 ≤ 65536) : ¬ Malformed p := by
  rintro (⟨i, hi⟩ | h | ⟨i, hi⟩)
  · have hle : (p.get i).1 ≤ ∑ n : Fin 8, (p.get n).1 :=
      Finset.single_le_sum (f := fun n => (p.get n).1) (fun _ _ => Nat.zero_le _) (Finset.mem_univ i)
    have := hpairs i
    omega
  · omega
  · have := hpairs i
    omega

/-! ## The layout (R34) and the fetch in service (R52) -/

/-- The slot at which a stream's range begins: the allotments of the streams before it, added up. -/
def rangeStart (p : Eight (Nat × Nat)) (i : Fin 8) : Nat := ∑ n : Fin 8, if n < i then (p.get n).1 else 0

theorem layOutAll_get (p : Eight (Nat × Nat)) (i : Fin 8) :
    (layOutAll p).get i = layOut (rangeStart p i) (p.get i) := by
  fin_cases i <;> simp [layOutAll, rangeStart, Eight.get, Fin.sum_univ_eight]

theorem forgetKeys_get (t : Eight Stream) (i : Fin 8) : (forgetKeys t).get i = (t.get i).forget := by
  fin_cases i <;> rfl

theorem optional_first_layOut (x : Nat) (q : Nat × Nat) :
    optional (be 2) (layOut x q).first = if q.1 = 0 then [0] else 1 :: be 2 x := by
  unfold layOut
  split <;> rfl

/-- The reply's results: each stream's first slot, absent for one without an allotment. -/
theorem firstSlots_layOutAll (p : Eight (Nat × Nat)) :
    ((Eight.toList (layOutAll p)).flatMap fun a => optional (be 2) a.first) =
      allEight.flatMap fun i => if (p.get i).1 = 0 then [0] else 1 :: be 2 (rangeStart p i) := by
  simp only [Eight.toList_eq_map_get, List.flatMap_map, layOutAll_get, optional_first_layOut]

/-! ## The request -/

section
variable {o : Origin} {s : State} {p : Eight (Nat × Nat)}

theorem configureStore_of_check_some {st : Status} (h : configureStoreCheck (Eight.toList p) s = some st) :
    configureStore p s = refuse st s := by
  simp only [configureStore, h]

theorem configureStore_of_check_none (h : configureStoreCheck (Eight.toList p) s = none) :
    configureStore p s =
      accept (allEight.flatMap fun i => if (p.get i).1 = 0 then [0] else 1 :: be 2 (rangeStart p i))
        { s with
          store := s.store.configure p
          streams := forgetKeys s.streams
          engine := { s.engine with withdrawn := false } } := by
  simp only [configureStore, h, Store.configure, firstSlots_layOutAll]

/-- The request is carried out on the state whose arbiter has taken it, and its answer queued. -/
theorem exec_configureStore (htake : s.canTake o.link = true) {a : Answer} (h : configureStore p (s.served o) = a) :
    exec (.configureStore o p) s = .next (queueReply o 4 a.status a.results a.state) := by
  subst h
  exact takeRequest_taken htake 4 (configureStore p)

/-- The checks do not read the arbiter's turn. -/
theorem configureStoreCheck_served (pairs : List (Nat × Nat)) :
    configureStoreCheck pairs (s.served o) = configureStoreCheck pairs s := rfl

/-- A check that fails: only the refusal's reply and the arbiter's turn change. -/
theorem exec_configureStore_of_check_some (htake : s.canTake o.link = true) {st : Status}
    (h : configureStoreCheck (Eight.toList p) s = some st) :
    exec (.configureStore o p) s = .next (s.refused o 4 st) :=
  exec_configureStore htake (configureStore_of_check_some ((configureStoreCheck_served _).trans h))

/-- Every check passed: the store configured, every key forgotten, and each first slot in the reply. -/
theorem exec_configureStore_of_check_none (htake : s.canTake o.link = true)
    (h : configureStoreCheck (Eight.toList p) s = none) :
    exec (.configureStore o p) s =
      .next (queueReply o 4 .ok
        (allEight.flatMap fun i => if (p.get i).1 = 0 then [0] else 1 :: be 2 (rangeStart p i))
        { s.served o with
          store := s.store.configure p
          streams := forgetKeys s.streams
          engine := { s.engine with withdrawn := false } }) :=
  exec_configureStore htake (configureStore_of_check_none ((configureStoreCheck_served _).trans h))

end

end Sys2Proof.Machine

namespace Sys2Proof.Proofs

open Sys2Proof.Machine

/-- Settles O25: the six checks gathered by status, then the configured store field by field. -/
theorem configureStore : Obligations.ConfigureStore := by
  classical
  intro o p s htake b start
  have hcheck := configureStoreCheck_eq p s
  refine ⟨fun hbad => ?malformed, fun hpairs hsum => ?wellFormed⟩
  case malformed =>
    exact exec_configureStore_of_check_some htake (hcheck.trans (if_pos (show Malformed p from hbad)))
  case wellFormed =>
    rw [if_neg (not_malformed hpairs hsum)] at hcheck
    refine ⟨fun hbusy => ?inUse, fun hstreams hclips hchannels => ?taken⟩
    case inUse =>
      exact exec_configureStore_of_check_some htake (hcheck.trans (if_pos (show StoreInUse s from hbusy)))
    case taken =>
      have hfree : ¬ StoreInUse s := by
        rintro (⟨i, hi⟩ | ⟨e, he, hprotected⟩ | ⟨ch, hch⟩)
        · simp [hstreams i] at hi
        · exact hprotected.elim (hclips e he).1 (hclips e he).2
        · exact hch (hchannels ch)
      refine ⟨s.store.configure p, forgetKeys s.streams,
        exec_configureStore_of_check_none htake (hcheck.trans (if_neg hfree)), rfl, rfl, rfl, rfl, rfl, ?service,
        fun i => ⟨forgetKeys_get s.streams i, layOutAll_get p i⟩⟩
      case service =>
        cases hservice : s.store.service with
        | none => simp [Store.configure, hservice]
        | some e => cases e <;> simp [Store.configure, hservice, supersede]

end Sys2Proof.Proofs
end

section
/-! PROOFS. SET CLIP LABEL and DROP CLIP (R68, R69, R90): a request and its answer, the clip an id names, what a release of
holds leaves as it was, and the clip that leaves the table. -/

namespace Sys2Proof.Machine

/-! ## A request that is taken, by its answer (R184, R185) -/

section
variable {o : Origin} {s : State} {kind : Nat} {run : State → Answer}

theorem takeRequest_refused (htake : s.canTake o.link = true) {st : Status}
    (h : run (s.served o) = refuse st (s.served o)) : takeRequest o kind run s = .next (s.refused o kind st) := by
  have hanswer : run (s.onEndpoint fun e => { e with lastServed := o.link }) = refuse st (s.served o) := h
  rw [takeRequest_taken htake, hanswer]
  rfl

theorem takeRequest_accepted (htake : s.canTake o.link = true) {results : List Byte} {t : State}
    (h : run (s.served o) = accept results t) :
    takeRequest o kind run s = .next (queueReply o kind .ok results t) := by
  have hanswer : run (s.onEndpoint fun e => { e with lastServed := o.link }) = accept results t := h
  rw [takeRequest_taken htake, hanswer]
  rfl

end

/-! ## The clip an id names (R56) -/

section
variable {id : Nat} {s : State} {c : Clip}

theorem onClipNo_of_le (run : Clip → State → Answer) (h : 512 ≤ id) : onClipNo id run s = refuse .badArgument s :=
  if_pos h

theorem onClipNo_of_none (run : Clip → State → Answer) (hid : id < 512) (h : s.clip id = none) :
    onClipNo id run s = refuse .notFound s := by
  rw [onClipNo, if_neg (show ¬ maxClips ≤ id from not_le.mpr hid), h]

theorem onClipNo_of_some (run : Clip → State → Answer) (hid : id < 512) (h : s.clip id = some c) :
    onClipNo id run s = run c s := by
  rw [onClipNo, if_neg (show ¬ maxClips ≤ id from not_le.mpr hid), h]

theorem State.onClip_of_some (h : s.clip id = some c) (f : Clip → Clip) :
    s.onClip id f = { s with clips := s.clips.insert id (f c) } := by
  have hfind : s.clips.find id = some c := h
  rw [State.onClip, hfind]

end

/-! ## Releases change the store alone (R41, R84) -/

/-- Every part but the store is the same. -/
def SameButStore (s t : State) : Prop := ∃ st, t = { s with store := st }

namespace SameButStore

theorem refl (s : State) : SameButStore s s := ⟨s.store, rfl⟩

theorem trans {s t u : State} (h : SameButStore s t) (k : SameButStore t u) : SameButStore s u := by
  obtain ⟨_, rfl⟩ := h
  obtain ⟨st, rfl⟩ := k
  exact ⟨st, rfl⟩

theorem onStore (f : Store → Store) (s : State) : SameButStore s (s.onStore f) := ⟨f s.store, rfl⟩

theorem onAllotment (i : Fin 8) (f : Allotment → Allotment) (s : State) : SameButStore s (s.onAllotment i f) := ⟨_, rfl⟩

theorem foldl {α : Type} {f : State → α → State} (hf : ∀ s a, SameButStore s (f s a)) (l : List α) (s : State) :
    SameButStore s (l.foldl f s) := by
  induction l generalizing s with
  | nil => exact refl s
  | cons a l ih => exact (hf s a).trans (ih _)

theorem recomputeRecall (i : Fin 8) (s : State) : SameButStore s (recomputeRecall i s) := ⟨_, rfl⟩

theorem releaseHold (s : State) (x : Nat) : SameButStore s (releaseHold s x) := by
  rw [releaseHold_cases]
  split
  · exact (onStore _ s).trans (onAllotment _ _ _)
  · exact onStore _ s

theorem releaseHolds (slots : List Nat) (s : State) : SameButStore s (releaseHolds slots s) := by
  unfold Machine.releaseHolds
  refine (foldl releaseHold slots s).trans (foldl (fun t i => ?_) allEight _)
  split
  · exact refl t
  · exact recomputeRecall i t

end SameButStore

section
variable (slots : List Nat) (s : State)

@[simp] theorem releaseHolds_clips : (releaseHolds slots s).clips = s.clips := by
  obtain ⟨st, h⟩ := SameButStore.releaseHolds slots s
  rw [h]

@[simp] theorem releaseHolds_groups : (releaseHolds slots s).groups = s.groups := by
  obtain ⟨st, h⟩ := SameButStore.releaseHolds slots s
  rw [h]

@[simp] theorem releaseHolds_group (i : Fin 4) : (releaseHolds slots s).group i = s.group i :=
  congrArg (Four.get · i) (releaseHolds_groups slots s)

end

/-! ## SET CLIP LABEL (R68) -/

section
variable {o : Origin} {id : Nat} {l : List Byte} {s : State}

theorem exec_setClipLabel : exec (.setClipLabel o id l) s = takeRequest o 10 (setClipLabel id l) s := rfl

theorem setClipLabel_of_malformed (h : 512 ≤ id ∨ 16 < l.length) : setClipLabel id l s = refuse .badArgument s := by
  unfold setClipLabel
  split
  · rfl
  · exact onClipNo_of_le _ (h.resolve_right ‹_›)

theorem setClipLabel_of_length_le (h : l.length ≤ 16) :
    setClipLabel id l s = onClipNo id (fun _ s => accept [] (s.onClip id fun c =>
      { c with label := if l.length = 0 then none else some l })) s := by
  simp only [setClipLabel, if_neg (not_lt.mpr h), List.length_eq_zero_iff]

theorem setClipLabel_of_none (hl : l.length ≤ 16) (hid : id < 512) (h : s.clip id = none) :
    setClipLabel id l s = refuse .notFound s :=
  (setClipLabel_of_length_le hl).trans (onClipNo_of_none _ hid h)

theorem setClipLabel_of_some (hl : l.length ≤ 16) (hid : id < 512) {c : Clip} (h : s.clip id = some c) :
    setClipLabel id l s = accept []
      { s with clips := s.clips.insert id { c with label := if l.length = 0 then none else some l } } := by
  rw [setClipLabel_of_length_le hl, onClipNo_of_some _ hid h, State.onClip_of_some h]

end

/-! ## DROP CLIP (R69, R90) -/

section
variable {o : Origin} {id : Nat} {s : State} {c : Clip}

theorem exec_dropClip : exec (.dropClip o id) s = takeRequest o 11 (dropClip id) s := rfl

/-- A clip that leaves the table: its entry goes, and its group's open clip when it is that one. -/
theorem removeClip_eq (id : Nat) (c : Clip) (s : State) :
    removeClip id c s =
      { s with
        clips := s.clips.erase id
        groups := if (s.group c.group).openClip = some id then
            s.groups.set c.group { s.group c.group with openClip := none }
          else s.groups } := by
  by_cases h : (s.group c.group).openClip = some id
  · rw [if_pos h]
    exact if_pos h
  · rw [if_neg h]
    exact if_neg h

/-- The clip leaves the table after its holds are released: the release changes neither the table nor the groups. -/
theorem removeClip_releaseHolds (id : Nat) (c : Clip) (slots : List Nat) (s : State) :
    removeClip id c (releaseHolds slots s) =
      { releaseHolds slots s with
        clips := s.clips.erase id
        groups := if (s.group c.group).openClip = some id then
            s.groups.set c.group { s.group c.group with openClip := none }
          else s.groups } := by
  rw [removeClip_eq, releaseHolds_group, releaseHolds_clips, releaseHolds_groups]

theorem dropClip_of_protecting (hid : id < 512) (h : s.clip id = some c) (hstate : c.state = .protecting) :
    dropClip id s = refuse .busy s := by
  rw [dropClip, onClipNo_of_some _ hid h, if_pos hstate]

theorem dropClip_of_used (hid : id < 512) (h : s.clip id = some c) (hstate : c.state ≠ .protecting)
    (huse : c.useCount ≠ 0) : dropClip id s = refuse .inUse s := by
  rw [dropClip, onClipNo_of_some _ hid h, if_neg hstate, if_pos huse]

theorem dropClip_of_unused (hid : id < 512) (h : s.clip id = some c) (hstate : c.state ≠ .protecting)
    (huse : c.useCount = 0) :
    dropClip id s =
      accept [] (raise s.houseTime (.clipDropped id c.group c.inPoint c.outPoint .requested)
        (removeClip id c (releaseHolds (c.protection.elim [] Protection.slots) s))) := by
  rw [dropClip, onClipNo_of_some _ hid h, if_neg hstate, if_neg (not_not.mpr huse)]
  cases c.protection <;> rfl

end

end Sys2Proof.Machine

namespace Sys2Proof.Proofs

open Sys2Proof.Machine

/-- Settles O35: each request's refusals by the check that fails, then the label replaced, and the clip removed after its
holds are released. -/
theorem clipLabelAndDrop : Obligations.ClipLabelAndDrop := by
  intro o id s htake b
  refine ⟨fun l hbad => ?labelMalformed, fun l hid hl hnone => ?labelNotFound, fun hid => ?dropMalformed,
    fun hid hnone => ?dropNotFound, fun c hid hc => ⟨fun l hl => ?label, ?drop⟩⟩
  case labelMalformed => exact exec_setClipLabel.trans (takeRequest_refused htake (setClipLabel_of_malformed hbad))
  case labelNotFound => exact exec_setClipLabel.trans (takeRequest_refused htake (setClipLabel_of_none hl hid hnone))
  case dropMalformed => exact exec_dropClip.trans (takeRequest_refused htake (onClipNo_of_le _ hid))
  case dropNotFound => exact exec_dropClip.trans (takeRequest_refused htake (onClipNo_of_none _ hid hnone))
  case label => exact exec_setClipLabel.trans (takeRequest_accepted htake (setClipLabel_of_some hl hid hc))
  case drop =>
    rw [exec_dropClip]
    by_cases hstate : c.state = .protecting
    · rw [if_pos hstate]
      exact takeRequest_refused htake (dropClip_of_protecting hid hc hstate)
    rw [if_neg hstate]
    by_cases huse : c.useCount ≠ 0
    · rw [if_pos huse]
      exact takeRequest_refused htake (dropClip_of_used hid hc hstate huse)
    rw [if_neg huse, takeRequest_accepted htake (dropClip_of_unused hid hc hstate (not_not.mp huse)),
      removeClip_releaseHolds]
    rfl

end Sys2Proof.Proofs
end

section
/-! PROOFS. PLAY, STOP and SHUTTLE (R97 to R99): the channel a number names, the flag a byte gives, the states that take
a speed request, the page being UPDATING, and each request's answer by its checks. -/

namespace Sys2Proof.Machine

/-! ## Operands of a channel request (R93, R180) -/

theorem recordNo_val {k : Nat} (i : Fin k) : recordNo k i.val = some i := dif_pos i.isLt

theorem onChannelNo_val (ch : Fin 4) (run : Fin 4 → State → Answer) : onChannelNo ch.val run = run ch := by
  funext s
  rw [onChannelNo, recordNo_val]

theorem withFlag_ite (b : Bool) (run : Bool → State → Answer) : withFlag (if b then 1 else 0) run = run b := by
  cases b <;> rfl

/-! ## What the checks ask (R92, R135) -/

theorem Channel.playing_iff (c : Channel) :
    c.playing = true ↔ c.state = .cued ∨ c.state = .running ∨ c.state = .inBreak := by
  unfold Channel.playing
  cases c.state <;> simp

theorem State.listUpdating_iff (s : State) (ch : Fin 4) :
    s.listUpdating ch = true ↔ ∃ p l, s.cues.commit = some p ∧ (s.channel ch).cueBinding = some l ∧
      l.first ≤ p ∧ p < l.first + l.count := by
  simp only [State.listUpdating, Channel.listHas, Option.any_eq_true, decide_eq_true_eq]
  constructor
  · rintro ⟨p, hp, l, hl, hle, hlt⟩
    exact ⟨p, l, hp, hl, hle, hlt⟩
  · rintro ⟨p, l, hp, hl, hle, hlt⟩
    exact ⟨p, hp, l, hl, hle, hlt⟩

/-! ## Two updates of one channel -/

theorem State.onChannel_onChannel (s : State) (ch : Fin 4) (f g : Channel → Channel) :
    (s.onChannel ch f).onChannel ch g = s.onChannel ch fun c => g (f c) := by
  simp only [State.onChannel, Four.get_set, if_pos, Four.set_set]

theorem State.onChannel_congr {s : State} {ch : Fin 4} {f g : Channel → Channel}
    (h : f (s.channel ch) = g (s.channel ch)) : s.onChannel ch f = s.onChannel ch g :=
  congrArg (fun c => { s with channels := s.channels.set ch c }) h

/-! ## PLAY (R97) -/

/-- The channel record after a PLAY that is taken: a CUED channel is RUNNING as well. -/
def Channel.played (v : Int) (immediate : Bool) (c : Channel) : Channel :=
  { c.play v immediate with state := if c.state = .cued then .running else c.state }

section
variable {o : Origin} {ch : Fin 4} {v : Int} {immediate : Bool} {s : State} {c : Channel}

theorem Channel.played_of_cued (h : c.state = .cued) :
    c.played v immediate = { c.play v immediate with state := .running } := by
  rw [Channel.played, if_pos h]

theorem Channel.played_of_not_cued (h : c.state ≠ .cued) : c.played v immediate = c.play v immediate :=
  congrArg (fun st => { c.play v immediate with state := st }) (if_neg h)

theorem exec_play :
    exec (.play o ch.val v (if immediate then 1 else 0)) s = takeRequest o 19 (play v immediate ch) s := by
  change takeRequest o 19 (onChannelNo ch.val fun ch => withFlag _ fun b => play v b ch) s = _
  rw [onChannelNo_val, withFlag_ite]

theorem play_of_not_playing (h : (s.channel ch).playing = false) : play v immediate ch s = refuse .refusedState s := by
  simp only [play, h, Bool.not_false, if_true]

theorem play_of_updating (h : (s.channel ch).playing = true) (hu : s.listUpdating ch = true) :
    play v immediate ch s = refuse .busy s := by
  simp only [play, h, hu, Bool.not_true, Bool.false_eq_true, if_false, if_true]

theorem play_of_playing (h : (s.channel ch).playing = true) (hu : s.listUpdating ch = false) :
    play v immediate ch s = accept (beInt 2 (clampSpeed v))
      (if (s.channel ch).state = .cued then
        sampleBreak ch s.houseTime (s.onChannel ch (Channel.played (clampSpeed v) immediate))
      else s.onChannel ch (Channel.played (clampSpeed v) immediate)) := by
  simp only [play, h, hu, Bool.not_true, Bool.false_eq_true, if_false]
  by_cases hcued : (s.channel ch).state = .cued
  · rw [if_pos hcued, if_pos hcued, State.onChannel_onChannel,
      State.onChannel_congr (Channel.played_of_cued hcued).symm]
  · rw [if_neg hcued, if_neg hcued, State.onChannel_congr (Channel.played_of_not_cued hcued).symm]

end

/-! ## STOP (R98) -/

section
variable {o : Origin} {ch : Fin 4} {immediate : Bool} {s : State}

theorem exec_stop :
    exec (.stop o ch.val (if immediate then 1 else 0)) s = takeRequest o 20 (stopPlay immediate ch) s := by
  change takeRequest o 20 (onChannelNo ch.val fun ch => withFlag _ fun b => stopPlay b ch) s = _
  rw [onChannelNo_val, withFlag_ite]

theorem stopPlay_of_not_playing (h : (s.channel ch).playing = false) :
    stopPlay immediate ch s = refuse .refusedState s := by
  simp only [stopPlay, h, Bool.not_false, if_true]

theorem stopPlay_of_playing (h : (s.channel ch).playing = true) :
    stopPlay immediate ch s = accept [] (s.onChannel ch fun c =>
      { c with target := 0, speed := if immediate = true ∨ c.state = .inBreak then 0 else c.speed }) := by
  simp only [stopPlay, h, Bool.not_true, Bool.false_eq_true, if_false]

end

/-! ## SHUTTLE (R99) -/

section
variable {o : Origin} {ch : Fin 4} {v : Int} {s : State}

theorem exec_shuttle : exec (.shuttle o ch.val v) s = takeRequest o 21 (shuttle v ch) s := by
  change takeRequest o 21 (onChannelNo ch.val (shuttle v)) s = _
  rw [onChannelNo_val]

theorem shuttle_of_not_ready (h : ¬((s.channel ch).state = .cued ∨ (s.channel ch).state = .running)) :
    shuttle v ch s = refuse .refusedState s := if_pos h

theorem shuttle_of_updating (h : (s.channel ch).state = .cued ∨ (s.channel ch).state = .running)
    (hu : s.listUpdating ch = true) : shuttle v ch s = refuse .busy s := by
  rw [shuttle, if_neg (not_not.mpr h), if_pos hu]

theorem shuttle_of_ready (h : (s.channel ch).state = .cued ∨ (s.channel ch).state = .running)
    (hu : s.listUpdating ch = false) :
    shuttle v ch s = accept (beInt 2 (clampSpeed v)) (s.onChannel ch fun c =>
      { c with
        source := .shuttle, target := clampSpeed v, holdOff := c.config.shuttleHoldOff, hold := 0,
        state := .running }) := by
  rw [shuttle, if_neg (not_not.mpr h), if_neg (by simp [hu])]

end

end Sys2Proof.Machine

namespace Sys2Proof.Proofs

open Sys2Proof.Machine

/-- Settles O41: each request's refusals by the check that fails, then the fields it sets when every check passes. The
checks read the same channel and cue memory before and after the arbiter's turn. -/
theorem speedRequests : Obligations.SpeedRequests := by
  intro o ch v immediate s htake b c v' f updating played
  have hplaying : (b.channel ch).playing = true ↔ c.state = .cued ∨ c.state = .running ∨ c.state = .inBreak :=
    c.playing_iff
  have hupdating : b.listUpdating ch = true ↔ updating := b.listUpdating_iff ch
  have hidle (h : ¬updating) : b.listUpdating ch = false := Bool.eq_false_iff.mpr (h ∘ hupdating.mp)
  refine ⟨fun hstate => ?refused, fun hstate => ?shuttleRefused, fun hstate => ?taken, fun hstate => ?shuttleTaken⟩
  case refused =>
    have hnot : (b.channel ch).playing = false := Bool.eq_false_iff.mpr (hstate ∘ hplaying.mp)
    exact ⟨exec_play.trans (takeRequest_refused htake (play_of_not_playing hnot)),
      exec_stop.trans (takeRequest_refused htake (stopPlay_of_not_playing hnot))⟩
  case shuttleRefused => exact exec_shuttle.trans (takeRequest_refused htake (shuttle_of_not_ready hstate))
  case taken =>
    have hplay : (b.channel ch).playing = true := hplaying.mpr hstate
    refine ⟨fun hu => ?playBusy, fun hu => ?play, ?stop⟩
    case playBusy => exact exec_play.trans (takeRequest_refused htake (play_of_updating hplay (hupdating.mpr hu)))
    case play => exact exec_play.trans (takeRequest_accepted htake (play_of_playing hplay (hidle hu)))
    case stop => exact exec_stop.trans (takeRequest_accepted htake (stopPlay_of_playing hplay))
  case shuttleTaken =>
    refine ⟨fun hu => ?shuttleBusy, fun hu => ?shuttle⟩
    case shuttleBusy =>
      exact exec_shuttle.trans (takeRequest_refused htake (shuttle_of_updating hstate (hupdating.mpr hu)))
    case shuttle => exact exec_shuttle.trans (takeRequest_accepted htake (shuttle_of_ready hstate (hidle hu)))

end Sys2Proof.Proofs
end

section
/-! PROOFS. The ramp of a step (R111): the clamp by its three cases, the ramped speed by the distance left to the target,
and the ramp a speed source gives. -/

namespace Sys2Proof.Machine

theorem clampInt_of_above {lo hi x : Int} (hle : lo ≤ hi) (h : hi < x) : clampInt lo hi x = hi := by
  rw [clampInt, min_eq_left h.le, max_eq_right hle]

theorem clampInt_of_below {lo hi x : Int} (hle : lo ≤ hi) (h : x < lo) : clampInt lo hi x = lo := by
  rw [clampInt, min_eq_right (h.le.trans hle), max_eq_left h.le]

theorem clampInt_of_within {lo hi x : Int} (hlo : lo ≤ x) (hhi : x ≤ hi) : clampInt lo hi x = x := by
  rw [clampInt, min_eq_right hhi, max_eq_right hlo]

/-- The ramped speed by the distance left: a full ramp up, a full ramp down, or the target itself (R111). -/
theorem rampSpeed_eq (a : Nat) (v target : Int) :
    rampSpeed a v target =
      if (a : Int) = 0 then target else if a < target - v then v + a else if target - v < -a then v - a else target := by
  have hle : -(a : Int) ≤ a := by omega
  by_cases hzero : a = 0
  · rw [rampSpeed, if_pos hzero, if_pos (Int.natCast_eq_zero.mpr hzero)]
  rw [rampSpeed, if_neg hzero, if_neg (hzero ∘ Int.natCast_eq_zero.mp)]
  by_cases hup : (a : Int) < target - v
  · rw [if_pos hup, clampInt_of_above hle hup]
  rw [if_neg hup]
  by_cases hdown : target - v < -a
  · rw [if_pos hdown, clampInt_of_below hle hdown, ← sub_eq_add_neg]
  · rw [if_neg hdown, clampInt_of_within (not_lt.mp hdown) (not_lt.mp hup), add_sub_cancel]

/-- A ramp never overshoots: bounds that hold of the speed and of the target hold of the ramped speed (R111). -/
theorem rampSpeed_mem_Icc {a : Nat} {v target lo hi : Int} (hv : v ∈ Set.Icc lo hi) (ht : target ∈ Set.Icc lo hi) :
    rampSpeed a v target ∈ Set.Icc lo hi := by
  obtain ⟨hvlo, hvhi⟩ := hv
  obtain ⟨htlo, hthi⟩ := ht
  rw [rampSpeed_eq]
  split_ifs with hzero hup hdown
  · exact ⟨htlo, hthi⟩
  · constructor <;> omega
  · constructor <;> omega
  · exact ⟨htlo, hthi⟩

theorem Channel.natCast_ramp (c : Channel) :
    (c.ramp : Int) = if c.source = .program then (c.config.programRamp : Int) else c.config.shuttleRamp := by
  cases hsource : c.source <;> simp [Channel.ramp, hsource]

end Sys2Proof.Machine

namespace Sys2Proof.Proofs

open Sys2Proof.Machine

/-- Settles O45: the speed named there is the ramped speed, which stays within any bounds of the speed and the target. -/
theorem rampTowardTarget : Obligations.RampTowardTarget := by
  intro c a v'
  have hramped : rampSpeed c.ramp c.speed c.target = v' := by
    rw [rampSpeed_eq, c.natCast_ramp]
  refine ⟨congrArg (fun v => { c with speed := v }) hramped, fun hvlo hvhi htlo hthi => ?_⟩
  exact hramped ▸ rampSpeed_mem_Icc ⟨hvlo, hvhi⟩ ⟨htlo, hthi⟩

end Sys2Proof.Proofs
end

section
/-! PROOFS. REQUEST BREAK and CONTINUE (R152, R155): the answer of each request by the channel's state. -/

namespace Sys2Proof.Machine

/-! ## REQUEST BREAK (R152) -/

section
variable {o : Origin} {ch : Fin 4} {s : State}

theorem exec_requestBreak : exec (.requestBreak o ch.val) s = takeRequest o 35 (requestBreak ch) s := by
  change takeRequest o 35 (onChannelNo ch.val requestBreak) s = _
  rw [onChannelNo_val]

theorem requestBreak_of_not_playing (h : (s.channel ch).playing = false) :
    requestBreak ch s = refuse .refusedState s := by
  simp only [requestBreak, h, Bool.false_eq_true, if_false]

theorem requestBreak_of_playing (h : (s.channel ch).playing = true) :
    requestBreak ch s = accept (flag true ++ flag (s.channel ch).breakAnnounced)
      (s.onChannel ch fun c => { c with breakRequested := true }) := by
  simp only [requestBreak, h, if_true, State.channel_onChannel, Channel.breakFlags]

end

/-! ## CONTINUE (R155) -/

section
variable {o : Origin} {ch : Fin 4} {s : State}

theorem exec_continue : exec (.continue_ o ch.val) s = takeRequest o 36 (continueBreak ch) s := by
  change takeRequest o 36 (onChannelNo ch.val continueBreak) s = _
  rw [onChannelNo_val]

theorem continueBreak_of_halted {cause : HaltCause} (h : (s.channel ch).state = .halted cause) :
    continueBreak ch s = refuse .refusedState s := by
  simp only [continueBreak, h]

/-- In BREAK the break ends by its wrap: ENDED. -/
theorem continueBreak_of_inBreak (h : (s.channel ch).state = .inBreak) :
    continueBreak ch s =
      accept (be 1 1 ++ flag ((endBreak ch .continue_ s).channel ch).breakRequested ++
        flag ((endBreak ch .continue_ s).channel ch).breakAnnounced) (endBreak ch .continue_ s) := by
  simp only [continueBreak, h, Channel.breakFlags, List.append_assoc]

/-- RUNNING with its pass announced: the announcement goes, and a standing request stays: CANCELLED. -/
theorem continueBreak_of_announced (h : (s.channel ch).state = .running)
    (ha : (s.channel ch).breakAnnounced = true) :
    continueBreak ch s = accept (be 1 2 ++ flag (s.channel ch).breakRequested ++ flag false)
      (s.onChannel ch fun c => { c with breakAnnounced := false }) := by
  simp only [continueBreak, h, ha, if_true, State.channel_onChannel, Channel.breakFlags, List.append_assoc]

/-- With no break to end and none to cancel, the state stays as it was: NONE. -/
theorem continueBreak_of_no_break
    (h : (s.channel ch).state = .idle ∨ (s.channel ch).state = .cued ∨
      (s.channel ch).state = .running ∧ (s.channel ch).breakAnnounced = false) :
    continueBreak ch s =
      accept (be 1 3 ++ flag (s.channel ch).breakRequested ++ flag (s.channel ch).breakAnnounced) s := by
  rw [List.append_assoc]
  rcases h with hidle | hcued | ⟨hrun, ha⟩
  · simp only [continueBreak, hidle, Channel.breakFlags]
  · simp only [continueBreak, hcued, Channel.breakFlags]
  · simp only [continueBreak, hrun, ha, Bool.false_eq_true, if_false, Channel.breakFlags]

end

end Sys2Proof.Machine

namespace Sys2Proof.Proofs

open Sys2Proof.Machine

/-- Settles O53: REQUEST BREAK by whether the channel is playing, CONTINUE by the state it finds the channel in. The
channel is the same before and after the arbiter's turn. -/
theorem breakRequests : Obligations.BreakRequests := by
  intro o ch s htake b c byte
  refine ⟨?request, fun k hk => ?halted, fun hbreak => ?ended, fun hrun hann => ?cancelled, fun hnone => ?none⟩
  case request =>
    rw [exec_requestBreak]
    by_cases hstate : c.state = .cued ∨ c.state = .running ∨ c.state = .inBreak
    · have hplay : (b.channel ch).playing = true := c.playing_iff.mpr hstate
      rw [if_pos hstate]
      exact takeRequest_accepted htake (requestBreak_of_playing hplay)
    · have hnot : (b.channel ch).playing = false := Bool.eq_false_iff.mpr (hstate ∘ c.playing_iff.mp)
      rw [if_neg hstate]
      exact takeRequest_refused htake (requestBreak_of_not_playing hnot)
  case halted => exact exec_continue.trans (takeRequest_refused htake (continueBreak_of_halted hk))
  case ended => exact exec_continue.trans (takeRequest_accepted htake (continueBreak_of_inBreak hbreak))
  case cancelled => exact exec_continue.trans (takeRequest_accepted htake (continueBreak_of_announced hrun hann))
  case none => exact exec_continue.trans (takeRequest_accepted htake (continueBreak_of_no_break hnone))

end Sys2Proof.Proofs
end

section
/-! PROOFS. The part's invariants, step by step: every event is a chain of changes, each of which writes one record or the few
records that an invariant ties together. A change carries what the invariants ask of it, so that each invariant is proved once
for every change and holds for every chain. -/

namespace Sys2Proof.Machine

/-! ## What a change of one record keeps -/

/-- Every cue of every page is one that a commit lets in (R134). -/
def State.PagesOk (s : State) : Prop := ∀ page ∈ s.cues.pages, ∀ q ∈ page, cueOk q = true

/-- A channel that is CUED, RUNNING or BREAK has an output route on an UP link (R93). -/
def State.Routed (s : State) (c : Channel) : Prop :=
  c.playing = true → ∃ r, c.config.route = some r ∧ (s.port r.link).up = true

/-- A channel's position is a grain time, and within the bounds of its binding while the channel plays (R92). -/
def State.Placed (s : State) (c : Channel) : Prop :=
  c.position < 2 ^ 52 ∧ (c.playing = true → c.binding ≠ .unbound) ∧
    (c.playing = true → ∀ id a, c.binding = .clip id a →
      ∃ k out, s.clip id = some k ∧ k.state ≠ .opened ∧ k.state ≠ .closing ∧ k.outPoint = some out ∧
        k.inPoint ≤ c.position ∧ c.position ≤ out) ∧
    (c.playing = true → ∀ origin i, c.binding = .free origin i →
      c.state ≠ .inBreak ∧ ∃ edge, s.liveEdge i = some edge ∧ c.position ≤ edge)

/-- The counters of a link are 16-bit counts (R190). -/
def Link.Counted (p : Link) : Prop :=
  p.badCheck ≤ 65535 ∧ p.unrouted ≤ 65535 ∧ p.forwardDrop ≤ 65535 ∧ p.replyDrop ≤ 65535

/-- What a change of one channel record keeps. -/
structure ChannelKept (s : State) (c c' : Channel) : Prop where
  range : s.PagesOk → c.inRange → c'.inRange
  clipId : c'.binding.clipId = c.binding.clipId
  routed : s.Routed c → s.Routed c'
  placed : KeysOrdered s → ClipPointsOrdered s → s.Placed c → s.Placed c'

/-- What a change of one link port keeps; a link goes DOWN only when no playing channel is routed to it. -/
structure LinkKept (s : State) (l : Fin 2) (p p' : Link) : Prop where
  bounded : p.bounded → p'.bounded
  counted : p.Counted → p'.Counted
  up : p'.up = true ∨ p.up = false ∨
    ∀ ch, (s.channel ch).playing = true → ∀ r, (s.channel ch).config.route = some r → r.link ≠ l

/-- What a change of one clip record keeps, but for its in-point, label and holes. -/
structure ClipKept (c c' : Clip) : Prop where
  group : c'.group = c.group
  state : c'.state = c.state
  outPoint : c'.outPoint = c.outPoint
  angles : c'.angles = c.angles
  useCount : c'.useCount = c.useCount
  extents : c'.protection.map Protection.extents = c.protection.map Protection.extents

/-- A walk is at an angle of a PROTECTING clip (R77). -/
def State.WalkFits (s : State) (w : Walk) : Prop :=
  ∃ c p, s.clip w.clip = some c ∧ c.state = .protecting ∧ c.protection = some p ∧ w.angle < p.extents.length ∧
    w.periods.length = p.extents.length ∧ c.angles.length = p.extents.length

/-- What a chain of changes may write beside the blocks that every chain may write: which channels, the read service with the
engine, and the links. -/
structure Scope where
  channels : Fin 4 → Prop
  reads : Prop
  links : Prop

/-- Every block may be written. -/
def Scope.all : Scope := ⟨fun _ => True, True, True⟩

/-- One change of the part. -/
inductive Change (S : Scope) (s : State) : State → Prop
  | timer (f : Timer → Timer) (h : s.timer.lawful → (f s.timer).lawful) : Change S s (s.onTimer f)
  | endpoint (f : Endpoint → Endpoint) (h : s.endpoint.bounded → (f s.endpoint).bounded) : Change S s (s.onEndpoint f)
  | lines (t : Eight Line) : Change S s { s with lines := t }
  | cues (m : CueMemory) (h : s.PagesOk → ∀ page ∈ m.pages, ∀ q ∈ page, cueOk q = true) : Change S s { s with cues := m }
  | resetHeld (b : Bool) : Change S s { s with resetHeld := b }
  | freeIndex (n : Nat) : Change S s { s with freeIndex := n }
  | latch (n : Fin 8) (f : Latch → Latch)
      (h : (s.latch n).overrun ≤ 65535 ∧ (s.latch n).ignored ≤ 65535 →
        (f (s.latch n)).overrun ≤ 65535 ∧ (f (s.latch n)).ignored ≤ 65535) : Change S s (s.onLatch n f)
  | port (hS : S.links) (l : Fin 2) (f : Link → Link) (h : LinkKept s l (s.port l) (f (s.port l))) :
      Change S s (s.onPort l f)
  | reads (hS : S.reads) (service : Option ReadEntry) (queue : List ReadEntry) :
      Change S s { s with store := { s.store with service := service, queue := queue } }
  | errors (n : Nat) (h : s.store.errors ≤ 65535 → n ≤ 65535) : Change S s { s with store := { s.store with errors := n } }
  | lookup (hS : S.reads) (l : LookupState) (w : Bool) :
      Change S s { s with engine := { s.engine with lookup := l, withdrawn := w } }
  | walk (hS : S.reads) (w : Walk) (h : WalkSound s → s.WalkFits w) :
      Change S s { s with engine := { s.engine with walk := some w } }
  | idle (hS : S.reads) : Change S s (idleEngine s)
  | channel (ch : Fin 4) (hS : S.channels ch) (f : Channel → Channel)
      (h : ChannelKept s (s.channel ch) (f (s.channel ch))) : Change S s (s.onChannel ch f)
  /-- The three counters of a stream (R190). -/
  | streamCounters (i : Fin 8) (a b c : Nat)
      (h : (s.stream i).torn ≤ 65535 ∧ (s.stream i).stale ≤ 65535 ∧ (s.stream i).skew ≤ 65535 →
        a ≤ 65535 ∧ b ≤ 65535 ∧ c ≤ 65535) :
      Change S s (s.onStream i fun r => { r with torn := a, stale := b, skew := c })
  | abandon (i : Fin 8) : Change S s (abandon i s)
  | startFrame (i : Fin 8) (key : Nat) (payload : Band) (t : State) (hen : (s.stream i).enabled = true)
      (hkey : key < 2 ^ 40 * (s.stream i).multiple) (hlive : ∀ live, (s.stream i).lastKey = some live → live < key)
      (h : startFrame i key payload s = .next t) : Change S s t
  | continueFrame (i : Fin 8) (a : Assembly) (payload : Band) (h : (s.stream i).assembly = some a) :
      Change S s (continueFrame i a payload s)
  | enable (i : Fin 8) (l : Fin 2) (sourceId k : Nat) (hargs : multipleOk k = true ∧ sourceId ≤ 255)
      (hoff : (s.stream i).enabled = false) (hsize : 0 < (s.allotment i).size)
      (hk : (s.stream i).lastKey.isSome = true → k = (s.stream i).multiple) (hroute : routeTaken i sourceId l s = false)
      (hbudget : budgetOfOthers i s + k ≤ 32) :
      Change S s (s.onStream i fun t =>
        { t with enabled := true, source := sourceId, link := l, multiple := k, assembly := none })
  | disable (i : Fin 8) (h : (s.stream i).assembly = none) : Change S s (s.onStream i fun t => { t with enabled := false })
  | configureStore (hS : S.reads) (pairs : Eight (Nat × Nat)) (h : configureStoreCheck (Eight.toList pairs) s = none) :
      Change S s { s with
        store := s.store.configure pairs
        streams := forgetKeys s.streams
        engine := { s.engine with withdrawn := false } }
  /-- A mark group's settings (R55). -/
  | group (g : Fin 4) (f : MarkGroup → MarkGroup) (h : (f (s.group g)).openClip = (s.group g).openClip) :
      Change S s (s.onGroup g f)
  /-- A new OPEN clip becomes its group's open clip (R61). -/
  | openGroup (g : Fin 4) (id : Nat) (c : Clip) (h : s.clip id = some c) (hopen : c.state = .opened) (hg : c.group = g) :
      Change S s (s.onGroup g fun r => { r with openClip := some id })
  | clip (id : Nat) (c c' : Clip) (h : s.clip id = some c) (hk : ClipKept c c') (hin : c'.inPoint = c.inPoint) :
      Change S s { s with clips := s.clips.insert id c' }
  /-- A group's open clip is marked in again (R61). -/
  | remark (g : Fin 4) (id t : Nat) (c : Clip) (h : s.clip id = some c) (hg : (s.group g).openClip = some id)
      (ht : t < 2 ^ 52) : Change S s { s with clips := s.clips.insert id { c with inPoint := t } }
  /-- A group's open clip gets its out-point and leaves the group (R62). -/
  | closeOut (g : Fin 4) (id t now : Nat) (c : Clip) (h : s.clip id = some c) (hg : (s.group g).openClip = some id)
      (hin : c.inPoint < t) (ht : t < 2 ^ 52) :
      Change S s (({ s with clips := s.clips.insert id { c with outPoint := some t, state := closedBy t now } } : State).onGroup
        g fun r => { r with openClip := none })
  /-- A new clip takes the lowest free id (R56). -/
  | create (id : Nat) (c : Clip) (hid : lowestFree s.clips = some id) (huse : c.useCount = 0) (hprot : c.protection = none)
      (hstate : c.state = .opened ∨ c.state = .closed ∨ c.state = .closing) (hin : c.inPoint < 2 ^ 52)
      (hout : ∀ out, c.outPoint = some out → out < 2 ^ 52)
      (hord : c.state ≠ .opened → ∃ out, c.outPoint = some out ∧ c.inPoint ≤ out) :
      Change S s { s with clips := s.clips.insert id c }
  /-- Recycling drops a clip (R67). -/
  | recycle (id : Nat) (c : Clip) (h : (id, c) ∈ s.clips) (hrec : recyclable s c = true) :
      Change S s { s with clips := s.clips.erase id }
  | closeClips (time : Nat) : Change S s (closeClips time s)
  /-- A clip leaves the table with its holds released (R69). -/
  | drop (id : Nat) (c : Clip) (h : s.clip id = some c) (hstate : c.state ≠ .protecting) (huse : c.useCount = 0) :
      Change S s (Machine.removeClip id c (releaseHolds c.heldSlots s))
  /-- A CLOSED clip becomes PROTECTING with empty extent lists (R78). -/
  | protect (id : Nat) (c : Clip) (h : s.clip id = some c) (hstate : c.state = .closed) :
      Change S s { s with
        clips := s.clips.insert id { c with state := .protecting, protection := some ⟨c.angles.map fun _ => [], 0⟩ } }
  /-- A walk has examined every key (R85, R87). -/
  | completeWalk (hS : S.reads) (id : Nat)
      (h : WalkSound s → ∃ c, s.clip id = some c ∧ c.state = .protecting ∧ c.protection ≠ none) :
      Change S s (idleEngine (s.onClip id fun c => { c with state := .protected_ }))
  /-- A hold is taken and its slot entered in the extent list of the walk's angle (R80, R81). -/
  | holdEntered (i : Fin 8) (key x : Nat) (t : State) (w : Walk) (c : Clip) (p : Protection) (l : List Extent)
      (hw : s.engine.walk = some w) (hc : s.clip w.clip = some c) (hp : c.protection = some p)
      (hl : enterExtent w.nextKey x (p.extents.getD w.angle []) = some l) (h : takeHold i key s = (.held x, t)) :
      Change S s { t with
        clips := t.clips.insert w.clip { c with protection := some { p with extents := p.extents.set w.angle l } } }
  /-- A walk ends without success (R84, R86, R87, R89). -/
  | unwind (hS : S.reads) (w : Walk) (hw : s.engine.walk = some w) :
      Change S s (idleEngine ((releaseHolds (((s.clip w.clip).bind Clip.protection).elim [] Protection.slots) s).onClip w.clip
        fun c => { c with state := .closed, protection := none }))
  /-- A walk ends at a 33rd extent, with the hold just taken released too (R82). -/
  | fragment (hS : S.reads) (i : Fin 8) (key x : Nat) (t : State) (w : Walk) (hw : s.engine.walk = some w)
      (h : takeHold i key s = (.held x, t)) :
      Change S s (idleEngine ((releaseHolds (((t.clip w.clip).bind Clip.protection).elim [] Protection.slots ++ [x]) t).onClip
        w.clip fun c => { c with state := .closed, protection := none }))
  /-- A hold taken for a walk without its clip, which no sound state has (R77). -/
  | strayHold (i : Fin 8) (key x : Nat) (t : State) (h : takeHold i key s = (.held x, t)) (hno : ¬ WalkSound s) :
      Change S s t
  /-- A PROTECTED clip is released (R88). -/
  | release (id : Nat) (c : Clip) (p : Protection) (h : s.clip id = some c) (hstate : c.state = .protected_)
      (hp : c.protection = some p) :
      Change S s ((releaseHolds p.slots s).onClip id fun c => { c with state := .closed, protection := none })
  /-- A channel leaves its clip and is bound anew (R96). -/
  | bind (ch : Fin 4) (hS : S.channels ch) (f : BindForm) (b : Binding) (p : Nat) (h : bindTo f s = .ok (b, p))
      (hup : routeUp s (s.channel ch).config.route = true) :
      Change S s ((joinClip b (leaveClip (s.channel ch).binding s)).onChannel ch (Channel.bindAt b p))
  /-- A channel leaves its clip and is reset (R105). -/
  | resetChannel (ch : Fin 4) (hS : S.channels ch) :
      Change S s ((leaveClip (s.channel ch).binding s).onChannel ch Channel.reset)
  /-- A RUNNING channel leaves its clip at the out-point and is FREE (R115). -/
  | runOn (ch : Fin 4) (hS : S.channels ch) (tin : Nat) (stream : Fin 8) (lo hi : Nat) (x : Int)
      (hrun : (s.channel ch).state = .running) (hb : s.streamBounds stream = some (lo, hi)) :
      Change S s ((leaveClip (s.channel ch).binding s).onChannel ch fun c =>
        { c with binding := .free tin stream, position := clampPos lo hi x, breakTimer := 0 })
  | clearCounters (hS : S.links) (hC : ∀ ch, S.channels ch) : Change S s (clearCounters s)
  /-- A reset (R191, R192). -/
  | reset (hS : S = Scope.all) (id : Nat) (links : Two Link) (held : Bool)
      (h : ∀ l, ((s.port l).bounded → (links.get l).bounded) ∧ (links.get l).Counted) :
      Change S s { resetBlocks id links s with resetHeld := held }

/-- A chain of changes. -/
def Changes (S : Scope) : State → State → Prop := Relation.ReflTransGen (Change S)

theorem Change.changes {S : Scope} {s t : State} (h : Change S s t) : Changes S s t := .single h

theorem Changes.refl {S : Scope} (s : State) : Changes S s s := Relation.ReflTransGen.refl

theorem Changes.trans {S : Scope} {s t u : State} (h : Changes S s t) (k : Changes S t u) : Changes S s u :=
  Relation.ReflTransGen.trans h k

/-- A property that every change keeps is kept by every chain. -/
theorem Changes.keeps {S : Scope} {P : State → Prop} (hP : ∀ s t, Change S s t → P s → P t) {s t : State}
    (h : Changes S s t) (hs : P s) : P t := by
  induction h with
  | refl => exact hs
  | tail _ hc ih => exact hP _ _ hc ih

/-- A fold of operations that are chains of changes is one. -/
theorem Changes.foldl {S : Scope} {α : Type} {f : State → α → State} (hf : ∀ s a, Changes S s (f s a)) (l : List α)
    (s : State) : Changes S s (l.foldl f s) := by
  induction l generalizing s with
  | nil => exact refl s
  | cons a l ih => exact (hf s a).trans (ih _)

end Sys2Proof.Machine
end

section
-- The checker's memory limit counts every thread's stack: elaborate this part in order, on one thread.
set_option Elab.async false
/-! PROOFS. The channels' operations as chains of changes: the ranges, the route and the bounds that each update of a channel
record keeps, then the scanner, breaks, motion and output of a step. -/

namespace Sys2Proof.Machine

/-! ## Clamped positions -/

theorem le_clampPos (lo hi : Nat) (x : Int) : lo ≤ clampPos lo hi x := by
  unfold clampPos clampInt; omega

theorem clampPos_le {lo hi : Nat} (h : lo ≤ hi) (x : Int) : clampPos lo hi x ≤ hi := by
  unfold clampPos clampInt; omega

theorem clampSpeed_mem (v : Int) : -3072 ≤ clampSpeed v ∧ clampSpeed v ≤ 3072 := by
  unfold clampSpeed clampInt; omega

/-! ## The ranges of a channel record (R92) -/

namespace Channel.inRange

variable {c : Channel} (h : c.inRange)
include h

theorem speed {v : Int} (hv : -3072 ≤ v ∧ v ≤ 3072) : Channel.inRange { c with speed := v } := ⟨hv, h.2⟩

theorem target {v : Int} (hv : -3072 ≤ v ∧ v ≤ 3072) : Channel.inRange { c with target := v } := by
  obtain ⟨hs, -, hr⟩ := h
  exact ⟨hs, hv, hr⟩

theorem holdOff {n : Nat} (hn : n ≤ 250) : Channel.inRange { c with holdOff := n } := by
  obtain ⟨hs, ht, -, hr⟩ := h
  exact ⟨hs, ht, hn, hr⟩

theorem hold {n : Nat} (hn : n ≤ 1023) : Channel.inRange { c with hold := n } := by
  obtain ⟨hs, ht, ho, -, hr⟩ := h
  exact ⟨hs, ht, ho, hn, hr⟩

theorem breakTimer {n : Nat} (hn : n ≤ 15000) : Channel.inRange { c with breakTimer := n } := by
  obtain ⟨hs, ht, ho, hh, hk, -, hr⟩ := h
  exact ⟨hs, ht, ho, hh, hk, hn, hr⟩

theorem passCount {n : Nat} (hn : n < c.config.passPeriod) : Channel.inRange { c with passCount := n } := by
  obtain ⟨hs, ht, ho, hh, hk, hb, -, hr⟩ := h
  exact ⟨hs, ht, ho, hh, hk, hb, hn, hr⟩

theorem scanner {r : Scanner} (hr : r.index ≤ 512) : Channel.inRange { c with scanner := r } := by
  obtain ⟨hs, ht, ho, hh, hk, hb, hp, hc, -, hrest⟩ := h
  exact ⟨hs, ht, ho, hh, hk, hb, hp, hc, hr, hrest⟩

theorem stack {l : List ReturnEntry} (hl : l.length ≤ 8) (hi : ∀ e ∈ l, e.index ≤ 512) :
    Channel.inRange { c with stack := l } := by
  obtain ⟨hs, ht, ho, hh, hk, hb, hp, hc, hx, -, -, hm⟩ := h
  exact ⟨hs, ht, ho, hh, hk, hb, hp, hc, hx, hl, hi, hm⟩

theorem mixer {m : Mixer} (hscore : m.score ≤ 7) (hslip : m.slip ≤ 65535) : Channel.inRange { c with mixer := m } := by
  obtain ⟨hs, ht, ho, hh, hk, hb, hp, hc, hx, hl, hi, -⟩ := h
  exact ⟨hs, ht, ho, hh, hk, hb, hp, hc, hx, hl, hi, hscore, hslip⟩

theorem configInRange : c.config.inRange := by
  obtain ⟨-, -, -, -, hk, -⟩ := h
  exact hk

theorem passPeriod_pos : 0 < c.config.passPeriod := by
  obtain ⟨-, -, -, -, -, -, hp, -⟩ := h
  omega

theorem index_le : c.scanner.index ≤ 512 := by
  obtain ⟨-, -, -, -, -, -, -, -, hx, -⟩ := h
  exact hx

theorem stack_le : c.stack.length ≤ 8 ∧ ∀ e ∈ c.stack, e.index ≤ 512 := by
  obtain ⟨-, -, -, -, -, -, -, -, -, hl, hi, -⟩ := h
  exact ⟨hl, hi⟩

theorem mixer_le : c.mixer.score ≤ 7 ∧ c.mixer.slip ≤ 65535 := by
  obtain ⟨-, -, -, -, -, -, -, -, -, -, -, hm⟩ := h
  exact hm

/-- A cue list is at most sixteen pages of 32 cues. -/
theorem listLength_le : c.listLength ≤ 512 := by
  obtain ⟨-, -, -, -, -, -, -, hc, -⟩ := h
  unfold Channel.listLength
  cases hb : c.cueBinding with
  | none => simp
  | some b => have := hc b hb; simp only [Option.elim_some]; omega

end Channel.inRange

/-- A ramped speed stays between the speed and the target. -/
theorem Channel.inRange.ramped {c : Channel} (h : c.inRange) : c.ramped.inRange := by
  obtain ⟨hs, ht, -⟩ := id h
  exact h.speed (rampSpeed_mem_Icc hs ht)

/-! ## Bounds (R92, R101) -/

/-- The bounds a binding gives: the clip's in and out points, or the recall start and live edge of the stream. -/
def State.boundsBy (s : State) : Binding → Option (Nat × Nat)
  | .clip id _ => (s.clip id).bind fun c => c.outPoint.map fun out => (c.inPoint, out)
  | .free _ stream => s.streamBounds stream
  | .unbound => none

theorem State.bounds_eq (s : State) (ch : Fin 4) : s.bounds ch = s.boundsBy (s.channel ch).binding := by
  unfold State.bounds State.boundsBy
  cases (s.channel ch).binding <;> rfl

theorem nativePeriod_mul_le (k : Nat) : k * nativePeriod k ≤ 2880 := Nat.mul_div_le 2880 k

section
variable {s : State}

/-- The live edge of a stream is a grain time, and its recall start is at or before it. -/
theorem KeysOrdered.streamBounds (hk : KeysOrdered s) {i : Fin 8} {edge : Nat} (h : s.liveEdge i = some edge) :
    ∃ start, s.streamBounds i = some (start, edge) ∧ start ≤ edge ∧ edge < 2 ^ 52 := by
  obtain ⟨live, hl, rfl⟩ := Option.map_eq_some_iff.mp h
  obtain ⟨-, hlive, -⟩ := hk i
  obtain ⟨-, hlt, -, start, hstart, hle⟩ := hlive live hl
  refine ⟨start, by simp [State.streamBounds, hstart, h], hle, ?_⟩
  have hmul := nativePeriod_mul_le (s.stream i).multiple
  calc live * s.period i ≤ 2 ^ 40 * (s.stream i).multiple * s.period i := Nat.mul_le_mul_right _ hlt.le
    _ = 2 ^ 40 * ((s.stream i).multiple * nativePeriod (s.stream i).multiple) := Nat.mul_assoc _ _ _
    _ ≤ 2 ^ 40 * 2880 := Nat.mul_le_mul_left _ hmul
    _ < 2 ^ 52 := by norm_num

theorem KeysOrdered.le_of_streamBounds (hk : KeysOrdered s) {i : Fin 8} {lo hi : Nat} (h : s.streamBounds i = some (lo, hi)) :
    s.liveEdge i = some hi ∧ lo ≤ hi ∧ hi < 2 ^ 52 := by
  unfold State.streamBounds at h
  split at h
  · rename_i a b ha hb
    cases h
    obtain ⟨start, hs, hle, hlt⟩ := hk.streamBounds hb
    rw [State.streamBounds, ha, hb] at hs
    cases hs
    exact ⟨hb, hle, hlt⟩
  · cases h

/-- A playing channel that is placed has bounds. -/
theorem State.Placed.bounds (hk : KeysOrdered s) (hp : ClipPointsOrdered s) {c : Channel} (h : s.Placed c)
    (hplay : c.playing = true) : ∃ lo hi, s.boundsBy c.binding = some (lo, hi) ∧ lo ≤ hi ∧ hi < 2 ^ 52 := by
  obtain ⟨-, hbound, hclip, hfree⟩ := h
  cases hb : c.binding with
  | unbound => exact absurd hb (hbound hplay)
  | clip id a =>
    obtain ⟨k, out, hk', -, -, hout, hin, hle⟩ := hclip hplay id a hb
    obtain ⟨-, hlt, -⟩ := hp id k hk'
    exact ⟨k.inPoint, out, by simp [State.boundsBy, hk', hout], hin.trans hle, hlt out hout⟩
  | free origin i =>
    obtain ⟨-, edge, he, -⟩ := hfree hplay origin i hb
    obtain ⟨start, hs, hle, hlt⟩ := hk.streamBounds he
    exact ⟨start, edge, hs, hle, hlt⟩

/-- A position between the bounds of a playing channel's binding is a place for it. -/
theorem State.Placed.moved (hk : KeysOrdered s) (hp : ClipPointsOrdered s) {c c' : Channel} (h : s.Placed c)
    (hplay : c.playing = true) (hb : c'.binding = c.binding)
    (hbreak : c'.state = .inBreak → c.state = .inBreak ∨ c.binding.clipId ≠ none)
    (hpos : ∀ lo hi, s.boundsBy c.binding = some (lo, hi) → lo ≤ hi → lo ≤ c'.position ∧ c'.position ≤ hi) :
    s.Placed c' := by
  obtain ⟨lo, hi, hbounds, hle, hlt⟩ := h.bounds hk hp hplay
  obtain ⟨hlo, hhi⟩ := hpos lo hi hbounds hle
  obtain ⟨-, hbound, hclip, hfree⟩ := h
  refine ⟨hhi.trans_lt hlt, fun _ => hb ▸ hbound hplay, fun _ id a hid => ?_, fun _ origin i hi' => ?_⟩
  · rw [hb] at hid
    obtain ⟨k, out, hk', ho, hc, hout, -⟩ := hclip hplay id a hid
    rw [hid, State.boundsBy, hk', Option.bind_some, hout] at hbounds
    cases hbounds
    exact ⟨k, _, hk', ho, hc, hout, hlo, hhi⟩
  · rw [hb] at hi'
    obtain ⟨hnot, edge, he, -⟩ := hfree hplay origin i hi'
    refine ⟨fun hin => ?_, edge, he, ?_⟩
    · rcases hbreak hin with h | h
      · exact hnot h
      · simp [hi', Binding.clipId] at h
    · rw [hi'] at hbounds
      have := (hk.le_of_streamBounds hbounds).1
      rw [he] at this
      cases this
      exact hhi

end

/-! ## Updates of a channel record -/

theorem Channel.playing_congr {c c' : Channel} (h : c'.state = c.state) : c'.playing = c.playing := by
  unfold Channel.playing
  rw [h]

namespace ChannelKept

variable {s : State} {c c' : Channel}

/-- State, binding, position and configuration stay. -/
theorem same (hr : s.PagesOk → c.inRange → c'.inRange) (hst : c'.state = c.state := by rfl)
    (hb : c'.binding = c.binding := by rfl) (hp : c'.position = c.position := by rfl)
    (hk : c'.config = c.config := by rfl) : ChannelKept s c c' where
  range := hr
  clipId := by rw [hb]
  routed := by unfold State.Routed; rw [Channel.playing_congr hst, hk]; exact id
  placed _ _ := by unfold State.Placed; rw [Channel.playing_congr hst, hst, hb, hp]; exact id

/-- A playing channel moves within its bounds, with its state or not. -/
theorem moved (hr : s.PagesOk → c.inRange → c'.inRange) (hplay : c.playing = true)
    (hpos : ∀ lo hi, s.boundsBy c.binding = some (lo, hi) → lo ≤ hi → lo ≤ c'.position ∧ c'.position ≤ hi)
    (hbreak : c'.state = .inBreak → c.state = .inBreak ∨ c.binding.clipId ≠ none := by exact .inl)
    (hb : c'.binding = c.binding := by rfl) (hk : c'.config.route = c.config.route := by rfl) : ChannelKept s c c' where
  range := hr
  clipId := by rw [hb]
  routed h _ := by rw [hk]; exact h hplay
  placed hkeys hpts h := h.moved hkeys hpts hplay hb hbreak hpos

/-- A playing channel takes another state that plays, where it is. -/
theorem restated (hr : s.PagesOk → c.inRange → c'.inRange) (hplay : c.playing = true)
    (hbreak : c'.state = .inBreak → c.state = .inBreak := by exact nofun) (hb : c'.binding = c.binding := by rfl)
    (hp : c'.position = c.position := by rfl) (hk : c'.config.route = c.config.route := by rfl) :
    ChannelKept s c c' where
  range := hr
  clipId := by rw [hb]
  routed h _ := by rw [hk]; exact h hplay
  placed _ _ := by
    rintro ⟨hlt, hbound, hclip, hfree⟩
    unfold State.Placed
    rw [hb, hp]
    refine ⟨hlt, fun _ => hbound hplay, fun _ => hclip hplay, fun _ origin i hi => ?_⟩
    obtain ⟨hnot, he⟩ := hfree hplay origin i hi
    exact ⟨hnot ∘ hbreak, he⟩

/-- A channel stops playing where it is. -/
theorem stopped (hr : s.PagesOk → c.inRange → c'.inRange) (hstop : c'.playing = false)
    (hid : c'.binding.clipId = c.binding.clipId := by rfl) (hp : c'.position = c.position := by rfl) :
    ChannelKept s c c' where
  range := hr
  clipId := hid
  routed _ h := by simp [hstop] at h
  placed _ _ h := by
    have hlt : c'.position < 2 ^ 52 := hp ▸ h.1
    unfold State.Placed
    simp only [hstop, Bool.false_eq_true, false_implies, and_true]
    exact hlt

end ChannelKept

theorem Endpoint.bounded.raise {e : Endpoint} (n : Notice) (h : e.bounded) : (e.raise n).bounded := by
  obtain ⟨hlen, hnone⟩ := h
  refine ⟨Endpoint.raise_notices_length _ _ hlen, fun hr => ?_⟩
  rw [Endpoint.raise_route] at hr
  rw [Endpoint.raise_of_route_none _ _ hr]
  exact hnone hr

/-! ## Chains every operation uses -/

namespace Changes

variable {S : Scope}

theorem raise (time : Nat) (body : NoticeBody) (s : State) : Changes S s (raise time body s) :=
  (Change.endpoint _ (Endpoint.bounded.raise _)).changes

theorem onChannel {ch : Fin 4} (hch : S.channels ch) {f : Channel → Channel} {s : State}
    (h : ChannelKept s (s.channel ch) (f (s.channel ch))) : Changes S s (s.onChannel ch f) :=
  (Change.channel ch hch f h).changes

theorem onStoreReads (hS : S.reads) {f : Store → Store} {s : State}
    (hf : f s.store = { s.store with service := (f s.store).service, queue := (f s.store).queue }) :
    Changes S s (s.onStore f) := by
  have h := (Change.reads (S := S) (s := s) hS (f s.store).service (f s.store).queue).changes
  rw [← hf] at h
  exact h

theorem settleFault {ch : Fin 4} (hch : S.channels ch) (time : Nat) (s : State) :
    Changes S s (settleFault ch time s) := by
  obtain ⟨-, h⟩ | ⟨-, h⟩ := settleFault_cases s ch time <;> rw [h]
  · exact refl s
  · exact (onChannel hch (.same fun _ h => h)).trans (raise _ _ _)

theorem actOnLines (a : LineAction) (mask length : Nat) (s : State) : Changes S s (actOnLines a mask length s) := by
  refine foldl (fun t n => ?_) _ s
  split
  · exact (Change.lines _).changes
  · exact refl t

theorem countPulses (h : Nat) (s : State) : Changes S s (countPulses h s) :=
  foldl (fun _ _ => (Change.lines _).changes) _ s

/-! ## The scanner (chapter 8) -/

section
variable {ch : Fin 4} (hch : S.channels ch)
include hch

theorem warnCue (w : Warning) (index time : Nat) (s : State) : Changes S s (warnCue ch w index time s) := by
  unfold Machine.warnCue
  split
  · exact refl s
  · exact (onChannel hch (.same fun _ h => h)).trans (raise _ _ _)

theorem moveTo {s : State} {p : Nat} (hplay : (s.channel ch).playing = true)
    (hpos : ∀ lo hi, s.boundsBy (s.channel ch).binding = some (lo, hi) → lo ≤ hi → lo ≤ p ∧ p ≤ hi) :
    Changes S s (s.onChannel ch (Channel.moveTo p)) :=
  onChannel hch (.moved (fun _ h => h.scanner h.index_le) hplay hpos)

end

end Changes

/-- A channel bound to a clip takes another angle of it. -/
theorem ChannelKept.angled {s : State} {c c' : Channel} {id a b : Nat} (hb : c.binding = .clip id a)
    (hb' : c'.binding = .clip id b) (hp : c'.position = c.position) (hst : c'.state = c.state)
    (hk : c'.config.route = c.config.route) (hr : c.inRange → c'.inRange) : ChannelKept s c c' where
  range _ := hr
  clipId := by rw [hb, hb']; rfl
  routed := by unfold State.Routed; rw [Channel.playing_congr hst, hk]; exact fun h => h
  placed _ _ := by
    rintro ⟨hlt, -, hclip, -⟩
    unfold State.Placed
    rw [hb', hp, hst, Channel.playing_congr hst]
    refine ⟨hlt, fun _ => nofun, fun hplay _ _ h => ?_, fun _ _ _ => nofun⟩
    cases h
    exact hclip hplay id a hb

/-- A free channel that plays moves to another stream within that stream's bounds. -/
theorem ChannelKept.freed {s : State} {c c' : Channel} {origin origin' : Nat} {i j : Fin 8} {lo hi : Nat} {x : Int}
    (hb : c.binding = .free origin i) (hb' : c'.binding = .free origin' j)
    (hj : s.streamBounds j = some (lo, hi)) (hpos : c'.position = clampPos lo hi x) (hst : c'.state = c.state)
    (hk : c'.config.route = c.config.route) (hr : c.inRange → c'.inRange) : ChannelKept s c c' where
  range _ := hr
  clipId := by rw [hb, hb']; rfl
  routed := by unfold State.Routed; rw [Channel.playing_congr hst, hk]; exact id
  placed hkeys _ := by
    rintro ⟨-, -, -, hfree⟩
    obtain ⟨hedge, hle, hlt⟩ := hkeys.le_of_streamBounds hj
    have hmax := clampPos_le hle x
    unfold State.Placed
    rw [hb', hpos, hst, Channel.playing_congr hst]
    refine ⟨hmax.trans_lt hlt, fun _ => nofun, fun _ _ _ => nofun, fun hplay _ k h => ?_⟩
    cases h
    exact ⟨(hfree hplay origin i hb).1, hi, hedge, hmax⟩

/-- The parts of a channel record that a cue executed leaves to the scan: the index, the list and the state. -/
def CursorKept (ch : Fin 4) (s t : State) : Prop :=
  (t.channel ch).scanner.index = (s.channel ch).scanner.index ∧ (t.channel ch).cueBinding = (s.channel ch).cueBinding ∧
    (t.channel ch).state = (s.channel ch).state

namespace CursorKept

variable (ch : Fin 4) (s : State)

theorem of_channel {ch : Fin 4} {s t : State} (h : t.channel ch = s.channel ch) : CursorKept ch s t := by
  unfold CursorKept; rw [h]; exact ⟨rfl, rfl, rfl⟩

theorem onChannel {f : Channel → Channel}
    (h : (f (s.channel ch)).scanner.index = (s.channel ch).scanner.index ∧
      (f (s.channel ch)).cueBinding = (s.channel ch).cueBinding ∧ (f (s.channel ch)).state = (s.channel ch).state :=
        by exact ⟨rfl, rfl, rfl⟩) : CursorKept ch s (s.onChannel ch f) := by
  unfold CursorKept
  rw [State.channel_onChannel, if_pos rfl]
  exact h

theorem warnCue (w : Warning) (index time : Nat) : CursorKept ch s (warnCue ch w index time s) := by
  unfold Machine.warnCue
  split
  · exact of_channel rfl
  · exact onChannel ch s

theorem angleCue (n index time : Nat) : CursorKept ch s (angleCue ch n index time s).1 := by
  unfold Machine.angleCue
  split
  · split
    · exact onChannel ch s
    · exact warnCue ch s _ _ _
  · split
    · exact warnCue ch s _ _ _
    · split
      · exact warnCue ch s _ _ _
      · exact onChannel ch s
  · exact of_channel rfl

theorem trans {ch : Fin 4} {s t u : State} (h : CursorKept ch s t) (k : CursorKept ch t u) : CursorKept ch s u := by
  obtain ⟨h1, h2, h3⟩ := h
  obtain ⟨k1, k2, k3⟩ := k
  exact ⟨k1.trans h1, k2.trans h2, k3.trans h3⟩

theorem jumpCue (target index time : Nat) : CursorKept ch s (jumpCue ch target index time s) := by
  unfold Machine.jumpCue
  refine trans ?_ (onChannel ch _)
  split
  · exact warnCue ch s _ _ _
  · exact of_channel rfl

theorem actOnLines (a : LineAction) (mask length : Nat) : CursorKept ch s (actOnLines a mask length s) := by
  unfold Machine.actOnLines
  generalize allEight = l
  generalize s.timer.frames = frames
  induction l generalizing s with
  | nil => exact of_channel rfl
  | cons n l ih =>
    refine trans ?_ (ih _)
    dsimp only
    split <;> exact of_channel rfl

theorem listLength {ch : Fin 4} {s t : State} (h : CursorKept ch s t) :
    (t.channel ch).listLength = (s.channel ch).listLength := by
  unfold Channel.listLength; rw [h.2.1]

end CursorKept

theorem actOnLines_channel (a : LineAction) (mask length : Nat) (s : State) (j : Fin 4) :
    (actOnLines a mask length s).channel j = s.channel j := by
  unfold actOnLines
  generalize allEight = l
  generalize s.timer.frames = frames
  induction l generalizing s with
  | nil => rfl
  | cons n l ih =>
    rw [List.foldl_cons, ih]
    split <;> rfl

theorem State.cueAt_ok {s : State} (h : s.PagesOk) (c : Channel) (index : Nat) : cueOk (s.cueAt c index) = true := by
  have hblank : cueOk blankCue = true := by decide
  unfold State.cueAt
  cases c.cueBinding with
  | none => exact hblank
  | some b =>
    simp only [List.getD_eq_getElem?_getD]
    cases hpage : s.cues.pages[b.first + index / 32]? with
    | none => simpa using hblank
    | some page =>
      simp only [Option.getD_some]
      cases hq : page[index % 32]? with
      | none => exact hblank
      | some q => exact h page (List.mem_of_getElem? hpage) q (List.mem_of_getElem? hq)

theorem cueOk_speed {q : CueRecord} {v : Int} {f : Nat} (hb : q.body = .speed v f) (h : cueOk q = true) :
    -3072 ≤ v ∧ v ≤ 3072 := by
  simp [cueOk, hb, bodyOk] at h
  omega

theorem cueOk_hold {q : CueRecord} {n : Nat} (hb : q.body = .hold n) (h : cueOk q = true) : n ≤ 1023 := by
  simp [cueOk, hb, bodyOk] at h
  omega

namespace Changes

variable {S : Scope} {ch : Fin 4} (hch : S.channels ch)
include hch

theorem nextCue {s : State} (hidx : (s.channel ch).scanner.index < (s.channel ch).listLength) :
    Changes S s (s.onChannel ch Channel.nextCue) :=
  onChannel hch (.same fun _ h => h.scanner ((Nat.succ_le_of_lt hidx).trans h.listLength_le))

theorem executed {s : State} (hidx : (s.channel ch).scanner.index < (s.channel ch).listLength) (mark : Nat) :
    Changes S s (s.onChannel ch (Channel.executed mark)) :=
  onChannel hch (.same fun _ h => h.scanner ((Nat.succ_le_of_lt hidx).trans h.listLength_le))

theorem angleCue (n index time : Nat) (s : State) : Changes S s (angleCue ch n index time s).1 := by
  unfold Machine.angleCue
  cases hb : (s.channel ch).binding with
  | unbound => exact refl s
  | clip id a =>
    dsimp only
    split
    · dsimp only
      exact onChannel hch (.angled hb rfl rfl rfl rfl fun h => h)
    · exact warnCue hch _ _ _ _
  | free origin i =>
    dsimp only
    split
    · exact warnCue hch _ _ _ _
    · split
      · exact warnCue hch _ _ _ _
      · rename_i j _ _ lo hi hj
        dsimp only
        exact onChannel hch (.freed hb rfl hj rfl rfl rfl fun h => h.scanner h.index_le)

end Changes

/-- The target of a JUMP or a RETURN lies within the bounds of a playing channel. -/
theorem State.markPosition_within (s : State) (ch : Fin 4) (x : Int) (lo hi : Nat)
    (hb : s.boundsBy (s.channel ch).binding = some (lo, hi)) (hle : lo ≤ hi) :
    lo ≤ s.markPosition ch x ∧ s.markPosition ch x ≤ hi := by
  unfold State.markPosition
  rw [State.bounds_eq, hb]
  exact ⟨le_clampPos _ _ _, clampPos_le hle _⟩

end Sys2Proof.Machine
end

section
/-! PROOFS. The operations of a channel's step as chains of changes: cues executed, scans, wraps, breaks, motion, output and
source selection, and the boundary that makes the steps. -/

namespace Sys2Proof.Machine

/-! ## What leaves a channel's state as it is -/

/-- Rewrites a channel fact through the operations that name their channel. -/
theorem State.channel_onChannel_self (s : State) (ch : Fin 4) (f : Channel → Channel) :
    (s.onChannel ch f).channel ch = f (s.channel ch) := by
  rw [State.channel_onChannel, if_pos rfl]

theorem CursorKept.playing {ch : Fin 4} {s t : State} (h : CursorKept ch s t) :
    (t.channel ch).playing = (s.channel ch).playing := Channel.playing_congr h.2.2

theorem executed_state (ch : Fin 4) (mark : Nat) (s : State) :
    ((s.onChannel ch (Channel.executed mark)).channel ch).state = (s.channel ch).state := by
  rw [State.channel_onChannel_self]; rfl

/-- A cue executed leaves the channel's state as it is. -/
theorem executeCue_state (ch : Fin 4) (q : CueRecord) (time : Nat) (s : State) :
    ((executeCue ch q time s).1.channel ch).state = (s.channel ch).state := by
  unfold executeCue
  dsimp only
  split
  · rw [executed_state, State.channel_onChannel_self]
  · rw [executed_state, State.channel_onChannel_self]
  · rw [executed_state, State.channel_onChannel_self]
  · rw [executed_state]; rfl
  · rw [executed_state, actOnLines_channel]
  · exact (executed_state _ _ _).trans (CursorKept.angleCue ch s _ _ _).2.2
  · exact (executed_state _ _ _).trans (CursorKept.jumpCue ch s _ _ _).2.2
  · split
    · exact (executed_state _ _ _).trans (CursorKept.warnCue ch s _ _ _).2.2
    · dsimp only [returnCue]
      rw [State.channel_onChannel_self]
  · rfl
  · rfl

theorem findCue_lt {s : State} {c : Channel} {from_ : Int} {n i j : Nat} (h : findCue s c from_ n i = some j) :
    j < c.listLength := by
  induction n generalizing i with
  | zero => cases h
  | succ n ih =>
    unfold findCue at h
    split at h
    · cases h
    · dsimp only at h
      split at h
      · cases h
      · split at h
        · cases h; omega
        · exact ih h

theorem warnCue_cases (ch : Fin 4) (w : Warning) (index time : Nat) (s : State) :
    warnCue ch w index time s = s ∨
      warnCue ch w index time s = raise time (.cueWarning ch w index) (s.onChannel ch (Channel.warn w)) := by
  unfold warnCue
  split
  · exact .inl rfl
  · exact .inr rfl

/-- The channel record after a JUMP: the position, the entry pushed, the re-seek flag (R145). -/
def Channel.jumped (p : Nat) (entry : ReturnEntry) (c : Channel) : Channel :=
  { c with position := p, stack := (entry :: c.stack).take 8, scanner := { c.scanner with reseek := true } }

theorem jumpCue_eq (ch : Fin 4) (target index time : Nat) (s : State) :
    jumpCue ch target index time s =
      (if 8 ≤ (s.channel ch).stack.length then warnCue ch .stackOverflow index time s else s).onChannel ch
        (Channel.jumped (if (s.channel ch).state = .inBreak then (s.channel ch).position else s.markPosition ch target)
          ⟨s.relative ch, index + 1⟩) := rfl

theorem Channel.inRange.jumped {c : Channel} (h : c.inRange) (p : Nat) {entry : ReturnEntry} (he : entry.index ≤ 512) :
    (c.jumped p entry).inRange := by
  have hs : Channel.inRange { c with stack := (entry :: c.stack).take 8 } := by
    refine h.stack (List.length_take_le _ _) fun e hmem => ?_
    rcases List.mem_cons.mp (List.mem_of_mem_take hmem) with rfl | hmem
    · exact he
    · exact h.stack_le.2 e hmem
  exact hs.scanner (r := { c.scanner with reseek := true }) h.index_le

/-- A JUMP within the bounds, or where the channel is in BREAK. -/
theorem ChannelKept.jumped {s : State} {c c0 : Channel} {p : Nat} {entry : ReturnEntry} (hplay : c.playing = true)
    (hp : ∀ lo hi, s.boundsBy c.binding = some (lo, hi) → lo ≤ hi → lo ≤ p ∧ p ≤ hi)
    (he : c.inRange → entry.index ≤ 512) (hpos : c0.position = c.position := by rfl) :
    ChannelKept s c (c.jumped (if c0.state = .inBreak then c0.position else p) entry) := by
  split
  · exact .same (fun _ h => h.jumped _ (he h)) rfl rfl hpos rfl
  · exact .moved (fun _ h => h.jumped _ (he h)) hplay hp

namespace Changes

variable {S : Scope}

/-! ## Cues (chapter 8) -/

section
variable {ch : Fin 4} (hch : S.channels ch)
include hch

theorem jumpCue {s : State} (hplay : (s.channel ch).playing = true)
    (hidx : (s.channel ch).scanner.index < (s.channel ch).listLength) (target time : Nat) :
    Changes S s (jumpCue ch target (s.channel ch).scanner.index time s) := by
  have hentry {c : Channel} (h : c.inRange) (hl : c.listLength = (s.channel ch).listLength) :
      (s.channel ch).scanner.index + 1 ≤ 512 := (Nat.succ_le_of_lt (hl ▸ hidx)).trans h.listLength_le
  rw [jumpCue_eq]
  obtain hw | hw : 8 ≤ (s.channel ch).stack.length ∨ ¬ 8 ≤ (s.channel ch).stack.length := em _
  · rw [if_pos hw]
    refine (warnCue hch _ _ _ s).trans (onChannel hch ?_)
    obtain h | h := warnCue_cases ch .stackOverflow (s.channel ch).scanner.index time s <;> rw [h]
    · exact .jumped hplay (s.markPosition_within ch target) (fun hr => hentry hr rfl)
    · rw [State.channel_raise, State.channel_onChannel_self]
      exact .jumped hplay (s.markPosition_within ch target) (fun hr => hentry hr rfl)
  · rw [if_neg hw]
    exact onChannel hch (.jumped hplay (s.markPosition_within ch target) (fun hr => hentry hr rfl))

theorem returnCue {s : State} (hplay : (s.channel ch).playing = true) {e : ReturnEntry} {rest : List ReturnEntry}
    (hstack : (s.channel ch).stack = e :: rest) : Changes S s (returnCue ch e rest s) := by
  have hrange {c : Channel} (hc : c.stack = e :: rest) (h : c.inRange) (p : Nat) (r : Scanner) (hr : r.index = e.index) :
      Channel.inRange { c with position := p, stack := rest, scanner := r } := by
    obtain ⟨hlen, hidx⟩ := h.stack_le
    rw [hc] at hlen hidx
    have hs : Channel.inRange { c with stack := rest } :=
      h.stack (by simp only [List.length_cons] at hlen; omega) fun x hx => hidx x (List.mem_cons_of_mem _ hx)
    exact hs.scanner (hr ▸ hidx e List.mem_cons_self)
  unfold Machine.returnCue
  by_cases hbr : (s.channel ch).state = .inBreak
  · simp only [if_pos hbr]
    exact onChannel hch (.same fun _ h => hrange hstack h _ _ rfl)
  · simp only [if_neg hbr]
    exact onChannel hch (.moved (fun _ h => hrange hstack h _ _ rfl) hplay (s.markPosition_within ch _))

theorem executeCue {s : State} (hplay : (s.channel ch).playing = true)
    (hidx : (s.channel ch).scanner.index < (s.channel ch).listLength) {q : CueRecord}
    (hq : s.PagesOk → cueOk q = true) (time : Nat) : Changes S s (executeCue ch q time s).1 := by
  have hdone {t : State} (h : Changes S s t) (hc : CursorKept ch s t) :
      Changes S s (t.onChannel ch (Channel.executed q.mark)) :=
    h.trans (executed hch (by rw [hc.1, hc.listLength]; exact hidx) _)
  unfold Machine.executeCue
  dsimp only
  split
  · rename_i target immediate hb
    refine hdone (onChannel hch (.same fun hp h => ?_)) (CursorKept.onChannel ch s)
    have hv := cueOk_speed hb (hq hp)
    obtain ⟨hs, -, hr⟩ := h
    exact ⟨by dsimp only; split; exacts [hv, hs], hv, hr⟩
  · rename_i frames hb
    exact hdone (onChannel hch (.same fun hp h => h.hold (cueOk_hold hb (hq hp)))) (CursorKept.onChannel ch s)
  · refine hdone (onChannel hch (.same fun _ h => ?_)) (CursorKept.onChannel ch s)
    exact (h.speed (v := 0) (by decide)).target (v := 0) (by decide)
  · exact hdone (raise _ _ s) (CursorKept.of_channel rfl)
  · exact hdone (actOnLines _ _ _ s) (CursorKept.actOnLines ch s _ _ _)
  · exact hdone (angleCue hch _ _ _ s) (CursorKept.angleCue ch s _ _ _)
  · exact hdone (jumpCue hch hplay hidx _ _) (CursorKept.jumpCue ch s _ _ _)
  · split
    · exact hdone (warnCue hch _ _ _ s) (CursorKept.warnCue ch s _ _ _)
    · rename_i hstack
      exact returnCue hch hplay hstack
  · exact refl s
  · exact refl s

theorem scannerTo (st : ScannerState) (s : State) : Changes S s (s.onChannel ch (Channel.scannerTo st)) :=
  onChannel hch (.same fun _ h => h.scanner h.index_le)

theorem cueFault (q : CueRecord) (last time : Nat) (s : State) : Changes S s (cueFault ch q last time s) :=
  (onChannel hch (.same fun _ h => h.scanner h.index_le)).trans (raise _ _ _)

theorem scan {s : State} (hplay : (s.channel ch).playing = true) (limit : Int) (time : Nat) :
    Changes S s (scan ch limit time s) := by
  unfold Machine.scan
  generalize (s.channel ch).listLength + 1 = n
  induction n generalizing s with
  | zero => exact refl s
  | succ n ih =>
    unfold scanLoop
    dsimp only
    split
    · exact scannerTo hch _ s
    · rename_i hidx
      split
      · exact scannerTo hch _ s
      · split
        · exact (nextCue hch (not_le.mp hidx)).trans
            (ih ((Channel.playing_congr (by rw [State.channel_onChannel_self]; rfl)).trans hplay))
        · split
          · exact scannerTo hch _ s
          · split
            · exact cueFault hch _ _ _ s
            · have hx := executeCue hch hplay (not_le.mp hidx)
                (fun hp => State.cueAt_ok hp (s.channel ch) (s.channel ch).scanner.index) time
              split
              · exact hx
              · exact hx.trans (ih ((Channel.playing_congr (executeCue_state ch _ time s)).trans hplay))

theorem reseek (from_ : Int) (s : State) : Changes S s (reseek ch from_ s) := by
  unfold Machine.reseek
  dsimp only
  refine onChannel hch (.same fun _ h => h.scanner ?_)
  cases hf : findCue s (s.channel ch) from_ ((s.channel ch).listLength + 1) 0 with
  | none => exact h.index_le
  | some j => exact (findCue_lt hf).le.trans h.listLength_le

theorem cueScan {s : State} (hplay : (s.channel ch).playing = true) (from_ limit : Int) (time : Nat) :
    Changes S s (cueScan ch from_ limit time s) := by
  have hscan {t : State} (hp : (t.channel ch).playing = true) (h : Changes S s t) :
      Changes S s (if (t.channel ch).scanner.state = .active then Machine.scan ch limit time t else t) := by
    split
    · exact h.trans (scan hch hp limit time)
    · exact h
  unfold Machine.cueScan
  dsimp only
  by_cases hr : (s.channel ch).scanner.reseek = true
  · rw [if_pos hr]
    exact hscan ((Channel.playing_congr (by unfold Machine.reseek; rw [State.channel_onChannel_self])).trans hplay)
      (reseek hch from_ s)
  · rw [if_neg hr]
    exact hscan hplay (refl s)

theorem wrapScan {s : State} (hplay : (s.channel ch).playing = true) (time : Nat) :
    Changes S s (wrapScan ch time s) := by
  have hstack : Changes S s (s.onChannel ch fun c => { c with stack := [] }) :=
    onChannel hch (.same fun _ h => h.stack (by simp) (by simp))
  unfold Machine.wrapScan
  dsimp only
  split
  · exact hstack.trans (onChannel hch (.same fun _ h => h.scanner (Nat.zero_le _)))
  · exact hstack
  · refine (hstack.trans (onChannel hch (.same fun _ h => h.scanner (Nat.zero_le _)))).trans (scan hch ?_ 0 time)
    rw [State.channel_onChannel_self, State.channel_onChannel_self]
    exact hplay

end

end Changes

/-! ## Passes and breaks (chapter 9) -/

@[simp] theorem raiseAhead_channel (ch : Fin 4) (src : Option BreakSource) (time : Nat) (s : State) (j : Fin 4) :
    (raiseAhead ch src time s).channel j = s.channel j := by
  cases src <;> rfl

theorem Channel.announce_same (src : Option BreakSource) (c : Channel) :
    (c.announce src).state = c.state ∧ (c.announce src).binding = c.binding ∧ (c.announce src).position = c.position ∧
      (c.announce src).config = c.config ∧ (c.inRange → (c.announce src).inRange) := by
  unfold Channel.announce
  split <;> exact ⟨rfl, rfl, rfl, rfl, id⟩

/-- A channel that can wrap is in BREAK, or RUNNING and bound to a clip (R150, R151). -/
def Channel.CanWrap (c : Channel) : Prop := c.state = .inBreak ∨ c.state = .running ∧ c.binding.clipId ≠ none

theorem ChannelKept.newPass {s : State} {ch : Fin 4} (hw : (s.channel ch).CanWrap) :
    ChannelKept s (s.channel ch) (Channel.newPass (s.base ch) (s.channel ch)) := by
  have hplay : (s.channel ch).playing = true := by
    rcases hw with h | ⟨h, -⟩ <;> simp [Channel.playing, h]
  refine ⟨fun _ h => ?_, rfl, fun h _ => h hplay, fun hkeys hpts h => ?_⟩
  · exact ((h.passCount (Nat.mod_lt _ h.passPeriod_pos)).breakTimer (Nat.zero_le _)).scanner
      (r := { (s.channel ch).scanner with
        reseek := (s.channel ch).scanner.reseek || decide (s.base ch < (s.channel ch).position) }) h.index_le
  · obtain ⟨id, a, hb⟩ : ∃ id a, (s.channel ch).binding = .clip id a := by
      cases hb : (s.channel ch).binding with
      | clip id a => exact ⟨id, a, rfl⟩
      | unbound => exact absurd hb (h.2.1 hplay)
      | free origin i =>
        rcases hw with hin | ⟨-, hc⟩
        · exact absurd hin (h.2.2.2 hplay origin i hb).1
        · simp [hb, Binding.clipId] at hc
    refine h.moved hkeys hpts hplay rfl nofun fun lo hi hbounds hle => ?_
    simp only [hb, State.boundsBy, Option.bind_eq_some_iff, Option.map_eq_some_iff] at hbounds
    obtain ⟨k, hk, out, -, he⟩ := hbounds
    cases he
    have hbase : s.base ch = k.inPoint := by simp [State.base, hb, hk]
    exact ⟨hbase.ge, hbase.le.trans hle⟩

namespace Changes

variable {S : Scope}

section
variable {ch : Fin 4}

theorem raiseAhead (src : Option BreakSource) (time : Nat) (s : State) : Changes S s (raiseAhead ch src time s) := by
  cases src
  · exact refl s
  · exact raise _ _ _

variable (hch : S.channels ch)
include hch

theorem announce (src : Option BreakSource) (s : State) : Changes S s (s.onChannel ch (Channel.announce src)) := by
  obtain ⟨hst, hb, hp, hk, hr⟩ := Channel.announce_same src (s.channel ch)
  exact onChannel hch (.same (fun _ => hr) hst hb hp hk)

theorem sampleBreak (time : Nat) (s : State) : Changes S s (sampleBreak ch time s) :=
  (announce hch _ s).trans (raiseAhead _ _ _)

theorem wrap {s : State} (hw : (s.channel ch).CanWrap) (cause : Option BreakCause) (time : Nat) :
    Changes S s (wrap ch cause time s) := by
  have hpass : Changes S s (s.onChannel ch (Channel.newPass (s.base ch))) := onChannel hch (.newPass hw)
  unfold Machine.wrap
  dsimp only
  set s1 := s.onChannel ch (Channel.newPass (s.base ch)) with hs1
  have hrun : ((s1.onChannel ch (Channel.announce (breakSource ch s1))).channel ch).playing = true := by
    rw [State.channel_onChannel_self, Channel.playing_congr (Channel.announce_same _ _).1, hs1,
      State.channel_onChannel_self]
    rfl
  have hann := hpass.trans (announce hch (breakSource ch s1) s1)
  cases cause with
  | none => exact (hann.trans (raiseAhead _ _ _)).trans (wrapScan hch (by rw [raiseAhead_channel]; exact hrun) time)
  | some b =>
    exact ((hann.trans (raise _ _ _)).trans (raiseAhead _ _ _)).trans
      (wrapScan hch (by rw [raiseAhead_channel]; exact hrun) time)

theorem breakTimerStep {s : State} (hbr : (s.channel ch).state = .inBreak) (time : Nat) :
    Changes S s (breakTimerStep ch time s) := by
  have hcount : Changes S s (s.onChannel ch fun c => { c with breakTimer := (s.channel ch).breakTimer - 1 }) :=
    onChannel hch (.same fun _ h => h.breakTimer (by
      obtain ⟨-, -, -, -, -, hb, -⟩ := h
      omega))
  unfold Machine.breakTimerStep
  dsimp only
  split
  · exact refl s
  · split
    · exact hcount.trans (wrap hch (.inl (by rw [State.channel_onChannel_self]; exact hbr)) _ time)
    · exact hcount

theorem endBreak {s : State} (hbr : (s.channel ch).state = .inBreak) (cause : BreakCause) :
    Changes S s (endBreak ch cause s) := (wrap hch (.inl hbr) _ _).trans (settleFault hch _ _)

theorem breakEndEdge (s : State) : Changes S s (breakEndEdge ch s) := by
  unfold Machine.breakEndEdge
  split
  · exact endBreak hch ‹_› _
  · exact refl s

end

end Changes

end Sys2Proof.Machine
end

section
-- The checker's memory limit counts every thread's stack: elaborate this part in order, on one thread.
set_option Elab.async false
/-! PROOFS. Motion, output and source selection as chains of changes, and the whole step of a channel (R108). -/

namespace Sys2Proof.Machine

/-! ## What leaves a channel's state as it is -/

@[simp] theorem leaveClip_channel (b : Binding) (s : State) (j : Fin 4) : (leaveClip b s).channel j = s.channel j := by
  unfold leaveClip
  split
  · split <;> rfl
  · rfl

section
variable {ch : Fin 4} (s : State)

theorem onChannel_state {f : Channel → Channel} (h : (f (s.channel ch)).state = (s.channel ch).state := by rfl) :
    ((s.onChannel ch f).channel ch).state = (s.channel ch).state := by
  rw [State.channel_onChannel_self, h]

theorem overtake_state (stream : Fin 8) (before : Int) (p time : Nat) :
    ((overtake ch stream before p time s).channel ch).state = (s.channel ch).state := by
  unfold overtake
  dsimp only
  split
  · exact onChannel_state s
  · rw [State.channel_raise]; exact onChannel_state s

theorem setAtLive_state (stream : Fin 8) (live : Bool) (time after : Nat) :
    ((setAtLive ch stream live time after s).channel ch).state = (s.channel ch).state := by
  unfold setAtLive
  dsimp only
  split
  · rw [State.channel_raise]; exact onChannel_state s
  · exact onChannel_state s

theorem freeBounds_state (stream : Fin 8) (x : Int) (moving : Bool) (time after : Nat) :
    ((freeBounds ch stream x moving time after s).channel ch).state = (s.channel ch).state := by
  unfold freeBounds
  split
  · exact onChannel_state s
  · refine (setAtLive_state _ _ _ _ _).trans ?_
    split
    · exact onChannel_state s
    · split
      · split
        · exact onChannel_state s
        · exact overtake_state s _ _ _ _
      · exact onChannel_state s

theorem runOn_state (id tin : Nat) (stream : Fin 8) (lo hi : Nat) (x : Int) (time after : Nat) :
    ((runOn ch id tin stream lo hi x time after s).channel ch).state = (s.channel ch).state := by
  unfold runOn
  have h : (((leaveClip (s.channel ch).binding s).onChannel ch fun c =>
      { c with binding := .free tin stream, position := clampPos lo hi x, breakTimer := 0 }).channel ch).state =
      (s.channel ch).state := by
    rw [State.channel_onChannel_self, leaveClip_channel]
  dsimp only
  rw [State.channel_raise]
  split
  · exact (setAtLive_state _ _ _ _ _).trans h
  · split
    · exact (overtake_state _ _ _ _ _).trans h
    · exact h

/-- A moving step without a wrap leaves the channel playing. -/
theorem clipBounds_playing (hplay : (s.channel ch).playing = true) (id tin out : Nat) (x : Int) (time after : Nat)
    (hm : (clipBounds ch id tin out x time after s).mayScan = true) :
    ((clipBounds ch id tin out x time after s).state.channel ch).playing = true := by
  have hstay {t : State} (h : (t.channel ch).state = (s.channel ch).state) : (t.channel ch).playing = true :=
    (Channel.playing_congr h).trans hplay
  unfold clipBounds at hm ⊢
  split at hm
  · rw [if_pos ‹_›]
    exact hstay (onChannel_state s)
  · rw [if_neg ‹_›]
    split at hm
    · rw [if_pos ‹_›]
      unfold endAction at hm ⊢
      dsimp only at hm ⊢
      split
      · exact hstay (onChannel_state s)
      · split
        · exact hstay (onChannel_state s)
        · split
          · exact hstay (onChannel_state s)
          · exact hstay (runOn_state s _ _ _ _ _ _ _ _)
      · rename_i hloop
        simp only [hloop] at hm
        split at hm
        · rw [if_pos ‹_›, enterBreak, State.channel_raise, State.channel_onChannel_self]
          rfl
        · cases hm
    · rw [if_neg ‹_›]
      exact hstay (onChannel_state s)

theorem movingStep_playing (hplay : (s.channel ch).playing = true) (time after : Nat)
    (hm : (movingStep ch time after s).mayScan = true) :
    ((movingStep ch time after s).state.channel ch).playing = true := by
  have hramp : ((s.onChannel ch Channel.ramped).channel ch).playing = true :=
    (Channel.playing_congr (onChannel_state s)).trans hplay
  unfold movingStep at hm ⊢
  dsimp only at hm ⊢
  split
  · exact (Channel.playing_congr (freeBounds_state _ _ _ _ _ _)).trans hramp
  · rename_i hb
    simp only [hb] at hm
    split
    · rename_i hbounds
      simp only [hbounds] at hm
      exact clipBounds_playing _ hramp _ _ _ _ _ _ hm
    · exact hramp
  · exact hramp

theorem shuttleStep_state (time : Nat) :
    ((shuttleStep ch time s).channel ch).state = (s.channel ch).state := by
  unfold shuttleStep
  dsimp only
  split
  · split
    · rw [State.channel_raise, State.channel_onChannel_self, State.channel_onChannel_self]
    · exact onChannel_state s
  · rfl

end

/-! ## The frame sent (R164 to R167) -/

/-- The fields of a channel record that sending a frame leaves, and the ranges it keeps. -/
def Channel.SentFrom (c c' : Channel) : Prop :=
  c'.state = c.state ∧ c'.binding = c.binding ∧ c'.position = c.position ∧ c'.config = c.config ∧
    (c.inRange → c'.inRange)

namespace Channel.SentFrom

variable (links : Two Link) (h : Nat) (c : Channel)

theorem trans {c d e : Channel} (h : c.SentFrom d) (k : d.SentFrom e) : c.SentFrom e := by
  obtain ⟨h1, h2, h3, h4, h5⟩ := h
  obtain ⟨k1, k2, k3, k4, k5⟩ := k
  exact ⟨k1.trans h1, k2.trans h2, k3.trans h3, k4.trans h4, k5 ∘ h5⟩

theorem beginEmission : c.SentFrom (c.beginEmission links h) := by
  refine ⟨rfl, rfl, rfl, rfl, fun hr => hr.mixer hr.mixer_le.1 ?_⟩
  split
  · exact bump_le hr.mixer_le.2
  · exact hr.mixer_le.2

theorem send (f : SentFrame) : c.SentFrom (c.send links h f) :=
  trans ⟨rfl, rfl, rfl, rfl, fun hr => hr.mixer hr.mixer_le.1 hr.mixer_le.2⟩ (beginEmission links h _)

theorem sendAgain : c.SentFrom (c.sendAgain links h) :=
  trans ⟨rfl, rfl, rfl, rfl, fun hr => hr.mixer hr.mixer_le.1 hr.mixer_le.2⟩ (beginEmission links h _)

theorem rescore {n : Nat} (hn : c.inRange → n ≤ 7) : c.SentFrom (c.rescore n) :=
  ⟨rfl, rfl, rfl, rfl, fun hr =>
    Channel.inRange.mixer (c := { c with conditions := (c.rescore n).conditions }) hr (hn hr) hr.mixer_le.2⟩

theorem output (late : Bool) : c.SentFrom (c.output links h late) := by
  have hon {d : Channel} (hd : c.SentFrom d) : c.SentFrom d.scoreOnTime :=
    hd.trans (rescore d fun hr => (Nat.sub_le _ _).trans hr.mixer_le.1)
  unfold Channel.output
  split
  · exact send links h c _
  · exact send links h c _
  · split
    · exact send links h c _
    · split
      · exact (sendAgain links h c).trans (rescore _ fun _ => min_le_left _ _)
      · have hc (o : Option Bands) : c.SentFrom (match o with
            | some bands => c.send links h (.picture bands)
            | none => c.sendAgain links h) := by
          cases o
          · exact sendAgain links h c
          · exact send links h c _
        dsimp only
        split
        · exact hon (hc _)
        · exact hc _

end Channel.SentFrom

theorem Channel.prepare_sent (p : Prepared) (c : Channel) : c.SentFrom (c.prepare p) := by
  have h : c.SentFrom { c with mixer := { c.mixer with prepared := some p } } :=
    ⟨rfl, rfl, rfl, rfl, fun hr => hr.mixer hr.mixer_le.1 hr.mixer_le.2⟩
  unfold Channel.prepare
  dsimp only
  split
  · exact h.trans ⟨rfl, rfl, rfl, rfl, fun hr => hr⟩
  · exact h

theorem ChannelKept.sent {s : State} {c c' : Channel} (h : c.SentFrom c') : ChannelKept s c c' := by
  obtain ⟨hst, hb, hp, hk, hr⟩ := h
  exact .same (fun _ => hr) hst hb hp hk

namespace Changes

variable {S : Scope} {ch : Fin 4}

section
variable (hch : S.channels ch)
include hch

theorem shuttleStep (time : Nat) (s : State) : Changes S s (shuttleStep ch time s) := by
  have hcount : Changes S s (s.onChannel ch fun c => { c with holdOff := c.holdOff - 1 }) :=
    onChannel hch (.same fun _ h => h.holdOff (by
      obtain ⟨-, -, ho, -⟩ := h
      omega))
  unfold Machine.shuttleStep
  dsimp only
  split
  · split
    · exact (hcount.trans (onChannel hch (.same fun _ h => h.target (v := 0) (by decide)))).trans (raise _ _ _)
    · exact hcount
  · exact refl s

/-! ## Motion (chapter 7) -/

theorem restAt {s : State} (hplay : (s.channel ch).playing = true) {p : Nat}
    (hpos : ∀ lo hi, s.boundsBy (s.channel ch).binding = some (lo, hi) → lo ≤ hi → lo ≤ p ∧ p ≤ hi) :
    Changes S s (s.onChannel ch (Channel.restAt p)) :=
  onChannel hch (.moved (fun _ h => (h.speed (v := 0) (by decide)).target (v := 0) (by decide)) hplay hpos)

theorem toPosition {s : State} (hplay : (s.channel ch).playing = true) {p : Nat}
    (hpos : ∀ lo hi, s.boundsBy (s.channel ch).binding = some (lo, hi) → lo ≤ hi → lo ≤ p ∧ p ≤ hi) :
    Changes S s (s.onChannel ch fun c => { c with position := p }) :=
  onChannel hch (.moved (fun _ h => h) hplay hpos)

theorem overtake {s : State} (hplay : (s.channel ch).playing = true) {p : Nat}
    (hpos : ∀ lo hi, s.boundsBy (s.channel ch).binding = some (lo, hi) → lo ≤ hi → lo ≤ p ∧ p ≤ hi)
    (stream : Fin 8) (before : Int) (time : Nat) : Changes S s (overtake ch stream before p time s) := by
  have h : Changes S s (s.onChannel ch fun c => { c.warn .overtaken with position := p }) :=
    onChannel hch (.moved (fun _ h => h) hplay hpos)
  unfold Machine.overtake
  dsimp only
  split
  · exact h
  · exact h.trans (raise _ _ _)

theorem setAtLive (stream : Fin 8) (live : Bool) (time after : Nat) (s : State) :
    Changes S s (setAtLive ch stream live time after s) := by
  have h : Changes S s (s.onChannel ch fun c => { c with atLive := live }) := onChannel hch (.same fun _ h => h)
  unfold Machine.setAtLive
  dsimp only
  split
  · exact h.trans (raise _ _ _)
  · exact h

theorem freeBounds {s : State} (hplay : (s.channel ch).playing = true) {origin : Nat} {stream : Fin 8}
    (hb : (s.channel ch).binding = .free origin stream) (x : Int) (moving : Bool) (time after : Nat) :
    Changes S s (freeBounds ch stream x moving time after s) := by
  unfold Machine.freeBounds
  cases hs : s.streamBounds stream with
  | none =>
    refine toPosition hch hplay fun lo hi h _ => ?_
    rw [hb, State.boundsBy, hs] at h
    cases h
  | some b =>
    obtain ⟨lo, hi⟩ := b
    have hbounds {p : Nat} (hp : lo ≤ hi → lo ≤ p ∧ p ≤ hi) (a b : Nat)
        (h : s.boundsBy (s.channel ch).binding = some (a, b)) (hle : a ≤ b) : a ≤ p ∧ p ≤ b := by
      rw [hb, State.boundsBy, hs] at h
      cases h
      exact hp hle
    dsimp only
    refine trans ?_ (setAtLive hch _ _ _ _ _)
    split
    · exact toPosition hch hplay (hbounds fun h => ⟨h, le_rfl⟩)
    · split
      · split
        · exact (restAt hch hplay (hbounds fun h => ⟨le_rfl, h⟩)).trans (raise _ _ _)
        · exact overtake hch hplay (hbounds fun h => ⟨le_rfl, h⟩) _ _ _
      · exact toPosition hch hplay (hbounds fun h => by omega)

theorem runOn {s : State} (hrun : (s.channel ch).state = .running) (id tin : Nat) {stream : Fin 8} {lo hi : Nat}
    (hs : s.streamBounds stream = some (lo, hi)) (x : Int) (time after : Nat) :
    Changes S s (runOn ch id tin stream lo hi x time after s) := by
  unfold Machine.runOn
  dsimp only
  set t := (leaveClip (s.channel ch).binding s).onChannel ch fun c =>
    { c with binding := .free tin stream, position := clampPos lo hi x, breakTimer := 0 } with ht
  have hchan : t.channel ch = { s.channel ch with
      binding := .free tin stream, position := clampPos lo hi x, breakTimer := 0 } := by
    rw [ht, State.channel_onChannel_self, leaveClip_channel]
  have hbounds : t.streamBounds stream = s.streamBounds stream := by
    have hframe := StepFrame.leaveClip (s.channel ch).binding s
    rw [State.streamBounds, State.streamBounds, State.recallStart, State.recallStart, State.liveEdge, State.liveEdge]
    simp only [State.allotment, State.period, State.stream, ht, State.onChannel_streams, State.onChannel_store,
      hframe.streams, hframe.store.2.1]
  have hfree : Changes S s t := (Change.runOn ch hch tin stream lo hi x hrun hs).changes
  refine trans ?_ (raise _ _ _)
  split
  · exact hfree.trans (setAtLive hch _ _ _ _ _)
  · split
    · refine hfree.trans (overtake hch ?_ (fun a b h hle => ?_) _ _ _)
      · rw [hchan]; simp [Channel.playing, hrun]
      · rw [hchan, State.boundsBy, hbounds, hs] at h
        cases h
        exact ⟨le_rfl, hle⟩
    · exact hfree

theorem endAction {s : State} (hrun : (s.channel ch).state = .running) {id a tin out : Nat}
    (hb : (s.channel ch).binding = .clip id a) (hbounds : s.boundsBy (.clip id a) = some (tin, out)) (x : Int)
    (time after : Nat) : Changes S s (endAction ch id tin out x time after s).state := by
  have hplay : (s.channel ch).playing = true := by simp [Channel.playing, hrun]
  have hout (lo hi : Nat) (h : s.boundsBy (s.channel ch).binding = some (lo, hi)) (hle : lo ≤ hi) :
      lo ≤ out ∧ out ≤ hi := by
    rw [hb, hbounds] at h
    cases h
    exact ⟨hle, le_rfl⟩
  have hstop (action : EndAction) (noLive : Option Bool) :
      Changes S s (stopAtEnd ch id out action noLive time after s) := (restAt hch hplay hout).trans (raise _ _ _)
  unfold Machine.endAction
  dsimp only
  split
  · exact hstop _ _
  · split
    · exact hstop _ _
    · split
      · exact hstop _ _
      · rename_i hs
        exact runOn hch hrun id tin hs x time after
  · split
    · refine trans (onChannel hch (.moved (fun _ h => h.breakTimer ?_) hplay hout fun _ => .inr ?_)) (raise _ _ _)
      · obtain ⟨-, -, -, -, -, hk⟩ := h.configInRange
        exact hk
      · simp [hb, Binding.clipId]
    · dsimp only
      exact wrap hch (.inr ⟨hrun, by simp [hb, Binding.clipId]⟩) _ _

theorem clipBounds {s : State} (hrun : (s.channel ch).state = .running) {id a tin out : Nat}
    (hb : (s.channel ch).binding = .clip id a) (hbounds : s.boundsBy (.clip id a) = some (tin, out)) (x : Int)
    (time after : Nat) : Changes S s (clipBounds ch id tin out x time after s).state := by
  have hplay : (s.channel ch).playing = true := by simp [Channel.playing, hrun]
  have hpos {p : Nat} (hp : tin ≤ out → tin ≤ p ∧ p ≤ out) (lo hi : Nat)
      (h : s.boundsBy (s.channel ch).binding = some (lo, hi)) (hle : lo ≤ hi) : lo ≤ p ∧ p ≤ hi := by
    rw [hb, hbounds] at h
    cases h
    exact hp hle
  unfold Machine.clipBounds
  split
  · exact (restAt hch hplay (hpos fun h => ⟨le_rfl, h⟩)).trans (raise _ _ _)
  · split
    · exact endAction hch hrun hb hbounds _ _ _
    · exact toPosition hch hplay (hpos fun _ => by omega)

theorem holdStep {s : State} (hplay : (s.channel ch).playing = true) (time after : Nat) :
    Changes S s (holdStep ch time after s) := by
  have hramp : Changes S s (s.onChannel ch fun c => { c.ramped with hold := c.hold - 1 }) :=
    onChannel hch (.same fun _ h => h.ramped.hold (by
      obtain ⟨-, -, -, hh, -⟩ := h
      omega))
  unfold Machine.holdStep
  dsimp only
  split
  · rename_i hb
    exact hramp.trans (freeBounds hch ((Channel.playing_congr (onChannel_state s)).trans hplay) hb _ _ _ _)
  · exact hramp

theorem movingStep {s : State} (hrun : (s.channel ch).state = .running) (time after : Nat) :
    Changes S s (movingStep ch time after s).state := by
  have hramp : Changes S s (s.onChannel ch Channel.ramped) := onChannel hch (.same fun _ h => h.ramped)
  have hrun' : ((s.onChannel ch Channel.ramped).channel ch).state = .running := (onChannel_state s).trans hrun
  have hplay' : ((s.onChannel ch Channel.ramped).channel ch).playing = true :=
    (Channel.playing_iff _).mpr (.inr (.inl hrun'))
  unfold Machine.movingStep
  dsimp only
  split
  · rename_i hb
    exact hramp.trans (freeBounds hch hplay' hb _ _ _ _)
  · rename_i hb
    split
    · rename_i hbounds
      rw [State.bounds_eq, hb] at hbounds
      exact hramp.trans (clipBounds hch hrun' hb hbounds _ _ _)
    · exact hramp
  · exact hramp

theorem flagReseek (p0 : Nat) (s : State) : Changes S s (flagReseek ch p0 s) := by
  unfold Machine.flagReseek
  split
  · exact onChannel hch (.same fun _ h => h.scanner h.index_le)
  · exact refl s

theorem motionShowing {s : State} (hrun : (s.channel ch).state = .running) (time after : Nat) :
    Changes S s (motionShowing ch time after s) := by
  have hplay : (s.channel ch).playing = true := by simp [Channel.playing, hrun]
  unfold Machine.motionShowing
  dsimp only
  split
  · exact (holdStep hch hplay _ _).trans (flagReseek hch _ _)
  · split
    · rename_i hm
      have hflag := (movingStep hch hrun time after).trans (flagReseek hch (s.channel ch).position _)
      split
      · refine hflag.trans (cueScan hch ?_ _ _ _)
        refine (Channel.playing_congr ?_).trans (movingStep_playing s hplay time after hm)
        unfold Machine.flagReseek
        split
        · exact onChannel_state _
        · rfl
      · exact hflag
    · exact movingStep hch hrun _ _

theorem motion {s : State} (hrun : (s.channel ch).state = .running) (time : Nat) : Changes S s (motion ch time s) :=
  motionShowing hch hrun _ _

/-! ## Output and selection (chapters 7 and 10) -/

variable (hrd : S.reads)
include hrd

theorem outputStep (h : Nat) (s : State) : Changes S s (outputStep ch h s) :=
  (onChannel hch (.sent (Channel.SentFrom.output _ _ _ _))).trans (onStoreReads hrd rfl)

omit hch in
theorem serve (s : State) : Changes S s (s.onStore Store.serve) :=
  onStoreReads hrd (by unfold Store.serve; split <;> rfl)

omit hch in
theorem enqueue (e : ReadEntry) (s : State) : Changes S s (s.onStore (Store.enqueue e)) :=
  onStoreReads hrd (by unfold Store.enqueue Store.serve; split <;> rfl)

theorem selectSources (s : State) : Changes S s (selectSources ch s) := by
  have h : Changes S s (s.onStore (Store.withdrawFetches ch)) := onStoreReads hrd rfl
  have hprep (p : Prepared) :
      Changes S s ((s.onStore (Store.withdrawFetches ch)).onChannel ch (Channel.prepare p)) :=
    h.trans (onChannel hch (.sent (Channel.prepare_sent p _)))
  unfold Machine.selectSources
  dsimp only
  split
  · exact hprep _
  · exact (hprep _).trans (foldl (fun t x => enqueue hrd _ t) _ _)

theorem channelStep (h : Nat) (s : State) : Changes S s (channelStep h s ch) := by
  have hst : ((Machine.outputStep ch h s).channel ch).state = (s.channel ch).state :=
    (onChannel_state s (Channel.SentFrom.output _ _ _ _).1)
  unfold Machine.channelStep
  refine trans ?_ (settleFault hch _ _)
  refine (outputStep hch hrd h s).trans ?_
  refine trans (t := stepPartB ch (h * 2880) (s.channel ch).state (Machine.outputStep ch h s)) ?_ ?_
  · unfold stepPartB
    split
    · rename_i hrun
      exact (shuttleStep hch _ _).trans
        (motion hch ((shuttleStep_state _ _).trans (hst.trans hrun)) _)
    · rename_i hbr
      exact breakTimerStep hch (hst.trans hbr) _
    · exact refl _
  · unfold stepPartC
    split
    · exact selectSources hch hrd _
    · exact refl _

end

/-- A boundary: the count advances, and the receivers take it (R10, R11). -/
theorem boundary (hC : ∀ ch, S.channels ch) (hrd : S.reads) (s : State) : Changes S s (boundary s) := by
  refine (((Change.timer (fun t => { t with frames := nextFrame s.timer.frames, fresh := false }) ?_).changes.trans
    (foldl (fun t ch => channelStep (hC ch) hrd _ t) _ _)).trans (Change.closeClips _).changes).trans (countPulses _ _)
  rintro ⟨hm, hp, hc, hu, hf, ho, -⟩
  refine ⟨hm, hp, hc, hu, ?_, ho, nofun⟩
  show nextFrame s.timer.frames < 2 ^ 40
  unfold nextFrame
  split <;> omega

end Changes

end Sys2Proof.Machine
end

section
/-! PROOFS. The requests as chains of changes, block by block: timer, recorder, store, marks, clips, protection. -/

namespace Sys2Proof.Machine

/-! ## What an abandoned frame leaves (R20) -/

section
variable (i : Fin 8) (s : State)

/-- Abandoning the frame in assembly changes the stream's assembly and torn counter alone. -/
theorem stream_abandon (j : Fin 8) :
    ((abandon i s).stream j).assembly = (if j = i then none else (s.stream j).assembly) ∧
      ((abandon i s).stream j).enabled = (s.stream j).enabled ∧ ((abandon i s).stream j).source = (s.stream j).source ∧
      ((abandon i s).stream j).link = (s.stream j).link ∧ ((abandon i s).stream j).multiple = (s.stream j).multiple ∧
      ((abandon i s).stream j).lastKey = (s.stream j).lastKey ∧
      ((abandon i s).stream j).originKey = (s.stream j).originKey ∧
      ((abandon i s).stream j).stale = (s.stream j).stale ∧ ((abandon i s).stream j).skew = (s.stream j).skew := by
  unfold abandon
  cases h : (s.stream i).assembly with
  | none =>
    by_cases hj : j = i
    · subst hj; simp [h]
    · simp [hj]
  | some a =>
    by_cases hj : j = i
    · subst hj; simp
    · simp [hj]

theorem abandon_assembly : ((abandon i s).stream i).assembly = none := by
  rw [(stream_abandon i s i).1, if_pos rfl]

end

theorem nextAngle_lt {ranges : List (Nat × Nat)} {n a lo hi : Nat} (h : nextAngle ranges n = some (a, lo, hi)) :
    a < ranges.length := by
  obtain ⟨⟨r, k⟩, hf, he⟩ := Option.map_eq_some_iff.mp h
  cases he
  have hmem := List.mem_of_mem_drop (List.mem_of_find?_eq_some hf)
  obtain ⟨h1, h2, -⟩ := List.mem_zipIdx hmem
  simpa using h2

theorem State.clip_eq (s : State) (id : Nat) : s.clip id = s.clips.find id := rfl

/-- The clips after a clip is written, id by id. -/
theorem clip_insert (s : State) (id j : Nat) (c : Clip) :
    ({ s with clips := s.clips.insert id c } : State).clip j = if j = id then some c else s.clip j :=
  Table.find_insert _ _ _ _

theorem openClipOf_some {g : Fin 4} {s : State} {id : Nat} {c : Clip} (h : openClipOf g s = some (id, c)) :
    (s.group g).openClip = some id ∧ s.clip id = some c := by
  obtain ⟨id', hg, hm⟩ := Option.bind_eq_some_iff.mp h
  obtain ⟨c', hc, he⟩ := Option.map_eq_some_iff.mp hm
  cases he
  exact ⟨hg, hc⟩

theorem joinList_perm (e : Nat × Clip) (l : List (Nat × Clip)) : (joinList e l).Perm (e :: l) := by
  induction l with
  | nil => exact List.Perm.refl _
  | cons f l ih =>
    unfold joinList
    split
    · exact List.Perm.refl _
    · exact (ih.cons f).trans (List.Perm.swap e f l)

/-- The clip list holds the clips of the table, each once (R57). -/
theorem clipList_perm (t : Table Clip) : (clipList t).Perm t := by
  induction t with
  | nil => exact List.Perm.refl _
  | cons e t ih => exact (joinList_perm e _).trans (ih.cons e)

theorem lowestFree_some {t : Table Clip} {id : Nat} (h : lowestFree t = some id) :
    id < 512 ∧ t.find id = none ∧ ∀ n, n < id → t.find n ≠ none := by
  obtain ⟨hnone, as, bs, hl, hbefore⟩ := List.find?_eq_some_iff_append.mp h
  have hid : as.length = id ∧ id < 512 := by
    have hlen := congrArg List.length hl
    have hget : (List.range maxClips)[as.length]? = some id := by rw [hl]; simp
    obtain ⟨hlt, he⟩ := List.getElem?_eq_some_iff.mp hget
    rw [List.getElem_range] at he
    rw [List.length_range] at hlt
    exact ⟨he, he ▸ hlt⟩
  refine ⟨hid.2, by simpa using hnone, fun n hn => ?_⟩
  have hmem : n ∈ as := by
    have hget : (List.range maxClips)[n]? = as[n]? := by
      rw [hl, List.getElem?_append_left (hid.1 ▸ hn)]
    rw [List.getElem?_range (show n < maxClips from hn.trans hid.2)] at hget
    exact List.mem_of_getElem? hget.symm
  have := hbefore n hmem
  intro hn'
  simp [hn'] at this

/-- What creating a clip answers: room is made, and the clip takes the lowest free id. -/
theorem createClip_ok {g : Fin 4} {st : ClipState} {tin id : Nat} {tout : Option Nat} {s t : State} {c : Clip}
    (h : createClip g st tin tout s = .ok (id, c, t)) :
    ∃ s1, makeRoom g s = .ok s1 ∧ lowestFree s1.clips = some id ∧ t = { s1 with clips := s1.clips.insert id c } ∧
      c = { group := g, state := st, inPoint := tin, outPoint := tout, angles := (s1.group g).angles } := by
  unfold createClip at h
  split at h
  · cases h
  · rename_i s1 hroom
    split at h
    · cases h
    · cases h
      exact ⟨s1, hroom, ‹_›, rfl, rfl⟩

theorem closedBy_cases (out now : Nat) : closedBy out now ≠ .opened ∧ (closedBy out now = .opened ∨
    closedBy out now = .closed ∨ closedBy out now = .closing) := by
  unfold closedBy
  split <;> simp

theorem maxGrain_lt : maxGrain < 2 ^ 52 := by decide

namespace Changes

variable {S : Scope}

theorem noteState (old : RefState) (s : State) : Changes S s (noteState old s) := by
  unfold Machine.noteState
  split
  · exact refl s
  · exact raise _ _ _

/-! ## SET HOUSE TIME (R14) -/

theorem setHouseTime (rate count : Nat) (s : State) : Changes S s (setHouseTime rate count s).state := by
  unfold Machine.setHouseTime
  split
  · exact refl s
  · split
    · exact refl s
    · split
      · exact refl s
      · rename_i hcount _
        refine (Change.timer _ ?_).changes.trans (noteState _ _)
        rintro ⟨-, -, -, -, -, ho, -⟩
        refine ⟨rfl, ?_, Nat.zero_le _, fun _ => rfl, not_le.mp hcount, ho, nofun⟩
        simp [distance, Timer.nominal]

/-! ## ENABLE STREAM and DISABLE STREAM (R17 to R19) -/

theorem enableStream (stream sourceId link k : Nat) (s : State) :
    Changes S s (enableStream stream sourceId link k s).state := by
  unfold Machine.enableStream
  split
  · split
    · rename_i i l _ _ hargs
      unfold enableStreamAt
      dsimp only
      split
      · exact refl s
      · split
        · exact refl s
        · split
          · exact refl s
          · split
            · exact refl s
            · split
              · exact refl s
              · rename_i hoff hconf hk hroute hbudget
                refine (Change.enable i l sourceId k hargs (by simpa using hoff) ?_ (fun h => ?_) (by simpa using hroute)
                  (not_lt.mp hbudget)).changes
                · simp only [Bool.not_eq_true', Bool.and_eq_false_iff, decide_eq_false_iff_not, not_or, not_not] at hconf
                  exact hconf.2
                · by_contra hne
                  exact hk ⟨h, hne⟩
    · exact refl s
  · exact refl s

theorem disableStream (stream : Nat) (s : State) : Changes S s (disableStream stream s).state := by
  unfold Machine.disableStream
  split
  · exact refl s
  · rename_i i _
    dsimp only [accept]
    split
    · exact (Change.abandon i).changes.trans (Change.disable i (abandon_assembly i s)).changes
    · exact refl s

/-! ## CONFIGURE STORE (R33) -/

theorem configureStore (hS : S.reads) (pairs : Eight (Nat × Nat)) (s : State) :
    Changes S s (configureStore pairs s).state := by
  unfold Machine.configureStore
  split
  · exact refl s
  · exact (Change.configureStore hS pairs ‹_›).changes

/-! ## Mark groups (R55) -/

theorem setMarkGroup (group : Nat) (angles : List Nat) (defaultLength preRoll postRoll recycle : Nat) (s : State) :
    Changes S s (setMarkGroup group angles defaultLength preRoll postRoll recycle s).state := by
  unfold Machine.setMarkGroup
  split
  · split
    · dsimp only [accept]
      exact (Change.group _ _ rfl).changes
    · exact refl s
  · exact refl s

theorem readMarkGroup (group : Nat) (s : State) : Changes S s (readMarkGroup group s).state := by
  unfold Machine.readMarkGroup
  split <;> exact refl s

/-! ## Marks (R60 to R65) -/

theorem makeRoom {g : Fin 4} {s t : State} (h : makeRoom g s = .ok t) : Changes S s t := by
  unfold Machine.makeRoom at h
  split at h
  · cases h; exact refl s
  · split at h
    · cases h
    · split at h
      · cases h
      · rename_i id c hf
        cases h
        have hrec := List.find?_some hf
        have hmem : (id, c) ∈ s.clips := (clipList_perm _).mem_iff.mp (List.mem_of_find?_eq_some hf)
        exact (Change.recycle id c hmem hrec).changes.trans (raise _ _ _)

theorem createClip {g : Fin 4} {st : ClipState} {tin id : Nat} {tout : Option Nat} {s t : State} {c : Clip}
    (h : createClip g st tin tout s = .ok (id, c, t)) (hst : st = .opened ∨ st = .closed ∨ st = .closing)
    (hin : tin < 2 ^ 52) (hout : ∀ out, tout = some out → out < 2 ^ 52)
    (hord : st ≠ .opened → ∃ out, tout = some out ∧ tin ≤ out) : Changes S s t := by
  obtain ⟨s1, hroom, hid, rfl, rfl⟩ := createClip_ok h
  exact (makeRoom hroom).trans (Change.create id _ hid rfl rfl hst hin hout hord).changes

theorem markIn {g : Fin 4} {t : Nat} {s : State} {m : Marked} (ht : t < 2 ^ 52) (h : markIn g t s = .ok m) :
    Changes S s m.state := by
  unfold Machine.markIn at h
  split at h
  · cases h
  · split at h
    · rename_i id c ho
      obtain ⟨hg, hc⟩ := openClipOf_some ho
      cases h
      exact (Change.remark g id t c hc hg ht).changes
    · split at h
      · cases h
      · rename_i id c s1 hnew
        cases h
        refine (createClip hnew (.inl rfl) ht nofun nofun).trans ?_
        obtain ⟨s0, -, -, rfl, rfl⟩ := createClip_ok hnew
        exact (Change.openGroup g id _ (by rw [clip_insert, if_pos rfl]) rfl rfl).changes

theorem markOut {g : Fin 4} {t : Nat} {s : State} {m : Marked} (ht : t < 2 ^ 52) (h : markOut g t s = .ok m) :
    Changes S s m.state := by
  unfold Machine.markOut at h
  split at h
  · rename_i id c ho
    obtain ⟨hg, hc⟩ := openClipOf_some ho
    split at h
    · cases h
    · cases h
      exact (Change.closeOut g id t s.houseTime c hc hg (by omega) ht).changes
  · dsimp only at h
    split at h
    · cases h
    · split at h
      · cases h
      · rename_i hnew
        cases h
        exact createClip hnew (closedBy_cases _ _).2 (by omega) (fun out he => by cases he; exact ht)
          fun _ => ⟨t, rfl, by omega⟩

theorem markSpot {g : Fin 4} {t : Nat} {s : State} {m : Marked} (ht : t < 2 ^ 52) (h : markSpot g t s = .ok m) :
    Changes S s m.state := by
  unfold Machine.markSpot at h
  dsimp only at h
  generalize htout : (if (s.group g).postRoll = 0 then t + 1 else t + (s.group g).postRoll * 2880) = tout at h
  split at h
  · cases h
  · rename_i hmax
    have hle := not_lt.mp hmax
    split at h
    · cases h
    · rename_i hnew
      cases h
      refine createClip hnew (closedBy_cases _ _).2 (by omega) (fun out he => ?_) fun _ => ⟨_, rfl, ?_⟩
      · cases he
        exact hle.trans_lt maxGrain_lt
      · rw [← htout]
        split <;> omega

theorem performMark {k : MarkKind} {g : Fin 4} {t : Nat} {line : Option (Fin 8)} {s : State} {m : Marked}
    (h : performMark k g t line s = .ok m) : Changes S s m.state := by
  unfold Machine.performMark at h
  split at h
  · cases h
  · rename_i hmax
    have ht : t < 2 ^ 52 := (not_lt.mp hmax).trans_lt maxGrain_lt
    split at h
    · cases h
    · dsimp only at h
      split at h
      · cases h
      · rename_i m' hrun
        cases h
        refine trans ?_ (raise _ _ _)
        cases k with
        | markIn => exact markIn ht hrun
        | markOut => exact markOut ht hrun
        | markSpot => exact markSpot ht hrun

theorem markRequest (k : MarkKind) (group : Nat) (time : MarkTime) (s : State) :
    Changes S s (markRequest k group time s).state := by
  unfold Machine.markRequest
  split
  · exact refl s
  · dsimp only [answerMark]
    split
    · exact refl s
    · rename_i hm
      exact performMark hm

/-! ## Mark latches (R73 to R75) -/

theorem latchEdge (n : Fin 8) (s : State) : Changes S s (latchEdge n s) := by
  have hcap (o : Option Nat) (t : State) : Changes S t (t.onLatch n fun r => { r with captured := o }) :=
    (Change.latch n _ id).changes
  unfold Machine.latchEdge
  dsimp only
  split
  · exact (Change.latch n _ fun h => ⟨bump_le h.1, h.2⟩).changes
  · split
    · exact (Change.latch n _ fun h => ⟨h.1, bump_le h.2⟩).changes
    · split
      · exact (hcap _ s).trans (raise _ _ _)
      · split
        · rename_i hm
          exact ((hcap _ s).trans (performMark hm)).trans (hcap _ _)
        · exact (hcap _ s).trans (raise _ _ _)

theorem takeLatch (line action group : Nat) (s : State) : Changes S s (takeLatch line action group s).state := by
  have hcap (n : Fin 8) (o : Option Nat) (t : State) : Changes S t (t.onLatch n fun r => { r with captured := o }) :=
    (Change.latch n _ id).changes
  unfold Machine.takeLatch
  split
  · split
    · exact refl s
    · unfold takeCaptured
      dsimp only
      split
      · exact hcap _ _ s
      · split
        · exact refl s
        · rename_i hm
          exact (performMark hm).trans (hcap _ _ _)
  · exact refl s

/-! ## Clip requests (R68 to R71) -/

theorem onClipNo {id : Nat} {run : Clip → State → Answer} {s : State}
    (h : ∀ c, s.clip id = some c → Changes S s (run c s).state) : Changes S s (onClipNo id run s).state := by
  unfold Machine.onClipNo
  split
  · exact refl s
  · split
    · exact refl s
    · exact h _ ‹_›

theorem setClipLabel (id : Nat) (label : List Byte) (s : State) : Changes S s (setClipLabel id label s).state := by
  unfold Machine.setClipLabel
  split
  · exact refl s
  · refine onClipNo fun c hc => ?_
    dsimp only [accept]
    rw [State.onClip_of_some hc]
    exact (Change.clip id c { c with label := if label = [] then none else some label } hc ⟨rfl, rfl, rfl, rfl, rfl, rfl⟩ rfl).changes

theorem dropClip (id : Nat) (s : State) : Changes S s (dropClip id s).state := by
  refine onClipNo fun c hc => ?_
  dsimp only
  split
  · exact refl s
  · split
    · exact refl s
    · rename_i hst huse
      refine trans ?_ (raise _ _ _)
      have hdrop := (Change.drop (S := S) id c hc hst (not_not.mp huse)).changes
      unfold Clip.heldSlots at hdrop
      cases hp : c.protection <;> simp only [hp] at hdrop ⊢ <;> exact hdrop

theorem listClips (start count : Nat) (s : State) : Changes S s (listClips start count s).state := by
  unfold Machine.listClips
  split <;> exact refl s

theorem readClip (id : Nat) (s : State) : Changes S s (readClip id s).state := onClipNo fun _ _ => refl s

/-! ## Protection (chapter 5) -/

section
variable (hS : S.reads)
include hS

theorem issueLookup (i : Fin 8) (key : Nat) (s : State) : Changes S s (issueLookup i key s) :=
  (enqueue hS _ s).trans (Change.lookup hS _ _).changes

theorem firstLookup (i : Fin 8) (key : Nat) (s : State) : Changes S s (firstLookup i key s) := by
  unfold Machine.firstLookup
  split
  · exact (Change.lookup hS .deferred s.engine.withdrawn).changes
  · exact issueLookup hS _ _ s

theorem advanceWalk {w : Walk} {s : State} (hw : WalkSound s → s.WalkFits w) : Changes S s (advanceWalk w s) := by
  unfold Machine.advanceWalk
  split
  · exact (Change.idle hS).changes
  · rename_i c hc
    split
    · refine (Change.walk hS _ fun h => ?_).changes.trans (issueLookup hS _ _ _)
      exact hw h
    · split
      · rename_i a lo hi hnext
        refine (Change.walk hS _ fun h => ?_).changes.trans (issueLookup hS _ _ _)
        obtain ⟨c', p, hc', hst, hp, -, hper, hang⟩ := hw h
        have ha := nextAngle_lt hnext
        rw [walkRanges, List.length_map, hper] at ha
        exact ⟨c', p, hc', hst, hp, ha, hper, hang⟩
      · refine (Change.completeWalk hS w.clip fun h => ?_).changes.trans (raise _ _ _)
        obtain ⟨c', p, hc', hst, hp, -⟩ := hw h
        exact ⟨c', hc', hst, by simp [hp]⟩

theorem protectClip (id : Nat) (s : State) : Changes S s (protectClip id s).state := by
  refine onClipNo fun c hc => ?_
  dsimp only
  split
  · exact refl s
  · rename_i hst
    split
    · exact refl s
    · have hprot := (Change.protect (S := S) id c hc (not_not.mp hst)).changes
      have hclip : ({ s with
          clips := s.clips.insert id { c with state := .protecting, protection := some ⟨c.angles.map fun _ => [], 0⟩ } } :
            State).clip id = some { c with state := .protecting, protection := some ⟨c.angles.map fun _ => [], 0⟩ } := by
        rw [clip_insert, if_pos rfl]
      unfold startWalk
      dsimp only
      rw [State.onClip_of_some hc]
      split
      · rename_i a lo hi hnext
        have ha := nextAngle_lt hnext
        rw [walkRanges, List.length_map, List.length_map] at ha
        refine (hprot.trans (Change.walk hS _ fun _ => ?_).changes).trans (firstLookup hS _ _ _)
        exact ⟨_, _, hclip, rfl, rfl, by simpa using ha, by simp, by simp⟩
      · refine (hprot.trans (Change.completeWalk hS id fun _ => ?_).changes).trans (raise _ _ _)
        exact ⟨_, hclip, rfl, by simp⟩

theorem unwindWalk {w w0 : Walk} {s : State} (hw : s.engine.walk = some w0) (hc : w.clip = w0.clip)
    (result : WalkResult) (failure : Option (Nat × Nat)) : Changes S s (unwindWalk w result failure [] s) := by
  unfold Machine.unwindWalk
  dsimp only
  rw [List.append_nil, hc]
  exact (Change.unwind hS w0 hw).changes.trans (raise _ _ _)

/-- A protect lookup is served to the walk in flight. -/
theorem serveLookup {w : Walk} {s : State} (hw : s.engine.walk = some w) (i : Fin 8) (key : Nat) :
    Changes S s (serveLookup w i key s) := by
  have hfits : WalkSound s → s.WalkFits w := fun h => h w hw
  unfold Machine.serveLookup
  obtain ⟨-, h⟩ | ⟨x, g, -, h⟩ := takeHold_cases i key s
  · rw [h]
    dsimp only [walkHole]
    cases hc : s.clip w.clip with
    | none =>
      have hfind : s.clips.find w.clip = none := hc
      rw [State.onClip, hfind]
      exact advanceWalk hS hfits
    | some c =>
      rw [State.onClip_of_some hc]
      refine (Change.clip w.clip c { c with protection := c.protection.map fun p => { p with holes := p.holes + 1 } } hc
        ⟨rfl, rfl, rfl, rfl, rfl, ?_⟩ rfl).changes.trans (advanceWalk hS fun h => ?_)
      · cases c.protection <;> rfl
      · obtain ⟨c1, p1, h1, hst, hp, ha, hper, hang⟩ := h w hw
        exact ⟨c1, p1, h1, hst, hp, ha, hper, hang⟩
  · have hheld (t : State) (ht : takeHold i key s = (.held x, t))
        (hsame : t.clips = s.clips ∧ t.engine = s.engine) : Changes S s (walkHeld w x t) := by
      have htw : t.engine.walk = some w := hsame.2 ▸ hw
      unfold walkHeld
      dsimp only
      cases hb : (t.clip w.clip).bind Clip.protection with
      | none =>
        rw [State.clip_eq, hsame.1, ← State.clip_eq] at hb
        have hno : ¬ WalkSound s := fun hs => by
          obtain ⟨c, p, hc, -, hp, -⟩ := hs w hw
          rw [hc, Option.bind_some, hp] at hb
          cases hb
        exact (Change.strayHold i key x t ht hno).changes.trans (Change.idle hS).changes
      | some p =>
        obtain ⟨c, hc, hp⟩ := Option.bind_eq_some_iff.mp hb
        have hcs : s.clip w.clip = some c := by rw [State.clip_eq, ← hsame.1]; exact hc
        dsimp only
        split
        · refine trans ?_ (raise _ _ _)
          exact (Change.fragment hS i key x t w hw ht).changes
        · rename_i l hl
          rw [State.onClip_of_some hc]
          refine (Change.holdEntered i key x t w c p l hw hcs hp hl ht).changes.trans (advanceWalk hS fun h => ?_)
          obtain ⟨c1, p1, h1, hst, hp, ha, hper, hang⟩ := h w htw
          exact ⟨c1, p1, h1, hst, hp, ha, hper, hang⟩
    obtain ⟨-, h⟩ | ⟨-, -, h⟩ | ⟨-, -, h⟩ | ⟨-, -, h⟩ := h
    · rw [h]; exact unwindWalk hS hw rfl _ _
    · rw [h]; exact unwindWalk hS hw rfl _ _
    · rw [h]; exact hheld _ h ⟨rfl, rfl⟩
    · rw [h]; exact hheld _ h ⟨rfl, rfl⟩

theorem stopLookup (s : State) : Changes S s (stopLookup s) := by
  unfold Machine.stopLookup
  split
  · split
    · exact (Change.lookup hS s.engine.lookup true).changes
    · exact onStoreReads hS rfl
  · exact refl s

theorem releaseClip (id : Nat) (s : State) : Changes S s (releaseClip id s).state := by
  refine onClipNo fun c hc => ?_
  split
  · exact refl s
  · split
    · rename_i p hst hp
      dsimp only [releaseProtected, accept]
      exact (Change.release id c p hc hst hp).changes
    · rename_i w hst hw
      have hwalk : (Machine.stopLookup s).engine.walk = some w := by
        unfold Machine.stopLookup
        split
        · split <;> exact hw
        · exact hw
      dsimp only [stopWalk, accept]
      exact (stopLookup hS s).trans (unwindWalk hS hwalk rfl _ _)
    · exact refl s

theorem endService (s : State) : Changes S s (endService s) := onStoreReads hS rfl

theorem withdrawnEnd (s : State) : Changes S s (withdrawnEnd s) := by
  have hend : Changes S s ((Machine.endService s).onEngine fun e => { e with withdrawn := false }) :=
    (endService hS s).trans (Change.lookup hS s.engine.lookup false).changes
  unfold Machine.withdrawnEnd
  split
  · split
    · exact (hend.trans (issueLookup hS _ _ _)).trans (serve hS _)
    · exact hend.trans (serve hS _)
  · exact hend.trans (serve hS _)

end

end Changes

end Sys2Proof.Machine
end

section
/-! PROOFS. What a chain of a narrow scope leaves as it was, and the requests of channels, cue memory, lines and endpoint as
chains of changes. -/

namespace Sys2Proof.Machine

/-! ## Operations on the streams and the store's contents -/

/-- Only the streams and the store's allotments, slots and band data can differ. -/
def SameButContents (s t : State) : Prop :=
  ∃ streams allotments slots dram,
    t = { s with streams := streams, store := { s.store with allotments := allotments, slots := slots, dram := dram } }

namespace SameButContents

theorem refl (s : State) : SameButContents s s := ⟨_, _, _, _, rfl⟩

theorem trans {s t u : State} (h : SameButContents s t) (k : SameButContents t u) : SameButContents s u := by
  obtain ⟨_, _, _, _, rfl⟩ := h
  obtain ⟨a, b, c, d, rfl⟩ := k
  exact ⟨a, b, c, d, rfl⟩

theorem setSlot (x : Nat) (r : Slot) (s : State) : SameButContents s (s.onStore (Store.setSlot x r)) := ⟨_, _, _, _, rfl⟩

theorem onAllotment (i : Fin 8) (f : Allotment → Allotment) (s : State) : SameButContents s (s.onAllotment i f) :=
  ⟨_, _, _, _, rfl⟩

theorem onStream (i : Fin 8) (f : Stream → Stream) (s : State) : SameButContents s (s.onStream i f) := ⟨_, _, _, _, rfl⟩

theorem writeBand (x b : Nat) (bytes : Band) (s : State) : SameButContents s (s.onStore (Store.writeBand x b bytes)) :=
  ⟨_, _, _, _, rfl⟩

theorem foldl {α : Type} {f : State → α → State} (hf : ∀ s a, SameButContents s (f s a)) (l : List α) (s : State) :
    SameButContents s (l.foldl f s) := by
  induction l generalizing s with
  | nil => exact refl s
  | cons a l ih => exact (hf s a).trans (ih _)

theorem recomputeRecall (i : Fin 8) (s : State) : SameButContents s (recomputeRecall i s) :=
  ⟨_, _, _, _, rfl⟩

theorem abandon (i : Fin 8) (s : State) : SameButContents s (abandon i s) := by
  unfold Machine.abandon
  split
  · exact refl s
  · exact (setSlot _ _ _).trans (onStream _ _ _)

theorem startFrame {i : Fin 8} {key : Nat} {payload : Band} {s t : State} (h : startFrame i key payload s = .next t) :
    SameButContents s t := by
  unfold Machine.startFrame at h
  split at h
  · cases h
  · rename_i x s1 hclaim
    cases h
    obtain ⟨f, c, -, -, -, rfl⟩ := claim_some hclaim
    exact ((setSlot _ _ _).trans (onAllotment _ _ _)).trans ((writeBand _ _ _ _).trans (onStream _ _ _))

theorem commitFrame (i : Fin 8) (key slot : Nat) (s : State) : SameButContents s (commitFrame i key slot s) :=
  ((setSlot _ _ _).trans (onAllotment _ _ _)).trans ((onStream _ _ _).trans (recomputeRecall _ _))

theorem continueFrame (i : Fin 8) (a : Assembly) (payload : Band) (s : State) :
    SameButContents s (continueFrame i a payload s) := by
  unfold Machine.continueFrame
  dsimp only
  split
  · exact (writeBand _ _ _ _).trans (commitFrame _ _ _ _)
  · exact (writeBand _ _ _ _).trans (onStream _ _ _)

theorem releaseHold (s : State) (x : Nat) : SameButContents s (releaseHold s x) := by
  rw [releaseHold_cases]
  split
  · exact (setSlot _ _ s).trans (onAllotment _ _ _)
  · exact setSlot _ _ s

theorem releaseHolds (slots : List Nat) (s : State) : SameButContents s (releaseHolds slots s) := by
  unfold Machine.releaseHolds
  refine (foldl releaseHold slots s).trans (foldl (fun t i => ?_) allEight _)
  split
  · exact refl t
  · exact recomputeRecall i t

theorem takeHold {i : Fin 8} {key : Nat} {s t : State} {r : HoldResult} (h : takeHold i key s = (r, t)) :
    SameButContents s t := by
  obtain ⟨-, h'⟩ | ⟨x, g, -, h' | h' | h' | h'⟩ := takeHold_cases i key s
  · rw [h'] at h; cases h; exact refl s
  · rw [h'.2] at h; cases h; exact refl s
  · rw [h'.2.2] at h; cases h; exact refl s
  · rw [h'.2.2] at h; cases h; exact ((setSlot _ _ s).trans (onAllotment _ _ _)).trans (recomputeRecall _ _)
  · rw [h'.2.2] at h; cases h; exact setSlot _ _ s

end SameButContents

/-! ## Operations on the clip table -/

theorem onClip_eq (id : Nat) (f : Clip → Clip) (s : State) : ∃ t, s.onClip id f = { s with clips := t } := by
  unfold State.onClip
  split
  · exact ⟨s.clips, rfl⟩
  · exact ⟨_, rfl⟩

theorem leaveClip_eq (b : Binding) (s : State) : ∃ t, leaveClip b s = { s with clips := t } := by
  unfold leaveClip
  split
  · split
    · exact ⟨s.clips, rfl⟩
    · exact ⟨_, rfl⟩
  · exact ⟨s.clips, rfl⟩

theorem joinClip_eq (b : Binding) (s : State) : ∃ t, joinClip b s = { s with clips := t } := by
  unfold joinClip
  split
  · split
    · exact ⟨s.clips, rfl⟩
    · exact ⟨_, rfl⟩
  · exact ⟨s.clips, rfl⟩

/-- Closing a clip at a boundary changes the clip table and the notices alone. -/
theorem closeClip_eq (time : Nat) (s : State) (a : Nat × Clip) :
    ∃ t e, closeClip time s a = { s with clips := t, endpoint := e } ∧ (s.endpoint.bounded → e.bounded) := by
  unfold closeClip
  split
  · split
    · exact ⟨_, _, rfl, .raise _⟩
    · exact ⟨_, _, rfl, id⟩
  · exact ⟨_, _, rfl, id⟩

theorem closeClips_eq (time : Nat) (s : State) :
    ∃ t e, closeClips time s = { s with clips := t, endpoint := e } ∧ (s.endpoint.bounded → e.bounded) := by
  unfold closeClips
  generalize clipList s.clips = l
  induction l generalizing s with
  | nil => exact ⟨_, _, rfl, id⟩
  | cons a l ih =>
    obtain ⟨t, e, h, hb⟩ := closeClip_eq time s a
    obtain ⟨t', e', h', hb'⟩ := ih (closeClip time s a)
    rw [List.foldl_cons, h']
    rw [h] at hb' ⊢
    exact ⟨_, _, rfl, hb' ∘ hb⟩

/-! ## What a scope leaves as it was -/

/-- What a change outside some scope leaves: the waiting commands, and the links, channels and reads out of its scope. -/
structure OutOfScope (S : Scope) (s t : State) : Prop where
  pending : t.pending = s.pending
  links : ¬ S.links → t.links = s.links
  channels : ∀ ch, ¬ S.channels ch → t.channel ch = s.channel ch
  reads : ¬ S.reads → t.store.service = s.store.service ∧ t.store.queue = s.store.queue ∧ t.engine = s.engine

namespace OutOfScope

variable {S : Scope} {s t u : State}

theorem refl : OutOfScope S s s := ⟨rfl, fun _ => rfl, fun _ _ => rfl, fun _ => ⟨rfl, rfl, rfl⟩⟩

theorem trans (h : OutOfScope S s t) (k : OutOfScope S t u) : OutOfScope S s u where
  pending := k.pending.trans h.pending
  links hS := (k.links hS).trans (h.links hS)
  channels ch hS := (k.channels ch hS).trans (h.channels ch hS)
  reads hS := by
    obtain ⟨h1, h2, h3⟩ := h.reads hS
    obtain ⟨k1, k2, k3⟩ := k.reads hS
    exact ⟨k1.trans h1, k2.trans h2, k3.trans h3⟩

theorem contents (h : SameButContents s t) : OutOfScope S s t := by
  obtain ⟨_, _, _, _, rfl⟩ := h
  exact ⟨rfl, fun _ => rfl, fun _ _ => rfl, fun _ => ⟨rfl, rfl, rfl⟩⟩

theorem clips (h : ∃ c, t = { s with clips := c }) : OutOfScope S s t := by
  obtain ⟨_, rfl⟩ := h
  exact ⟨rfl, fun _ => rfl, fun _ _ => rfl, fun _ => ⟨rfl, rfl, rfl⟩⟩

theorem onChannel {ch : Fin 4} (hS : S.channels ch) (f : Channel → Channel) : OutOfScope S s (s.onChannel ch f) := by
  refine ⟨rfl, fun _ => rfl, fun j hj => ?_, fun _ => ⟨rfl, rfl, rfl⟩⟩
  rw [State.channel_onChannel, if_neg]
  rintro rfl
  exact hj hS

theorem engine (hS : S.reads) (f : Engine → Engine) : OutOfScope S s (s.onEngine f) :=
  ⟨rfl, fun _ => rfl, fun _ _ => rfl, fun h => absurd hS h⟩

theorem removeClip (id : Nat) (c : Clip) (s : State) : OutOfScope S s (removeClip id c s) := by
  unfold Machine.removeClip
  dsimp only
  split <;> exact ⟨rfl, fun _ => rfl, fun _ _ => rfl, fun _ => ⟨rfl, rfl, rfl⟩⟩

end OutOfScope

theorem Change.outOfScope {S : Scope} {s t : State} (h : Change S s t) : OutOfScope S s t := by
  cases h with
  | port hS => exact ⟨rfl, fun h => absurd hS h, fun _ _ => rfl, fun _ => ⟨rfl, rfl, rfl⟩⟩
  | reads hS => exact ⟨rfl, fun _ => rfl, fun _ _ => rfl, fun h => absurd hS h⟩
  | lookup hS l w => exact .engine hS fun e => { e with lookup := l, withdrawn := w }
  | walk hS w => exact .engine hS fun e => { e with walk := some w }
  | idle hS => exact .engine hS _
  | channel ch hS f => exact .onChannel hS f
  | abandon i => exact .contents (.abandon i s)
  | startFrame i key payload _ _ _ _ h => exact .contents (.startFrame h)
  | continueFrame i a payload => exact .contents (.continueFrame i a payload s)
  | configureStore hS => exact ⟨rfl, fun _ => rfl, fun _ _ => rfl, fun h => absurd hS h⟩
  | closeClips time =>
    obtain ⟨_, _, h, -⟩ := closeClips_eq time s
    rw [h]
    exact ⟨rfl, fun _ => rfl, fun _ _ => rfl, fun _ => ⟨rfl, rfl, rfl⟩⟩
  | drop id c => exact .trans (.contents (.releaseHolds _ s)) (.removeClip _ _ _)
  | completeWalk hS id => exact .trans (.clips (onClip_eq _ _ _)) (.engine hS _)
  | holdEntered i key x t w c p l hw hc hp hl h => exact .trans (.contents (.takeHold h)) (.clips ⟨_, rfl⟩)
  | unwind hS w => exact .trans (.trans (.contents (.releaseHolds _ s)) (.clips (onClip_eq _ _ _))) (.engine hS _)
  | fragment hS i key x t w hw h =>
    exact .trans (.trans (.trans (.contents (.takeHold h)) (.contents (.releaseHolds _ _))) (.clips (onClip_eq _ _ _)))
      (.engine hS _)
  | strayHold i key x t h => exact .contents (.takeHold h)
  | release id c p => exact .trans (.contents (.releaseHolds _ s)) (.clips (onClip_eq _ _ _))
  | bind ch hS f b p => exact .trans (.trans (.clips (leaveClip_eq _ _)) (.clips (joinClip_eq _ _))) (.onChannel hS _)
  | resetChannel ch hS => exact .trans (.clips (leaveClip_eq _ _)) (.onChannel hS _)
  | runOn ch hS => exact .trans (.clips (leaveClip_eq _ _)) (.onChannel hS _)
  | clearCounters hS hC => exact ⟨rfl, fun h => absurd hS h, fun ch h => absurd (hC ch) h, fun _ => ⟨rfl, rfl, rfl⟩⟩
  | reset hS => subst hS; exact ⟨rfl, fun h => absurd trivial h, fun _ h => absurd trivial h, fun h => absurd trivial h⟩
  | _ => exact ⟨rfl, fun _ => rfl, fun _ _ => rfl, fun _ => ⟨rfl, rfl, rfl⟩⟩

theorem Changes.outOfScope {S : Scope} {s t : State} (h : Changes S s t) : OutOfScope S s t :=
  Changes.keeps (P := OutOfScope S s) (fun _ _ hc hs => hs.trans hc.outOfScope) h .refl

/-! ## Channel requests (chapters 6, 8 and 9) -/

theorem periodOk_iff (n : Nat) : periodOk n = true ↔ n ∈ [1, 2, 4, 8, 16, 32, 64] := by
  simp [periodOk, or_assoc]

theorem channelArgs_inRange {a : ChannelArgs} {k : ChannelConfig} (h : channelArgs a = some k) : k.inRange := by
  unfold channelArgs at h
  split at h
  · split at h
    · rename_i hc
      obtain ⟨h1, h2, hp, hb⟩ := hc
      cases h
      exact ⟨min_le_right _ _, min_le_right _ _, h1, h2, (periodOk_iff _).mp hp, hb⟩
    · cases h
  · cases h

theorem Channel.inRange.configure {c : Channel} (h : c.inRange) {k : ChannelConfig} (hk : k.inRange) :
    (c.configure k).inRange := by
  obtain ⟨hs, ht, ho, hh, -, hb, hp, hrest⟩ := h
  refine ⟨hs, ht, ho, hh, hk, hb, ?_, hrest⟩
  have hpos : 0 < k.passPeriod := by
    obtain ⟨-, -, -, -, hper, -⟩ := hk
    rcases List.mem_cons.mp hper with h | h
    · omega
    · simp only [List.mem_cons, List.not_mem_nil, or_false] at h; omega
  show (if k.passPeriod = c.config.passPeriod then c.passCount else 0) < k.passPeriod
  split
  · rename_i he; rw [he]; exact hp
  · exact hpos

/-- The channel record of a channel that becomes HALTED (R104). -/
def Channel.halted (cause : HaltCause) (c : Channel) : Channel :=
  match c.state with
  | .halted _ => c
  | _ => { c with state := .halted cause }

theorem haltChannel_eq (ch : Fin 4) (cause : HaltCause) (s : State) :
    haltChannel ch cause s = (s.onChannel ch (Channel.halted cause)).onStore (Store.discardFetches ch) := by
  unfold haltChannel
  rfl

theorem Channel.halted_playing (cause : HaltCause) (c : Channel) : (c.halted cause).playing = false := by
  unfold Channel.halted
  split
  · rename_i h; simp [Channel.playing, h]
  · rfl

theorem Channel.halted_same (cause : HaltCause) (c : Channel) :
    (c.halted cause).binding = c.binding ∧ (c.halted cause).position = c.position ∧
      (c.halted cause).config = c.config ∧ (c.inRange → (c.halted cause).inRange) := by
  unfold Channel.halted
  split <;> exact ⟨rfl, rfl, rfl, id⟩

namespace Changes

variable {S : Scope} {ch : Fin 4}

theorem discardFetches (hrd : S.reads) (s : State) : Changes S s (s.onStore (Store.discardFetches ch)) :=
  onStoreReads hrd rfl

theorem readChannel (s : State) : Changes S s (readChannel ch s).state := refl s

section
variable (hch : S.channels ch)
include hch

theorem requestBreak (s : State) : Changes S s (requestBreak ch s).state := by
  unfold Machine.requestBreak
  split
  · dsimp only [accept]
    exact onChannel hch (.same fun _ h => h)
  · exact refl s

theorem continueBreak (s : State) : Changes S s (continueBreak ch s).state := by
  unfold Machine.continueBreak
  dsimp only
  split
  · exact refl s
  · exact endBreak hch ‹_› _
  · split
    · dsimp only [accept]
      exact onChannel hch (.same fun _ h => h)
    · exact refl s
  · exact refl s

theorem bindChannel (f : BindForm) (s : State) : Changes S s (bindChannel f ch s).state := by
  unfold Machine.bindChannel
  dsimp only
  split
  · exact refl s
  · split
    · exact refl s
    · rename_i hroute
      split
      · exact refl s
      · rename_i hb
        exact (Change.bind ch hch f _ _ hb (by simpa using hroute)).changes.trans (settleFault hch _ _)

theorem play (target : Int) (immediate : Bool) (s : State) : Changes S s (play target immediate ch s).state := by
  have hset : Changes S s (s.onChannel ch (Channel.play (clampSpeed target) immediate)) := by
    refine onChannel hch (.same fun _ h => ?_)
    have hv := clampSpeed_mem target
    obtain ⟨hs, -, -, hr⟩ := h
    refine ⟨?_, hv, Nat.zero_le _, hr⟩
    show _ ≤ (if immediate then _ else _) ∧ (if immediate then _ else _) ≤ _
    split
    · exact hv
    · exact hs
  unfold Machine.play
  dsimp only
  split
  · exact refl s
  · rename_i hplay
    split
    · exact refl s
    · dsimp only [accept]
      split
      · refine (hset.trans (onChannel hch (.restated (fun _ h => h) ?_))).trans (sampleBreak hch _ _)
        rw [Channel.playing_congr (onChannel_state s)]
        simpa using hplay
      · exact hset

theorem stopPlay (immediate : Bool) (s : State) : Changes S s (stopPlay immediate ch s).state := by
  unfold Machine.stopPlay
  split
  · exact refl s
  · dsimp only [accept]
    refine onChannel hch (.same fun _ h => ?_)
    obtain ⟨hs, -, hr⟩ := h
    have h0 : (-3072 : Int) ≤ 0 ∧ (0 : Int) ≤ 3072 := by decide
    refine ⟨?_, h0, hr⟩
    dsimp only
    split
    · decide
    · exact hs

theorem shuttle (speed : Int) (s : State) : Changes S s (shuttle speed ch s).state := by
  unfold Machine.shuttle
  dsimp only
  split
  · exact refl s
  · rename_i hst
    split
    · exact refl s
    · dsimp only [accept]
      refine onChannel hch (.restated (fun _ h => ?_) ?_)
      · have hv := clampSpeed_mem speed
        obtain ⟨hs, -, -, -, hk, hr⟩ := h
        refine ⟨hs, hv, ?_, Nat.zero_le _, hk, hr⟩
        obtain ⟨-, -, -, ho, -⟩ := hk
        exact ho
      · rcases not_not.mp hst with h | h <;> simp [Channel.playing, h]

theorem jog (n : Int) (s : State) : Changes S s (jog n ch s).state := by
  unfold Machine.jog
  dsimp only
  split
  · rename_i hst
    dsimp only [accept]
    refine moveTo hch (by rcases hst.1 with h | h <;> simp [Channel.playing, h]) fun lo hi h hle => ?_
    rw [State.bounds_eq, h]
    exact ⟨le_clampPos _ _ _, clampPos_le hle _⟩
  · exact refl s

theorem seek (f : SeekForm) (s : State) : Changes S s (seek f ch s).state := by
  unfold Machine.seek
  dsimp only
  split
  · rename_i hst
    dsimp only [accept]
    refine onChannel hch (.moved (fun _ h => ?_) (by rcases hst with h | h <;> simp [Channel.playing, h])
      fun lo hi h hle => ?_)
    · exact (h.scanner (r := { (s.channel ch).scanner with reseek := _ }) h.index_le).hold (Nat.zero_le _)
    · show lo ≤ clampTo _ _ ∧ clampTo _ _ ≤ hi
      rw [State.bounds_eq, h]
      exact ⟨le_clampPos _ _ _, clampPos_le hle _⟩
  · exact refl s

theorem angle (n : Nat) (s : State) : Changes S s (angle n ch s).state := by
  unfold Machine.angle
  dsimp only
  split
  · exact refl s
  · cases hb : (s.channel ch).binding with
    | unbound => exact refl s
    | clip id a =>
      dsimp only
      split
      · dsimp only [accept]
        exact onChannel hch (.angled hb rfl rfl rfl rfl fun h => h)
      · exact refl s
    | free origin i =>
      dsimp only
      split
      · exact refl s
      · split
        · exact refl s
        · rename_i hj
          dsimp only [accept]
          exact onChannel hch (.freed hb rfl hj rfl rfl rfl fun h => h.scanner h.index_le)

theorem clearWarnings (s : State) : Changes S s (clearWarnings ch s).state :=
  (onChannel hch (.same fun _ h => h)).trans (settleFault hch _ _)

theorem bindCues (first count : Nat) (s : State) : Changes S s (bindCues first count ch s).state := by
  unfold Machine.bindCues
  split
  · exact refl s
  · rename_i hargs
    split
    · exact refl s
    · refine (onChannel hch (.same fun _ h => ?_)).trans (settleFault hch _ _)
      obtain ⟨hs, ht, ho, hh, hk, hb, hp, -, -, -, -, hm⟩ := h
      refine ⟨hs, ht, ho, hh, hk, hb, hp, fun b he => ?_, Nat.zero_le _, Nat.zero_le _, nofun, hm⟩
      dsimp only [Channel.clearCues, Channel.resetScanner] at he
      split at he
      · cases he
      · cases he
        dsimp only
        omega

variable (hrd : S.reads)
include hrd

theorem haltChannel (cause : HaltCause) (s : State) : Changes S s (haltChannel ch cause s) := by
  obtain ⟨hb, hp, -, hr⟩ := Channel.halted_same cause (s.channel ch)
  rw [haltChannel_eq]
  exact (onChannel hch (.stopped (fun _ => hr) (Channel.halted_playing _ _) (by rw [hb]) hp)).trans
    (discardFetches hrd _)

theorem halt (s : State) : Changes S s (halt ch s).state := (haltChannel hch hrd _ s).trans (settleFault hch _ _)

theorem configureChannel (a : ChannelArgs) (s : State) : Changes S s (configureChannel a ch s).state := by
  unfold Machine.configureChannel
  split
  · exact refl s
  · rename_i k hk
    dsimp only
    split
    · exact refl s
    · refine trans ?_ (settleFault hch _ _)
      split
      · obtain ⟨hb, hp, -, hr⟩ := Channel.halted_same .route ((s.channel ch).configure k)
        rw [haltChannel_eq, State.onChannel_onChannel]
        exact (onChannel (f := fun c => Channel.halted .route (c.configure k)) hch
          (.stopped (fun _ h => hr (h.configure (channelArgs_inRange hk)))
          (Channel.halted_playing _ _) (by rw [hb]; rfl) hp)).trans (discardFetches hrd _)
      · rename_i hup
        refine onChannel hch ⟨fun _ h => h.configure (channelArgs_inRange hk), rfl, fun _ hplay => ?_, fun _ _ h => h⟩
        have hplay' : (s.channel ch).playing = true := hplay
        rw [hplay', Bool.true_and, Bool.not_eq_true', Bool.not_eq_false] at hup
        exact (Option.any_eq_true _ _).mp hup

theorem resetChannel (s : State) : Changes S s (resetChannel ch s).state :=
  ((Change.resetChannel ch hch).changes.trans (discardFetches hrd _)).trans (settleFault hch _ _)

end

/-! ## Cue memory, lines and endpoint (chapters 8, 11 and 12) -/

theorem stageCues (start : Nat) (records : List CueRecord) (s : State) : Changes S s (stageCues start records s).state := by
  have hpages (l : List CueRecord) (m : CueMemory) : (l.foldl CueMemory.stage m).pages = m.pages := by
    induction l generalizing m with
    | nil => rfl
    | cons q l ih => exact ih _
  unfold Machine.stageCues
  split
  · exact refl s
  · split
    · exact refl s
    · refine (Change.cues _ fun h => ?_).changes
      rw [hpages]
      exact h

theorem clearStaging (s : State) : Changes S s (clearStaging s).state := by
  unfold Machine.clearStaging
  split
  · exact refl s
  · exact (Change.cues s.cues.emptyStaging fun h => h).changes

theorem readStaging (s : State) : Changes S s (readStaging s).state := refl s

theorem commitCuePage (page : Nat) (s : State) : Changes S s (commitCuePage page s).state := by
  unfold Machine.commitCuePage
  split
  · exact refl s
  · split
    · exact refl s
    · split
      · exact refl s
      · exact (Change.cues { s.cues with commit := some page } fun h => h).changes

theorem readCuePage (page : Nat) (s : State) : Changes S s (readCuePage page s).state := by
  unfold Machine.readCuePage
  split <;> exact refl s

theorem configureLine (line function channel polarity action group : Nat) (s : State) :
    Changes S s (configureLine line function channel polarity action group s).state := by
  unfold Machine.configureLine
  split
  · dsimp only [accept]
    split
    · exact (Change.lines _).changes
    · exact (Change.lines _).changes.trans (Change.latch _ _ id).changes
  · exact refl s

theorem lineRequest (a : LineAction) (mask length : Nat) (s : State) : Changes S s (lineRequest a mask length s).state :=
  actOnLines a mask length s

theorem readLines (s : State) : Changes S s (readLines s).state := refl s

theorem setNoticeEnables (classes : Nat) (s : State) : Changes S s (setNoticeEnables classes s).state := by
  unfold Machine.setNoticeEnables
  split
  · exact refl s
  · exact (Change.endpoint (fun e => { e with enables := BitVec.ofNat 8 classes }) fun h => h).changes

theorem setNoticeRoute (a : Option RouteArg) (s : State) : Changes S s (setNoticeRoute a s).state := by
  unfold Machine.setNoticeRoute
  split
  · exact refl s
  · rename_i r _
    refine (Change.endpoint _ fun h => ?_).changes
    cases r with
    | none => exact ⟨Nat.zero_le _, fun _ => rfl⟩
    | some r => exact ⟨h.1, nofun⟩

theorem readStatus (s : State) : Changes S s (readStatus s).state := refl s

theorem clearStatus (hS : S.links) (hC : ∀ ch, S.channels ch) (s : State) : Changes S s (clearStatus s).state :=
  (Change.clearCounters hS hC).changes

theorem resetPart (l : Fin 2) (s : State) : Changes S s (resetPart l s).state :=
  (Change.endpoint (fun e => { e with reset := .queued l }) fun h => h).changes

theorem refuse (st : Status) (s : State) : Changes S s (refuse st s).state := refl s

/-! ## A request taken (R184, R185) -/

theorem onChannelNo {n : Nat} {run : Fin 4 → State → Answer} {s : State}
    (h : ∀ ch, Changes S s (run ch s).state) : Changes S s (onChannelNo n run s).state := by
  unfold Machine.onChannelNo
  split
  · exact refl s
  · exact h _

theorem withFlag {n : Nat} {run : Bool → State → Answer} {s : State} (h : ∀ b, Changes S s (run b s).state) :
    Changes S s (withFlag n run s).state := by
  unfold Machine.withFlag
  split
  · exact refl s
  · exact h _

theorem served (o : Origin) (s : State) : Changes S s (s.served o) := (Change.endpoint _ fun h => h).changes

/-- A reply joins a queue with room for it. -/
theorem queueReply (hS : S.links) (o : Origin) (kind : Nat) (st : Status) (results : List Byte) {s : State}
    (hup : (s.port o.link).up = true) (hroom : (s.port o.link).replies.length < 8) :
    Changes S s (queueReply o kind st results s) := by
  refine (Change.port hS o.link _ ⟨fun h => ?_, fun h => h, .inl hup⟩).changes
  obtain ⟨hc, -, hf, -⟩ := h
  refine ⟨hc, ?_, hf, fun hdown => ?_⟩
  · simp only [List.length_append, List.length_singleton]
    omega
  · simp [hup] at hdown

/-- A request whose own changes leave the links, carried out with its reply. -/
theorem takeRequest {run : State → Answer}
    (hrun : ∀ S : Scope, (∀ ch, S.channels ch) → S.reads → ∀ s, Changes S s (run s).state) (o : Origin) (kind : Nat) (s : State) :
    ∃ t, takeRequest o kind run s = .next t ∧ Changes .all s t := by
  by_cases htake : s.canTake o.link = true
  · obtain ⟨hup, hroom, -⟩ := (s.canTake_iff o.link).mp htake
    have hlinks : (run (s.served o)).state.links = s.links :=
      (hrun ⟨fun _ => True, True, False⟩ (fun _ => trivial) trivial (s.served o)).outOfScope.links id
    have hport : (run (s.served o)).state.port o.link = s.port o.link := by rw [State.port, hlinks]; rfl
    refine ⟨_, takeRequest_taken htake kind run, ?_⟩
    refine ((served o s).trans (hrun .all (fun _ => trivial) trivial _)).trans (queueReply trivial o _ _ _ ?_ ?_)
    · exact hport ▸ hup
    · exact hport ▸ hroom
  · exact ⟨s, takeRequest_notTaken (by simpa using htake) kind run, refl s⟩

/-- CLEAR STATUS writes the links' counters too. -/
theorem takeClearStatus (o : Origin) (kind : Nat) (s : State) :
    ∃ t, Machine.takeRequest o kind Machine.clearStatus s = .next t ∧ Changes .all s t := by
  by_cases htake : s.canTake o.link = true
  · obtain ⟨hup, hroom, -⟩ := (s.canTake_iff o.link).mp htake
    have hport : ((clearCounters (s.served o)).port o.link) = (s.port o.link).clearCounters := by
      generalize o.link = l
      fin_cases l <;> rfl
    refine ⟨_, takeRequest_taken htake kind _, ?_⟩
    refine ((served o s).trans (clearStatus trivial (fun _ => trivial) _)).trans (queueReply trivial o _ _ _ ?_ ?_)
    · show ((clearCounters (s.served o)).port o.link).up = true
      rw [hport]
      exact hup
    · show ((clearCounters (s.served o)).port o.link).replies.length < 8
      rw [hport]
      exact hroom
  · exact ⟨s, takeRequest_notTaken (by simpa using htake) kind _, refl s⟩

end Changes

end Sys2Proof.Machine
end

section
/-! PROOFS. Every event of the part is a chain of changes, and the only command that can stop is a packet whose claim finds no
slot. -/

namespace Sys2Proof.Machine

/-! ## Folds over records -/

/-- After a fold of operations that each give one channel a property and leave the other channels, each channel of the fold has
it. -/
theorem channel_foldl {f : State → Fin 4 → State} {P : Channel → Prop} (hself : ∀ s ch, P ((f s ch).channel ch))
    (hother : ∀ s ch j, j ≠ ch → (f s ch).channel j = s.channel j) (l : List (Fin 4)) (s : State) :
    ∀ j, (j ∈ l → P ((l.foldl f s).channel j)) ∧ (j ∉ l → (l.foldl f s).channel j = s.channel j) := by
  induction l generalizing s with
  | nil => exact fun j => ⟨fun h => absurd h List.not_mem_nil, fun _ => rfl⟩
  | cons ch l ih =>
    intro j
    rw [List.foldl_cons]
    refine ⟨fun hj => ?_, fun hj => ?_⟩
    · by_cases hl : j ∈ l
      · exact (ih _ j).1 hl
      · rw [(ih _ j).2 hl]
        obtain rfl | hj := List.mem_cons.mp hj
        · exact hself s j
        · exact absurd hj hl
    · obtain ⟨hne, hl⟩ := not_or.mp (mt List.mem_cons.mpr hj)
      rw [(ih _ j).2 hl, hother s ch j hne]

/-- The scope of one channel, with the read service. -/
def Scope.one (ch : Fin 4) : Scope := ⟨(· = ch), True, False⟩

theorem Changes.channel_ne {ch j : Fin 4} {s t : State} (h : Changes (.one ch) s t) (hj : j ≠ ch) : t.channel j = s.channel j :=
  h.outOfScope.channels j hj

/-- Any run of bytes a packet's frame number is read from gives a number below 2^40. -/
theorem readPacket_frame {bytes : List Byte} {p : Packet} (h : readPacket bytes = some p) : p.frame < 2 ^ 40 := by
  unfold readPacket at h
  dsimp only at h
  split at h
  · cases h
    refine (ofBE_lt _).trans_le ?_
    calc 256 ^ (List.take 5 (List.drop 4 bytes)).length ≤ 256 ^ 5 :=
          Nat.pow_le_pow_right (by decide) (List.length_take_le _ _)
      _ = 2 ^ 40 := by decide
  · cases h

theorem streamFor_enabled {l : Fin 2} {sourceId : Nat} {s : State} {i : Fin 8} (h : streamFor l sourceId s = some i) :
    (s.stream i).enabled = true := by
  have := List.find?_some h
  simp only [Bool.and_eq_true] at this
  exact this.1

/-! ## A link goes DOWN (R178) -/

section
variable (l k : Fin 2) (g : Link → Link) (s : State)

theorem streamDown_onPort (i : Fin 8) : streamDown l (s.onPort k g) i = (streamDown l s i).onPort k g := by
  unfold streamDown
  by_cases h : (s.stream i).enabled = true ∧ (s.stream i).link = l
  · rw [if_pos h, if_pos (show ((s.onPort k g).stream i).enabled = true ∧ ((s.onPort k g).stream i).link = l from h)]
    unfold abandon
    show (match (s.stream i).assembly with | none => _ | some a => _) = _
    cases (s.stream i).assembly <;> rfl
  · rw [if_neg h, if_neg (show ¬ (((s.onPort k g).stream i).enabled = true ∧ ((s.onPort k g).stream i).link = l) from h)]

theorem settleFault_onPort (ch : Fin 4) (time : Nat) :
    settleFault ch time (s.onPort k g) = (settleFault ch time s).onPort k g := by
  by_cases h : (s.channel ch).faultLevel = (s.channel ch).level
  · rw [show settleFault ch time s = s from if_pos h]
    exact if_pos h
  · exact (if_neg h).trans (congrArg (State.onPort k g) (show _ = settleFault ch time s from (if_neg h).symm))

theorem channelDown_onPort (ch : Fin 4) : channelDown l (s.onPort k g) ch = (channelDown l s ch).onPort k g := by
  unfold channelDown
  dsimp only
  by_cases h : (((s.onChannel ch (Channel.dropEmission l)).channel ch).playing &&
      ((s.onChannel ch (Channel.dropEmission l)).channel ch).config.route.any fun r => decide (r.link = l)) = true
  · rw [if_pos h]
    exact (if_pos h).trans (settleFault_onPort k g (haltChannel ch .linkDown (s.onChannel ch (Channel.dropEmission l))) ch s.houseTime)
  · rw [if_neg h]
    exact if_neg h

theorem foldl_onPort {α : Type} {f : State → α → State} (hf : ∀ s a, f (s.onPort k g) a = (f s a).onPort k g) (as : List α)
    (s : State) : as.foldl f (s.onPort k g) = (as.foldl f s).onPort k g := by
  induction as generalizing s with
  | nil => rfl
  | cons a as ih => rw [List.foldl_cons, hf, ih]; rfl

/-- The link's port can be taken DOWN last. -/
theorem allDown_onPort : allFour.foldl (channelDown l) (allEight.foldl (streamDown l) (s.onPort k g)) =
    (allFour.foldl (channelDown l) (allEight.foldl (streamDown l) s)).onPort k g := by
  rw [foldl_onPort k g (streamDown_onPort l k g), foldl_onPort k g (channelDown_onPort l k g)]

end

theorem Link.goDown_kept {s : State} {l : Fin 2}
    (h : ∀ ch, (s.channel ch).playing = true → ∀ r, (s.channel ch).config.route = some r → r.link ≠ l) (p : Link) :
    LinkKept s l p p.goDown where
  bounded _ := ⟨Nat.zero_le _, Nat.zero_le _, Nat.zero_le _, fun _ => ⟨rfl, rfl, rfl, rfl⟩⟩
  counted h := h
  up := .inr (.inr h)

/-- A change of a link's port that leaves its state and counters. -/
theorem LinkKept.queues {s : State} {l : Fin 2} {p p' : Link} (hb : p.bounded → p'.bounded) (hu : p'.up = p.up := by rfl)
    (hc : p.Counted → p'.Counted := by exact id) : LinkKept s l p p' where
  bounded := hb
  counted := hc
  up := by rw [hu]; cases p.up <;> simp

theorem Channel.SentFrom.emission {c : Channel} (e : Option Emission) :
    c.SentFrom { c with mixer := { c.mixer with emission := e } } :=
  ⟨rfl, rfl, rfl, rfl, fun hr => hr.mixer hr.mixer_le.1 hr.mixer_le.2⟩

theorem Channel.finishFrame_sent (c : Channel) : c.SentFrom c.finishFrame := by
  have h (p : Prepared) : c.SentFrom { c with mixer := { c.mixer with prepared := some p } } :=
    ⟨rfl, rfl, rfl, rfl, fun hr => hr.mixer hr.mixer_le.1 hr.mixer_le.2⟩
  unfold Channel.finishFrame
  split
  · exact ⟨rfl, rfl, rfl, rfl, id⟩
  · dsimp only
    split
    · exact (h _).trans ⟨rfl, rfl, rfl, rfl, fun hr => hr⟩
    · exact h _

theorem Channel.pageReplaced_sent (page : Nat) (c : Channel) : c.SentFrom (c.pageReplaced page) := by
  unfold Channel.pageReplaced
  split
  · refine ⟨rfl, rfl, rfl, rfl, ?_⟩
    rintro ⟨hs, ht, ho, hh, hk, hb, hp, hcue, -, -, -, hm⟩
    exact ⟨hs, ht, ho, hh, hk, hb, hp, hcue, Nat.zero_le _, Nat.zero_le _, nofun, hm⟩
  · exact ⟨rfl, rfl, rfl, rfl, id⟩

namespace Changes

variable {S : Scope}

/-- A change of a port's queues alone. -/
theorem onPort (hS : S.links) (l : Fin 2) {f : Link → Link} {s : State} (h : LinkKept s l (s.port l) (f (s.port l))) :
    Changes S s (s.onPort l f) := (Change.port hS l f h).changes

theorem streamDown (l : Fin 2) (s : State) (i : Fin 8) : Changes S s (streamDown l s i) := by
  unfold Machine.streamDown
  split
  · exact (Change.abandon i).changes
  · exact refl s

theorem channelDown (l : Fin 2) {ch : Fin 4} (hch : S.channels ch) (hrd : S.reads) (s : State) :
    Changes S s (channelDown l s ch) := by
  have hdrop : Changes S s (s.onChannel ch (Channel.dropEmission l)) := onChannel hch (.sent (.emission _))
  unfold Machine.channelDown
  dsimp only
  split
  · exact (hdrop.trans (haltChannel hch hrd _ _)).trans (settleFault hch _ _)
  · exact hdrop

end Changes

/-- After its part in a link going DOWN a channel that plays is not routed to the link. -/
theorem channelDown_unrouted (l : Fin 2) (s : State) (ch : Fin 4) :
    ((channelDown l s ch).channel ch).playing = true →
      ∀ r, ((channelDown l s ch).channel ch).config.route = some r → r.link ≠ l := by
  unfold channelDown
  dsimp only
  split
  · intro hplay
    rw [channel_settleFault, if_pos rfl, haltChannel_eq, State.channel_onStore, State.channel_onChannel_self] at hplay
    exact absurd (Channel.halted_playing _ _ ▸ hplay) (by decide)
  · rename_i h
    intro hplay r hr hl
    rw [hplay, hr] at h
    simp [hl] at h

theorem allDown_unrouted (l : Fin 2) (s : State) (ch : Fin 4) :
    let t := allFour.foldl (channelDown l) s
    (t.channel ch).playing = true → ∀ r, (t.channel ch).config.route = some r → r.link ≠ l :=
  (channel_foldl (f := channelDown l) (P := fun c => c.playing = true → ∀ r, c.config.route = some r → r.link ≠ l)
    (channelDown_unrouted l)
    (fun s ch _ hj => (Changes.channelDown l (S := .one ch) rfl trivial s).channel_ne hj) allFour s ch).1 (mem_allFour ch)

theorem Link.afterResetPart_ok (p : Link) : (p.bounded → p.afterResetPart.bounded) ∧ p.afterResetPart.Counted := by
  refine ⟨fun ⟨_, _, _, h⟩ => ⟨Nat.zero_le _, Nat.zero_le _, Nat.zero_le _, fun hu => ⟨rfl, rfl, rfl, ?_⟩⟩,
    Nat.zero_le _, Nat.zero_le _, Nat.zero_le _, Nat.zero_le _⟩
  exact (h hu).2.2.2

namespace Changes

theorem actResetPart (s : State) : Changes .all s (actResetPart s) := by
  refine (Change.reset rfl s.endpoint.id _ s.resetHeld fun l => ?_).changes
  fin_cases l
  · exact s.links.z0.afterResetPart_ok
  · exact s.links.z1.afterResetPart_ok

theorem lineReset (a b : Bool) (s : State) : Changes .all s (lineReset a b s) := by
  refine (Change.reset rfl (strapId a b) (Two.fill {}) false fun l => ?_).changes
  fin_cases l <;>
    exact ⟨fun _ => ⟨Nat.zero_le _, Nat.zero_le _, Nat.zero_le _, fun _ => ⟨rfl, rfl, rfl, rfl⟩⟩,
      Nat.zero_le _, Nat.zero_le _, Nat.zero_le _, Nat.zero_le _⟩

theorem linkGoesDown (l : Fin 2) (s : State) : Changes .all s (linkGoesDown l s) := by
  have hdown : Changes .all s (allFour.foldl (Machine.channelDown l) (allEight.foldl (Machine.streamDown l)
      (s.onPort l Link.goDown))) := by
    rw [allDown_onPort]
    refine ((foldl (streamDown l) allEight s).trans (foldl (f := Machine.channelDown l)
      (fun t ch => channelDown (ch := ch) l trivial trivial t) allFour _)).trans ?_
    exact onPort trivial l (Link.goDown_kept (allDown_unrouted l _) _)
  unfold Machine.linkGoesDown
  dsimp only
  split
  · exact hdown.trans (actResetPart _)
  · exact hdown

variable {S : Scope}

/-! ## The Reference Timer's events (chapter 1) -/

theorem timerTo {s : State} {f : Timer → Timer} (h : s.timer.lawful → (f s.timer).lawful) : Changes S s (s.onTimer f) :=
  (Change.timer f h).changes

theorem clockTo {s : State} {c : Nat} (hs : s.timer.state ≠ .unlocked) (hc : c ≤ s.timer.due) :
    Changes S s (s.onTimer fun t => { t with count := c }) := by
  refine timerTo ?_
  rintro ⟨hm, hp, -, -, hf⟩
  refine ⟨hm, hp, ?_, fun h => absurd h hs, hf⟩
  refine hc.trans ?_
  unfold Timer.due
  split
  · exact Nat.zero_le _
  · exact Nat.le_add_right _ _
  · exact le_rfl

section
variable (hC : ∀ ch, S.channels ch) (hrd : S.reads)
include hC hrd

theorem acceptPulse (c : Nat) (s : State) : Changes S s (acceptPulse c s) := by
  refine ((boundary hC hrd s).trans (timerTo ?_)).trans (noteState _ _)
  rw [boundary_timer]
  rintro ⟨-, hp, -, -, hf, ho, -⟩
  refine ⟨rfl, ?_, Nat.zero_le _, nofun, hf, ho, nofun⟩
  show distance (Timer.measured _ c) _ ≤ _
  unfold Timer.measured
  split
  · assumption
  · exact hp

theorem retimePulse (c : Nat) (s : State) : Changes S s (retimePulse c s) := by
  have hlock (t : State) : Changes S t (t.onTimer fun t => { t with count := 0, missing := 0, state := .locking, fresh := false }) :=
    timerTo fun ⟨_, hp, _, _, hf, ho, _⟩ => ⟨rfl, hp, Nat.zero_le _, nofun, hf, ho, nofun⟩
  unfold Machine.retimePulse
  dsimp only
  split
  · exact ((boundary hC hrd s).trans (hlock _)).trans (noteState _ _)
  · exact (hlock s).trans (noteState _ _)

theorem takePulse {c : Nat} {s : State} (hc : s.timer.state = .unlocked ∨ c ≤ s.timer.due) :
    Changes S s (takePulse c s) := by
  have hoff (h : s.timer.state = .locked ∨ s.timer.state = .flywheel) :
      Changes S s (s.onTimer fun t => { t with count := c, offRate := bump t.offRate }) := by
    refine timerTo ?_
    rintro ⟨hm, hp, -, -, hf, ho, hfresh⟩
    refine ⟨hm, hp, ?_, fun hu => ?_, hf, bump_le ho, hfresh⟩
    · have hle : c ≤ s.timer.due := hc.resolve_left (by rcases h with h | h <;> simp [h])
      rw [show s.timer.due = s.timer.period + s.timer.tolerance by rcases h with h | h <;> simp [Timer.due, h]] at hle
      exact hle
    · rcases h with h | h <;> simp [h] at hu
  unfold Machine.takePulse
  dsimp only
  split
  · refine (timerTo ?_).trans (noteState _ _)
    rintro ⟨-, hp, -, -, hf, ho, hfresh⟩
    exact ⟨rfl, hp, Nat.zero_le _, nofun, hf, ho, fun h => ⟨(hfresh h).1, .inr rfl⟩⟩
  · rename_i h
    split
    · exact acceptPulse hC hrd _ _
    · exact hoff (.inl h)
  · rename_i h
    split
    · exact acceptPulse hC hrd _ _
    · exact hoff (.inr h)
  · split
    · exact acceptPulse hC hrd _ _
    · exact retimePulse hC hrd _ _
  · exact retimePulse hC hrd _ _

theorem execReferencePulse (c : Nat) (s : State) : ∃ t, execReferencePulse c s = .next t ∧ Changes S s t := by
  unfold Machine.execReferencePulse
  dsimp only
  split
  · exact ⟨_, rfl, takePulse hC hrd (.inl ‹_›)⟩
  · rename_i hu
    split
    · rename_i hc
      exact ⟨_, rfl, (clockTo hu hc.2).trans (takePulse hC hrd (.inr hc.2))⟩
    · exact ⟨_, rfl, refl s⟩

theorem execFlywheelExpiry (s : State) : ∃ t, execFlywheelExpiry s = .next t ∧ Changes S s t := by
  have hrun (h : s.timer.state = .locking ∨ s.timer.state = .locked ∨ s.timer.state = .flywheel) :
      Changes S s (Machine.noteState s.timer.state
        ((Machine.boundary (s.onTimer fun t => { t with count := t.due })).onTimer Timer.expired)) := by
    have hu : s.timer.state ≠ .unlocked := by rcases h with h | h | h <;> simp [h]
    refine (((clockTo hu le_rfl).trans (boundary hC hrd _)).trans (timerTo ?_)).trans (noteState _ _)
    rw [boundary_timer]
    rintro ⟨hm, hp, -, -, hf, ho, -⟩
    simp only [State.onTimer_timer, Timer.missingFits] at hm hp hf ho ⊢
    rcases h with h | h | h <;> simp only [Timer.expired, h] at hm ⊢
    · exact ⟨rfl, hp, Nat.le_add_left _ _, nofun, hf, ho, nofun⟩
    · simp only [hm]
      exact ⟨.inl rfl, hp, Nat.le_add_left _ _, nofun, hf, ho, nofun⟩
    · rcases hm with hm | hm <;> simp only [hm]
      · exact ⟨.inr rfl, hp, Nat.le_add_left _ _, nofun, hf, ho, nofun⟩
      · exact ⟨rfl, hp, Nat.le_add_left _ _, nofun, hf, ho, nofun⟩
  unfold Machine.execFlywheelExpiry
  split
  · exact ⟨_, rfl, hrun (.inl ‹_›)⟩
  · exact ⟨_, rfl, hrun (.inr (.inl ‹_›))⟩
  · exact ⟨_, rfl, hrun (.inr (.inr ‹_›))⟩
  · exact ⟨_, rfl, refl s⟩

theorem execLostFreeRun (s : State) : ∃ t, execLostFreeRun s = .next t ∧ Changes S s t := by
  unfold Machine.execLostFreeRun
  split
  · rename_i h
    refine ⟨_, rfl, ((clockTo (by simp [h]) le_rfl).trans (boundary hC hrd _)).trans (timerTo ?_)⟩
    rintro ⟨hm, hp, -, -, hf⟩
    exact ⟨hm, hp, Nat.zero_le _, fun _ => rfl, hf⟩
  · exact ⟨_, rfl, refl s⟩

theorem clockTick (s : State) : ∃ t, clockTick s = .next t ∧ Changes S s t := by
  have hone (hu : s.timer.state ≠ .unlocked) (h : s.timer.count < s.timer.due) :
      Changes S s (s.onTimer fun t => { t with count := t.count + 1 }) := clockTo (c := s.timer.count + 1) hu h
  unfold Machine.clockTick
  dsimp only
  split
  · exact ⟨_, rfl, refl s⟩
  · rename_i h
    split
    · exact ⟨_, rfl, hone (by simp [h]) ‹_›⟩
    · exact execLostFreeRun hC hrd s
  · rename_i hu _
    split
    · exact ⟨_, rfl, hone hu ‹_›⟩
    · exact execFlywheelExpiry hC hrd s

theorem nextBoundary (s : State) : ∃ t, nextBoundary s = .next t ∧ Changes S s t := by
  unfold Machine.nextBoundary
  split
  · exact ⟨_, rfl, refl s⟩
  · exact execLostFreeRun hC hrd s
  · exact execFlywheelExpiry hC hrd s

/-- A row that makes the next boundary under a condition (log entry 5). -/
theorem boundaryIf (b : Bool) (s : State) :
    ∃ t, (if b then Machine.nextBoundary s else .next s) = .next t ∧ Changes S s t := by
  cases b
  · exact ⟨s, rfl, refl s⟩
  · exact nextBoundary hC hrd s

end

/-! ## The read service and the commit (R51, R80, R89, R134) -/

theorem completeFetch {ch : Fin 4} (hch : S.channels ch) (slot gen : Nat) (role : Role) (error : Bool) (s : State) :
    Changes S s (completeFetch ch slot gen role error s) := by
  have hfinish (t : State) :
      Changes S t (if t.store.awaits ch then t else t.onChannel ch Channel.finishFrame) := by
    split
    · exact refl t
    · exact onChannel hch (.sent (Channel.finishFrame_sent _))
  have hready : Changes S s (if error then s.onChannel ch (Channel.warn .storeError)
      else if (s.store.slot slot).generation = gen then
        s.onChannel ch fun c =>
          { c with mixer := { c.mixer with prepared := c.mixer.prepared.map (Prepared.ready role (s.store.slotBands slot)) } }
      else s) := by
    split
    · exact onChannel hch (.same fun _ h => h)
    · split
      · exact onChannel hch (.same fun _ h => h)
      · exact refl s
  unfold Machine.completeFetch
  exact (hready.trans (hfinish _)).trans (settleFault hch _ _)

theorem fetchDone {ch : Fin 4} (hch : S.channels ch) (hrd : S.reads) (slot gen : Nat) (role : Role)
    (current superseded error : Bool) (s : State) :
    Changes S s (fetchDone ch slot gen role current superseded error s) := by
  have hend : Changes S s (s.onStore fun st =>
      { st with service := none, errors := if error then bump st.errors else st.errors }) := by
    refine (Change.errors (if error then bump s.store.errors else s.store.errors) fun h => ?_).changes.trans
      (Change.reads hrd none s.store.queue).changes
    split
    · exact bump_le h
    · exact h
  unfold Machine.fetchDone
  dsimp only
  refine trans ?_ (serve hrd _)
  split
  · exact hend.trans (completeFetch hch _ _ _ _ _)
  · exact hend

theorem execFetchCompletion (hC : ∀ ch, S.channels ch) (hrd : S.reads) (error : Bool) (s : State) :
    ∃ t, execFetchCompletion error s = .next t ∧ Changes S s t := by
  unfold Machine.execFetchCompletion
  split
  · exact ⟨_, rfl, fetchDone (hC _) hrd _ _ _ _ _ _ _⟩
  · exact ⟨_, rfl, refl s⟩

theorem execProtectLookupServed (hrd : S.reads) (s : State) :
    ∃ t, execProtectLookupServed s = .next t ∧ Changes S s t := by
  unfold Machine.execProtectLookupServed
  split
  · rename_i hw
    split
    · exact ⟨_, rfl, refl s⟩
    · exact ⟨_, rfl, ((endService hrd s).trans (serveLookup hrd (s := Machine.endService s) hw _ _)).trans (serve hrd _)⟩
  · exact ⟨_, rfl, refl s⟩

theorem execWithdrawnLookupEnd (hrd : S.reads) (s : State) :
    ∃ t, execWithdrawnLookupEnd s = .next t ∧ Changes S s t := by
  unfold Machine.execWithdrawnLookupEnd
  split
  · exact ⟨_, rfl, withdrawnEnd hrd s⟩
  · exact ⟨_, rfl, refl s⟩

theorem channelCommitted (page time : Nat) {ch : Fin 4} (hch : S.channels ch) (s : State) :
    Changes S s (channelCommitted page time s ch) :=
  (onChannel hch (.sent (Channel.pageReplaced_sent page _))).trans (settleFault hch _ _)

theorem pageOf_ok {l : List (Option CueRecord)} (h : failingIndex l = none) : ∀ q ∈ pageOf l, cueOk q = true := by
  intro q hq
  obtain ⟨e, he, rfl⟩ := List.mem_map.mp hq
  have := List.findIdx?_eq_none_iff.mp h e he
  cases e with
  | none => rfl
  | some q => simpa [entryOk] using this

theorem completeCommit (hC : ∀ ch, S.channels ch) (page : Nat) (s : State) : Changes S s (completeCommit page s) := by
  unfold Machine.completeCommit
  dsimp only
  split
  · exact (Change.cues { s.cues with commit := none } fun h => h).changes.trans (raise _ _ _)
  · rename_i hnone
    refine ((Change.cues (S := S) (s := s) _ fun h => ?_).changes.trans (raise _ _ _)).trans
      (foldl (fun t ch => channelCommitted page _ (hC ch) t) _ _)
    intro pg hpg
    rcases List.mem_or_eq_of_mem_set hpg with hpg | rfl
    · exact h pg hpg
    · exact pageOf_ok hnone

theorem execCueCommitComplete (hC : ∀ ch, S.channels ch) (s : State) :
    ∃ t, execCueCommitComplete s = .next t ∧ Changes S s t := by
  unfold Machine.execCueCommitComplete
  split
  · exact ⟨_, rfl, completeCommit hC _ s⟩
  · exact ⟨_, rfl, refl s⟩

/-! ## Lines (R172) -/

theorem raiseEdge (n : Fin 8) (s : State) : Changes S s (raiseEdge n s) := raise _ _ s

theorem deliverEdge (hC : ∀ ch, S.channels ch) (n : Fin 8) (s : State) : Changes S s (deliverEdge n s) := by
  unfold Machine.deliverEdge
  dsimp only
  split
  · exact latchEdge n _
  · exact breakEndEdge (hC _) _
  · exact refl _

theorem judgePin (hC : ∀ ch, S.channels ch) (n : Fin 8) (s : State) : Changes S s (judgePin n s) := by
  have hline : Changes S s (s.onLine n fun l => { l with inputActive := (s.line n).polarity.active (s.line n).pinHigh }) :=
    (Change.lines _).changes
  unfold Machine.judgePin
  dsimp only
  split
  · exact (hline.trans (raiseEdge n _)).trans (deliverEdge hC n _)
  · exact hline

theorem execLinePinChange (hC : ∀ ch, S.channels ch) (n : Fin 8) (high : Bool) (s : State) :
    ∃ t, execLinePinChange n high s = .next t ∧ Changes S s t := by
  have hline : Changes S s (s.onLine n fun l => { l with pinHigh := high }) := (Change.lines _).changes
  unfold Machine.execLinePinChange
  dsimp only
  split
  · exact ⟨_, rfl, hline.trans (judgePin hC n _)⟩
  · exact ⟨_, rfl, hline⟩

/-! ## Links (chapter 12) -/

/-- A counter of a port moves on. -/
theorem countPort (hS : S.links) (l : Fin 2) {f : Link → Link} {s : State} (hb : (s.port l).bounded → (f (s.port l)).bounded)
    (hu : (f (s.port l)).up = (s.port l).up) (hc : (s.port l).Counted → (f (s.port l)).Counted) :
    Changes S s (s.onPort l f) := onPort hS l (.queues hb hu hc)

theorem forwardPacket (hS : S.links) (l : Fin 2) (bytes : List Byte) (s : State) : Changes S s (forwardPacket l bytes s) := by
  refine onPort hS (otherLink l) ?_
  generalize s.port (otherLink l) = p
  unfold Link.takeForward
  split
  · rename_i h
    obtain ⟨hup, hroom⟩ := h
    refine .queues fun ⟨hc, hr, hf, _⟩ => ⟨hc, hr, ?_, fun hdown => ?_⟩
    · simp only [List.length_append, List.length_singleton]; omega
    · simp [hup] at hdown
  · exact .queues id rfl fun ⟨h1, h2, h3, h4⟩ => ⟨h1, h2, bump_le h3, h4⟩

theorem takeControl (hS : S.links) (l : Fin 2) (p : Packet) {s : State} (hup : (s.port l).up = true) :
    Changes S s (takeControl l p s) := by
  unfold Machine.takeControl
  split
  · refine onPort hS l (.queues fun ⟨hc, hr, hf, _⟩ => ⟨?_, hr, hf, fun hdown => ?_⟩)
    · simp only [List.length_append, List.length_singleton]; omega
    · simp [hup] at hdown
  · unfold busyReply
    dsimp only
    split
    · rename_i hroom
      have hfree : Changes S s (useFree p.payload s) := by
        unfold useFree
        split
        · exact (Change.freeIndex _).changes
        · exact refl s
      have hport : (useFree p.payload s).port l = s.port l := by unfold useFree; split <;> rfl
      exact hfree.trans (queueReply hS ⟨l, _, _⟩ _ _ _ (hport ▸ hup) (hport ▸ hroom))
    · exact onPort hS l (.queues id rfl fun ⟨h1, h2, h3, h4⟩ => ⟨h1, h2, h3, bump_le h4⟩)

/-- What a band does: a chain of changes, or after one the fault of a claim that finds no slot for an enabled stream. -/
def StoppedOr (S : Scope) (s : State) (o : Host.Outcome State Fault Refusal) : Prop :=
  (∃ t, o = .next t ∧ Changes S s t) ∨
    (o = .fault .noUnheldSlot ∧ ∃ t i key, Changes S s t ∧ (t.stream i).enabled = true ∧ claim i key t = none)

theorem StoppedOr.after {s u : State} {o : Host.Outcome State Fault Refusal} (hu : Changes S s u) (h : StoppedOr S u o) :
    StoppedOr S s o := by
  obtain ⟨t, h, ht⟩ | ⟨h, t, i, key, ht, hen, hclaim⟩ := h
  · exact .inl ⟨t, h, hu.trans ht⟩
  · exact .inr ⟨h, t, i, key, hu.trans ht, hen, hclaim⟩

theorem startFrame (i : Fin 8) (key : Nat) (payload : Band) {s : State} (hen : (s.stream i).enabled = true)
    (hkey : key < 2 ^ 40 * (s.stream i).multiple) (hlive : ∀ live, (s.stream i).lastKey = some live → live < key) :
    StoppedOr S s (startFrame i key payload s) := by
  cases h : Machine.startFrame i key payload s with
  | next t => exact .inl ⟨t, rfl, (Change.startFrame i key payload t hen hkey hlive h).changes⟩
  | fault r =>
    unfold Machine.startFrame at h
    split at h
    · rename_i hclaim
      cases h
      exact .inr ⟨rfl, s, i, key, refl s, hen, hclaim⟩
    · cases h
  | refused r =>
    unfold Machine.startFrame at h
    split at h <;> cases h

theorem bandZero (i : Fin 8) (key : Nat) (payload : Band) {s : State} (hen : (s.stream i).enabled = true)
    (hkey : key < 2 ^ 40 * (s.stream i).multiple) : StoppedOr S s (bandZero i key payload s) := by
  obtain ⟨-, he, -, -, hm, -⟩ := stream_abandon i s i
  have hab : Changes S s (Machine.abandon i s) := (Change.abandon i).changes
  have hstart (h : ∀ live, ((Machine.abandon i s).stream i).lastKey = some live → live < key) :
      StoppedOr S s (Machine.startFrame i key payload (Machine.abandon i s)) :=
    .after hab (startFrame (S := S) i key payload (he.trans hen) (hm ▸ hkey) h)
  unfold Machine.bandZero
  dsimp only
  split
  · rename_i live hl
    split
    · exact .inl ⟨_, rfl, hab.trans (Change.streamCounters i _ _ _ fun h => ⟨h.1, bump_le h.2.1, h.2.2⟩).changes⟩
    · exact hstart fun k hk => by rw [hl] at hk; cases hk; omega
  · rename_i hl
    exact hstart fun k hk => by rw [hl] at hk; cases hk

theorem laterBand (i : Fin 8) (key band : Nat) (payload : Band) (s : State) :
    Changes S s (laterBand i key band payload s) := by
  unfold Machine.laterBand
  split
  · split
    · exact (Change.continueFrame i _ payload ‹_›).changes
    · exact (Change.abandon i).changes
  · exact refl s

theorem takeBand {i : Fin 8} {h : Nat} (j band : Nat) (payload : Band) {s : State} (hen : (s.stream i).enabled = true)
    (hh : h < 2 ^ 40) : StoppedOr S s (takeBand i h j band payload s) := by
  unfold Machine.takeBand
  dsimp only
  split
  · exact .inl ⟨_, rfl, (Change.streamCounters i _ _ _ fun h => ⟨h.1, h.2.1, bump_le h.2.2⟩).changes⟩
  · rename_i hchecks
    have hj : j < (s.stream i).multiple := by
      simp only [Bool.not_eq_true', Bool.not_eq_false, passesTimeChecks, Bool.and_eq_true, decide_eq_true_eq] at hchecks
      exact hchecks.2
    have hkey : h * (s.stream i).multiple + j < 2 ^ 40 * (s.stream i).multiple :=
      calc h * (s.stream i).multiple + j < h * (s.stream i).multiple + (s.stream i).multiple := by omega
        _ = (h + 1) * (s.stream i).multiple := by ring
        _ ≤ 2 ^ 40 * (s.stream i).multiple := Nat.mul_le_mul_right _ hh
    split
    · split
      · exact bandZero i _ payload hen hkey
      · exact .inl ⟨_, rfl, (Change.abandon i).changes⟩
    · exact .inl ⟨_, rfl, laterBand i _ _ _ s⟩

theorem execPacketReceive (hS : S.links) (l : Fin 2) (bytes : List Byte) (s : State) :
    StoppedOr S s (execPacketReceive l bytes s) := by
  unfold Machine.execPacketReceive
  split
  · rename_i hup
    split
    · exact .inl ⟨_, rfl, onPort hS l (.queues id rfl fun ⟨h1, h2, h3, h4⟩ => ⟨bump_le h1, h2, h3, h4⟩)⟩
    · rename_i p hp
      have hframe := readPacket_frame hp
      unfold classify
      dsimp only
      split
      · split
        · split
          · rename_i hi
            exact takeBand _ _ _ (streamFor_enabled hi) hframe
          · exact .inl ⟨_, rfl, onPort hS l (.queues id rfl fun ⟨h1, h2, h3, h4⟩ => ⟨h1, bump_le h2, h3, h4⟩)⟩
        · split
          · exact .inl ⟨_, rfl, takeControl hS l p hup⟩
          · exact .inl ⟨_, rfl, refl s⟩
      · split
        · split
          · rename_i hi
            exact .after (forwardPacket hS l bytes s) (takeBand (s := Machine.forwardPacket l bytes s) _ _ _
              (streamFor_enabled hi) hframe)
          · exact .inl ⟨_, rfl, forwardPacket hS l bytes s⟩
        · exact .inl ⟨_, rfl, forwardPacket hS l bytes s⟩
  · exact .inl ⟨_, rfl, refl s⟩

section
variable (hS : S.links)
include hS

theorem sendReply {l : Fin 2} {r : Reply} {rest : List Reply} {s : State} (hup : (s.port l).up = true)
    (hr : (s.port l).replies = r :: rest) : Changes S s (sendReply l r rest s) := by
  have hport : Changes S s (s.onPort l fun q =>
      { q with sending := some (r.packet s.endpoint.id).bytes, replies := rest }) := by
    refine onPort hS l (.queues fun ⟨hc, hl, hf, _⟩ => ⟨hc, ?_, hf, fun hdown => ?_⟩)
    · rw [hr, List.length_cons] at hl
      exact (Nat.le_succ _).trans hl
    · simp [hup] at hdown
  unfold Machine.sendReply
  dsimp only
  split
  · exact hport.trans (Change.endpoint (fun e => { e with reset := .sending l }) fun h => h).changes
  · exact hport

theorem sendNotice {l : Fin 2} {s : State} (hup : (s.port l).up = true) : Changes S s (sendNotice l s) := by
  unfold Machine.sendNotice
  split
  · rename_i r n rest hroute hnotes
    split
    · refine (Change.endpoint (fun e => { e with notices := rest }) ?_).changes.trans
        (onPort hS l (.queues fun ⟨hc, hl, hf, _⟩ => ⟨hc, hl, hf, fun hdown => ?_⟩))
      · rintro ⟨hl, -⟩
        rw [hnotes, List.length_cons] at hl
        exact ⟨(Nat.le_succ _).trans hl, fun h => by rw [hroute] at h; cases h⟩
      · have : (s.port l).up = false := hdown
        simp [hup] at this
    · exact refl s
  · exact refl s

theorem chooseNext (hC : ∀ ch, S.channels ch) {l : Fin 2} {s : State} (hup : (s.port l).up = true) :
    Changes S s (chooseNext l s) := by
  unfold Machine.chooseNext
  split
  · rename_i ch e _
    unfold sendBand
    dsimp only
    refine (onChannel (hC ch) (.sent (.emission _))).trans
      (onPort hS l (.queues fun ⟨hc, hl, hf, _⟩ => ⟨hc, hl, hf, fun hdown => ?_⟩))
    have : (s.port l).up = false := hdown
    simp [hup] at this
  · split
    · rename_i b rest hfw
      refine onPort hS l (.queues fun ⟨hc, hl, hf, _⟩ => ⟨hc, hl, ?_, fun hdown => ?_⟩)
      · rw [hfw, List.length_cons] at hf
        exact (Nat.le_succ _).trans hf
      · simp [hup] at hdown
    · split
      · rename_i hr
        exact sendReply hS hup hr
      · exact sendNotice hS hup

theorem execTransmitChoose (hC : ∀ ch, S.channels ch) (l : Fin 2) (s : State) :
    ∃ t, execTransmitChoose l s = .next t ∧ Changes S s t := by
  unfold Machine.execTransmitChoose
  dsimp only
  split
  · rename_i h
    simp only [Bool.and_eq_true] at h
    exact ⟨_, rfl, chooseNext hS hC h.1.1.1⟩
  · exact ⟨_, rfl, refl s⟩

theorem endTransmission (l : Fin 2) (s : State) : Changes S s (s.onPort l fun p => { p with sending := none }) :=
  onPort hS l (.queues fun ⟨hc, hl, hf, hd⟩ => ⟨hc, hl, hf, fun hu => ⟨(hd hu).1, (hd hu).2.1, (hd hu).2.2.1, rfl⟩⟩)

theorem execLinkUp (l : Fin 2) (s : State) : ∃ t, execLinkUp l s = .next t ∧ Changes S s t := by
  unfold Machine.execLinkUp
  split
  · exact ⟨_, rfl, refl s⟩
  · exact ⟨_, rfl, onPort hS l ⟨fun ⟨hc, hl, hf, _⟩ => ⟨hc, hl, hf, nofun⟩, id, .inl rfl⟩⟩

end

theorem execTransmitEnd (l : Fin 2) (s : State) : ∃ t, execTransmitEnd l s = .next t ∧ Changes .all s t := by
  unfold Machine.execTransmitEnd
  dsimp only
  split
  · exact ⟨_, rfl, (endTransmission trivial l s).trans (actResetPart _)⟩
  · exact ⟨_, rfl, endTransmission trivial l s⟩

theorem execLinkDown (l : Fin 2) (s : State) : ∃ t, execLinkDown l s = .next t ∧ Changes .all s t := by
  unfold Machine.execLinkDown
  split
  · exact ⟨_, rfl, linkGoesDown l s⟩
  · exact ⟨_, rfl, refl s⟩

theorem execResetPartActs (s : State) : ∃ t, execResetPartActs s = .next t ∧ Changes .all s t := by
  unfold Machine.execResetPartActs
  split
  · exact ⟨_, rfl, (endTransmission trivial _ s).trans (actResetPart _)⟩
  · exact ⟨_, rfl, refl s⟩

theorem execResetNHeldLow (s : State) : ∃ t, execResetNHeldLow s = .next t ∧ Changes .all s t := by
  refine ⟨_, rfl, (Change.resetHeld true).changes.trans (foldl (fun t l => ?_) _ _)⟩
  split
  · exact linkGoesDown l t
  · exact refl t

end Changes

end Sys2Proof.Machine
end

section
/-! PROOFS. Every command answers (O3), and what every change keeps is kept by every step. -/

namespace Sys2Proof.Machine

/-- The request a command makes of the arbiter: its origin, its kind, and what carries it out. A kind of the request table under
the unknown request is none. -/
def requestRun : Instr → Option (Origin × Nat × (State → Answer))
  | .setHouseTime o rate count => some (o, 1, setHouseTime rate count)
  | .enableStream o stream sourceId link k => some (o, 2, enableStream stream sourceId link k)
  | .disableStream o stream => some (o, 3, disableStream stream)
  | .configureStore o pairs => some (o, 4, configureStore pairs)
  | .setMarkGroup o group angles d pre post recycle => some (o, 5, setMarkGroup group angles d pre post recycle)
  | .readMarkGroup o group => some (o, 6, readMarkGroup group)
  | .markIn o group time => some (o, 7, markRequest .markIn group time)
  | .markOut o group time => some (o, 8, markRequest .markOut group time)
  | .markSpot o group time => some (o, 9, markRequest .markSpot group time)
  | .setClipLabel o id label => some (o, 10, setClipLabel id label)
  | .dropClip o id => some (o, 11, dropClip id)
  | .listClips o start count => some (o, 12, listClips start count)
  | .readClip o id => some (o, 13, readClip id)
  | .takeLatch o line action group => some (o, 14, takeLatch line action group)
  | .protectClip o id => some (o, 15, protectClip id)
  | .releaseClip o id => some (o, 16, releaseClip id)
  | .configureChannel o ch a => some (o, 17, onChannelNo ch (configureChannel a))
  | .bindChannel o ch f => some (o, 18, onChannelNo ch (bindChannel f))
  | .play o ch target immediate => some (o, 19, onChannelNo ch fun ch => withFlag immediate fun b => play target b ch)
  | .stop o ch immediate => some (o, 20, onChannelNo ch fun ch => withFlag immediate fun b => stopPlay b ch)
  | .shuttle o ch speed => some (o, 21, onChannelNo ch (shuttle speed))
  | .jog o ch n => some (o, 22, onChannelNo ch (jog n))
  | .seek o ch f => some (o, 23, onChannelNo ch (seek f))
  | .angle o ch n => some (o, 24, onChannelNo ch (angle n))
  | .halt o ch => some (o, 25, onChannelNo ch halt)
  | .resetChannel o ch => some (o, 26, onChannelNo ch resetChannel)
  | .readChannel o ch => some (o, 27, onChannelNo ch readChannel)
  | .clearWarnings o ch => some (o, 28, onChannelNo ch clearWarnings)
  | .stageCues o start records => some (o, 29, stageCues start records)
  | .clearStaging o => some (o, 30, clearStaging)
  | .readStaging o => some (o, 31, readStaging)
  | .commitCuePage o page => some (o, 32, commitCuePage page)
  | .readCuePage o page => some (o, 33, readCuePage page)
  | .bindCues o ch first count => some (o, 34, onChannelNo ch (bindCues first count))
  | .requestBreak o ch => some (o, 35, onChannelNo ch requestBreak)
  | .continue_ o ch => some (o, 36, onChannelNo ch continueBreak)
  | .configureLine o line function channel polarity action group => some (o, 37, configureLine line function channel polarity action group)
  | .setLines o mask => some (o, 38, lineRequest .set mask 0)
  | .clearLines o mask => some (o, 39, lineRequest .clear mask 0)
  | .pulseLines o mask length => some (o, 40, lineRequest .pulse mask (clampPulse length))
  | .readLines o => some (o, 41, readLines)
  | .setNoticeEnables o classes => some (o, 42, setNoticeEnables classes)
  | .setNoticeRoute o r => some (o, 43, setNoticeRoute r)
  | .readStatus o => some (o, 44, readStatus)
  | .clearStatus o => some (o, 45, clearStatus)
  | .resetPart o => some (o, 46, resetPart o.link)
  | .unknownRequest o kind => if 1 ≤ kind ∧ kind ≤ 46 then none else some (o, kind, refuse .unknownRequest)
  | _ => none

theorem requestRun_unknown (o : Origin) (kind : Nat) : requestRun (.unknownRequest o kind) =
    if 1 ≤ kind ∧ kind ≤ 46 then none else some (o, kind, refuse .unknownRequest) := rfl

/-- A command that makes a request is what the arbiter does with it. -/
theorem exec_request {i : Instr} {o : Origin} {kind : Nat} {run : State → Answer} (h : requestRun i = some (o, kind, run))
    (s : State) : exec i s = takeRequest o kind run s := by
  cases i with
  | unknownRequest o' kind' =>
    rw [requestRun_unknown] at h
    split at h
    · cases h
    · rename_i hk
      cases h
      exact if_neg hk
  | _ => cases h <;> rfl

/-- A request of a kind byte: its origin and kind are those of its packet. -/
theorem requestRun_of_encode {i : Instr} {o : Origin} {kind : Nat} {args : List Byte} (hw : i.wf = true)
    (h : encodeRequest i = some (o, kind, args)) : ∃ run, requestRun i = some (o, kind, run) := by
  cases i with
  | unknownRequest o' kind' =>
    cases h
    have hk : kind = 0 ∨ 46 < kind := by
      simp only [Instr.wf, Bool.and_eq_true, Bool.or_eq_true, beq_iff_eq, decide_eq_true_eq] at hw
      exact hw.2
    exact ⟨_, if_neg (by omega)⟩
  | _ => cases h <;> exact ⟨_, rfl⟩

/-- The requests that write channel records. -/
def Instr.ofChannel : Instr → Bool
  | .configureChannel .. | .bindChannel .. | .play .. | .stop .. | .shuttle .. | .jog .. | .seek .. | .angle .. | .halt ..
  | .resetChannel .. | .clearWarnings .. | .bindCues .. | .requestBreak .. | .continue_ .. => true
  | _ => false

/-- The requests that write the read service or the Protect Engine. -/
def Instr.ofReads : Instr → Bool
  | .configureStore .. | .protectClip .. | .releaseClip .. | .configureChannel .. | .halt .. | .resetChannel .. => true
  | _ => false

/-- What a request does is a chain of changes, in the scope of what it writes. -/
theorem requestRun_scoped {S : Scope} {i : Instr} (hC : Instr.ofChannel i = true → ∀ ch, S.channels ch)
    (hrd : Instr.ofReads i = true → S.reads) {o : Origin} {kind : Nat}
    {run : State → Answer} (hi : requestRun i = some (o, kind, run)) (h : i ≠ .clearStatus o) (s : State) :
    Changes S s (run s).state := by
  cases i with
  | setHouseTime => cases hi; exact .setHouseTime _ _ s
  | enableStream => cases hi; exact .enableStream _ _ _ _ s
  | disableStream => cases hi; exact .disableStream _ s
  | configureStore => cases hi; exact .configureStore (hrd rfl) _ s
  | setMarkGroup => cases hi; exact .setMarkGroup _ _ _ _ _ _ s
  | readMarkGroup => cases hi; exact .readMarkGroup _ s
  | markIn => cases hi; exact .markRequest _ _ _ s
  | markOut => cases hi; exact .markRequest _ _ _ s
  | markSpot => cases hi; exact .markRequest _ _ _ s
  | setClipLabel => cases hi; exact .setClipLabel _ _ s
  | dropClip => cases hi; exact .dropClip _ s
  | listClips => cases hi; exact .listClips _ _ s
  | readClip => cases hi; exact .readClip _ s
  | takeLatch => cases hi; exact .takeLatch _ _ _ s
  | protectClip => cases hi; exact .protectClip (hrd rfl) _ s
  | releaseClip => cases hi; exact .releaseClip (hrd rfl) _ s
  | configureChannel => cases hi; exact .onChannelNo fun ch => .configureChannel (hC rfl ch) (hrd rfl) _ s
  | bindChannel => cases hi; exact .onChannelNo fun ch => .bindChannel (hC rfl ch) _ s
  | play => cases hi; exact .onChannelNo fun ch => .withFlag fun _ => .play (hC rfl ch) _ _ s
  | stop => cases hi; exact .onChannelNo fun ch => .withFlag fun _ => .stopPlay (hC rfl ch) _ s
  | shuttle => cases hi; exact .onChannelNo fun ch => .shuttle (hC rfl ch) _ s
  | jog => cases hi; exact .onChannelNo fun ch => .jog (hC rfl ch) _ s
  | seek => cases hi; exact .onChannelNo fun ch => .seek (hC rfl ch) _ s
  | angle => cases hi; exact .onChannelNo fun ch => .angle (hC rfl ch) _ s
  | halt => cases hi; exact .onChannelNo fun ch => .halt (hC rfl ch) (hrd rfl) s
  | resetChannel => cases hi; exact .onChannelNo fun ch => .resetChannel (hC rfl ch) (hrd rfl) s
  | readChannel => cases hi; exact .onChannelNo fun _ => .readChannel s
  | clearWarnings => cases hi; exact .onChannelNo fun ch => .clearWarnings (hC rfl ch) s
  | stageCues => cases hi; exact .stageCues _ _ s
  | clearStaging => cases hi; exact .clearStaging s
  | readStaging => cases hi; exact .readStaging s
  | commitCuePage => cases hi; exact .commitCuePage _ s
  | readCuePage => cases hi; exact .readCuePage _ s
  | bindCues => cases hi; exact .onChannelNo fun ch => .bindCues (hC rfl ch) _ _ s
  | requestBreak => cases hi; exact .onChannelNo fun ch => .requestBreak (hC rfl ch) s
  | continue_ => cases hi; exact .onChannelNo fun ch => .continueBreak (hC rfl ch) s
  | configureLine => cases hi; exact .configureLine _ _ _ _ _ _ s
  | setLines => cases hi; exact .lineRequest _ _ _ s
  | clearLines => cases hi; exact .lineRequest _ _ _ s
  | pulseLines => cases hi; exact .lineRequest _ _ _ s
  | readLines => cases hi; exact .readLines s
  | setNoticeEnables => cases hi; exact .setNoticeEnables _ s
  | setNoticeRoute => cases hi; exact .setNoticeRoute _ s
  | readStatus => cases hi; exact .readStatus s
  | clearStatus => cases hi; exact absurd rfl h
  | resetPart => cases hi; exact .resetPart _ s
  | unknownRequest =>
    rw [requestRun_unknown] at hi
    split at hi
    · cases hi
    · cases hi
      exact .refuse _ s
  | _ => cases hi

/-- What a request does is a chain of changes. -/
theorem requestRun_changes {S : Scope} (hC : ∀ ch, S.channels ch) (hrd : S.reads) {i : Instr} {o : Origin} {kind : Nat}
    {run : State → Answer} (hi : requestRun i = some (o, kind, run)) (h : i ≠ .clearStatus o) (s : State) :
    Changes S s (run s).state := requestRun_scoped (fun _ => hC) (fun _ => hrd) hi h s

/-- A request answers, with a chain of changes. -/
theorem takeRequest_changes {i : Instr} {o : Origin} {kind : Nat} {run : State → Answer}
    (hi : requestRun i = some (o, kind, run)) (s : State) :
    ∃ t, takeRequest o kind run s = .next t ∧ Changes .all s t := by
  by_cases h : i = .clearStatus o
  · subst h
    cases hi
    exact Changes.takeClearStatus o 45 s
  · exact Changes.takeRequest (fun S hC hrd s => requestRun_changes hC hrd hi h s) o kind s

/-- Every command answers with a chain of changes, but for a packet whose claim finds no slot. -/
theorem exec_changes (i : Instr) (s : State) :
    (∃ t, exec i s = .next t ∧ Changes .all s t) ∨
      ∃ l bytes, i = .packetReceive l bytes ∧ Changes.StoppedOr .all s (exec i s) := by
  have hC : ∀ ch, Scope.all.channels ch := fun _ => trivial
  cases hreq : requestRun i with
  | some r =>
    obtain ⟨o, kind, run⟩ := r
    rw [exec_request hreq]
    exact .inl (takeRequest_changes hreq s)
  | none =>
    cases i with
    | referencePulse c => exact .inl (Changes.execReferencePulse hC trivial c s)
    | flywheelExpiry => exact .inl (Changes.execFlywheelExpiry hC trivial s)
    | lostFreeRun => exact .inl (Changes.execLostFreeRun hC trivial s)
    | pulseEnd n => exact .inl (Changes.boundaryIf hC trivial _ s)
    | shuttleLapse ch => exact .inl (Changes.boundaryIf hC trivial _ s)
    | holdCountExpiry ch => exact .inl (Changes.boundaryIf hC trivial _ s)
    | breakTimerExpiry ch => exact .inl (Changes.boundaryIf hC trivial _ s)
    | fetchCompletion error => exact .inl (Changes.execFetchCompletion hC trivial error s)
    | protectLookupServed => exact .inl (Changes.execProtectLookupServed trivial s)
    | withdrawnLookupEnd => exact .inl (Changes.execWithdrawnLookupEnd trivial s)
    | cueCommitComplete => exact .inl (Changes.execCueCommitComplete hC s)
    | linkUp l => exact .inl (Changes.execLinkUp trivial l s)
    | linkDown l => exact .inl (Changes.execLinkDown l s)
    | packetReceive l bytes =>
      exact .inr ⟨l, bytes, rfl, Changes.execPacketReceive trivial l bytes s⟩
    | transmitChoose l => exact .inl (Changes.execTransmitChoose trivial hC l s)
    | transmitEnd l => exact .inl (Changes.execTransmitEnd l s)
    | linePinChange n high => exact .inl (Changes.execLinePinChange hC n high s)
    | resetPartActs => exact .inl (Changes.execResetPartActs s)
    | lineReset a b => exact .inl ⟨_, rfl, .lineReset a b s⟩
    | powerOnReset a b => exact .inl ⟨_, rfl, .lineReset a b s⟩
    | resetNHeldLow => exact .inl (Changes.execResetNHeldLow s)
    | unknownRequest o kind =>
      rw [requestRun_unknown] at hreq
      split at hreq
      · rename_i hk
        exact .inl ⟨s, if_pos hk, .refl s⟩
      · cases hreq
    | _ => cases hreq

theorem exec_stoppedOr (i : Instr) (s : State) : Changes.StoppedOr .all s (exec i s) := by
  obtain h | ⟨_, _, -, h⟩ := exec_changes i s
  · exact .inl h
  · exact h

/-! ## Steps -/

/-- A request of a queue is a chain of changes: it leaves the queue and is carried out. -/
theorem takeOffered_changes (l : Fin 2) (s : State) : Changes.StoppedOr .all s (takeOffered l s) := by
  have hmal (o : Origin) (kind : Nat) (s : State) : ∃ t, takeRequest o kind (refuse .badArgument) s = .next t ∧ Changes .all s t :=
    Changes.takeRequest (fun _ _ _ s => .refl s) o kind s
  unfold takeOffered
  split
  · exact .inl ⟨s, rfl, .refl s⟩
  · rename_i r rest hq
    have hpop : Changes .all s (useFree r.payload (s.onPort l fun p => { p with control := rest })) := by
      refine (Changes.onPort (S := .all) (f := fun p => { p with control := rest }) trivial l (.queues ?_)).trans ?_
      · rintro ⟨hc, hr, hf, hd⟩
        rw [hq, List.length_cons] at hc
        refine ⟨(Nat.le_succ _).trans hc, hr, hf, fun hu => ?_⟩
        have := (hd hu).1
        rw [hq] at this
        cases this
      · unfold useFree
        split
        · exact (Change.freeIndex _).changes
        · exact .refl _
    dsimp only
    split
    · obtain ⟨t, h, ht⟩ := hmal _ _ _
      exact .inl ⟨t, h, hpop.trans ht⟩
    · unfold serveRequest
      split
      · exact .after hpop (exec_stoppedOr _ _)
      · obtain ⟨t, h, ht⟩ := hmal _ _ _
        exact .inl ⟨t, h, hpop.trans ht⟩

/-- A step is a chain of changes of the state with what waits after it, or stops with the fault of a claim. -/
theorem step_changes (s : State) : ∃ p, Changes.StoppedOr .all { s with pending := p } (step s) := by
  unfold step
  split
  · rename_i c rest _
    refine ⟨rest, ?_⟩
    exact exec_stoppedOr c _
  · refine ⟨s.pending, ?_⟩
    unfold idle
    split
    · exact takeOffered_changes _ s
    · exact .inl (Changes.clockTick (fun _ => trivial) trivial s)

/-- What every change keeps, and the queue of commands does not bear on, every step keeps. -/
theorem step_keeps {P : State → Prop} (hP : ∀ s t, Change .all s t → P s → P t)
    (hpending : ∀ s p, P s → P { s with pending := p }) (s t : State) (hs : P s) (h : step s = .next t) : P t := by
  obtain ⟨p, ⟨u, hu, hc⟩ | ⟨hf, -⟩⟩ := step_changes s
  · rw [hu] at h
    cases h
    exact hc.keeps hP (hpending s p hs)
  · rw [hf] at h
    cases h

end Sys2Proof.Machine

namespace Sys2Proof.Proofs

open Sys2Proof.Machine

/-- Settles O3: every command is a chain of changes, none of which writes the queue of commands. -/
theorem everyCommandAnswers : Obligations.EveryCommandAnswers := by
  intro i s
  obtain ⟨t, h, hc⟩ | ⟨l, bytes, hi, ⟨t, h, hc⟩ | ⟨h, -⟩⟩ := exec_changes i s
  · exact .inl ⟨t, h, hc.outOfScope.pending⟩
  · exact .inl ⟨t, h, hc.outOfScope.pending⟩
  · exact .inr ⟨l, bytes, hi, h⟩

end Sys2Proof.Proofs
end

section
/-! PROOFS. What every change keeps of the blocks a chain of changes writes one at a time: the timer, the endpoint, cue memory,
the latches, the link ports and the channel records. -/

namespace Sys2Proof.Machine

/-! ## Operations on the records of the store, the clips, the groups and the engine -/

/-- Only the streams, the store's allotments, slots and band data, the mark groups, the clips and the engine can differ. -/
def SameButStored (s t : State) : Prop :=
  ∃ streams allotments slots dram groups clips engine,
    t = { s with
      streams := streams
      store := { s.store with allotments := allotments, slots := slots, dram := dram }
      groups := groups
      clips := clips
      engine := engine }

namespace SameButStored

variable {s t u : State}

theorem trans (h : SameButStored s t) (k : SameButStored t u) : SameButStored s u := by
  obtain ⟨_, _, _, _, _, _, _, rfl⟩ := h
  obtain ⟨a, b, c, d, e, f, g, rfl⟩ := k
  exact ⟨a, b, c, d, e, f, g, rfl⟩

theorem contents (h : SameButContents s t) : SameButStored s t := by
  obtain ⟨a, b, c, d, rfl⟩ := h
  exact ⟨a, b, c, d, _, _, _, rfl⟩

theorem clips (h : ∃ c, t = { s with clips := c }) : SameButStored s t := by
  obtain ⟨c, rfl⟩ := h
  exact ⟨_, _, _, _, _, c, _, rfl⟩

theorem engine (f : Engine → Engine) (s : State) : SameButStored s (s.onEngine f) := ⟨_, _, _, _, _, _, _, rfl⟩

theorem removeClip (id : Nat) (c : Clip) (s : State) : SameButStored s (removeClip id c s) := by
  unfold Machine.removeClip
  dsimp only
  split <;> exact ⟨_, _, _, _, _, _, _, rfl⟩

end SameButStored

section
variable (s : State)

@[simp] theorem channel_clearCounters (ch : Fin 4) : (clearCounters s).channel ch = (s.channel ch).clearSlip := by
  fin_cases ch <;> rfl

@[simp] theorem port_clearCounters (l : Fin 2) : (clearCounters s).port l = (s.port l).clearCounters := by
  fin_cases l <;> rfl

@[simp] theorem stream_clearCounters (i : Fin 8) : (clearCounters s).stream i = (s.stream i).clearCounters := by
  fin_cases i <;> rfl

@[simp] theorem latch_clearCounters (n : Fin 8) : (clearCounters s).latch n = (s.latch n).clearCounters := by
  fin_cases n <;> rfl

end

/-! ## The records of a change -/

/-- The counters of a latch are 16-bit counts (R190). -/
def Latch.Counted (t : Latch) : Prop := t.overrun ≤ 65535 ∧ t.ignored ≤ 65535

/-- What a change keeps, record by record. -/
structure RecordsKept (s t : State) : Prop where
  timer : s.timer.lawful → t.timer.lawful
  endpoint : s.endpoint.bounded → t.endpoint.bounded
  pages : s.PagesOk → t.PagesOk
  latches : ∀ n, (s.latch n).Counted → (t.latch n).Counted
  ports : ∀ l, ((s.port l).bounded → (t.port l).bounded) ∧ ((s.port l).Counted → (t.port l).Counted)
  errors : s.store.errors ≤ 65535 → t.store.errors ≤ 65535
  channels : s.PagesOk → (∀ ch, (s.channel ch).inRange) → ∀ ch, (t.channel ch).inRange
  routes : RoutesUp s → RoutesUp t

namespace RecordsKept

variable {s t : State}

/-- An operation that leaves all these records, but for changes of the lines and the endpoint. -/
theorem same (hends : s.endpoint.bounded → t.endpoint.bounded) (htimer : t.timer = s.timer := by rfl)
    (hcues : t.cues = s.cues := by rfl) (hlatches : t.latches = s.latches := by rfl)
    (hlinks : t.links = s.links := by rfl) (herrors : t.store.errors = s.store.errors := by rfl)
    (hchannels : t.channels = s.channels := by rfl) : RecordsKept s t where
  timer h := htimer ▸ h
  endpoint := hends
  pages h := by unfold State.PagesOk; rw [hcues]; exact h
  latches n h := by rw [State.latch, hlatches]; exact h
  ports l := by unfold State.port; rw [hlinks]; exact ⟨id, id⟩
  errors h := herrors ▸ h
  channels _ h ch := by rw [State.channel, hchannels]; exact h ch
  routes h := by unfold RoutesUp State.channel State.port; rw [hchannels, hlinks]; exact h

theorem stored (h : SameButStored s t) : RecordsKept s t := by
  obtain ⟨_, _, _, _, _, _, _, rfl⟩ := h
  exact same id

/-- One channel record changes, with the clips. -/
theorem channel {ch : Fin 4} {f : Channel → Channel} {u : State} (hu : ∃ c, u = { s with clips := c })
    (hr : s.PagesOk → (s.channel ch).inRange → (f (s.channel ch)).inRange)
    (hroute : s.Routed (s.channel ch) → s.Routed (f (s.channel ch))) : RecordsKept s (u.onChannel ch f) := by
  obtain ⟨c, rfl⟩ := hu
  have hch (j : Fin 4) : (({ s with clips := c } : State).onChannel ch f).channel j =
      if j = ch then f (s.channel ch) else s.channel j := State.channel_onChannel _ _ _ _
  refine ⟨id, id, id, fun _ => id, fun _ => ⟨id, id⟩, id, fun hp h j => ?_, fun h j => ?_⟩
  · rw [hch]
    split
    · exact hr hp (h ch)
    · exact h j
  · rw [hch]
    split
    · exact hroute (h ch)
    · exact h j

end RecordsKept

theorem Channel.inRange.bindAt {c : Channel} (h : c.inRange) (b : Binding) (p : Nat) : (c.bindAt b p).inRange := by
  obtain ⟨-, -, -, -, hk, -, hpass, hcue, -, -, -, hm⟩ := h
  have h0 : (-3072 : Int) ≤ 0 ∧ (0 : Int) ≤ 3072 := by decide
  exact ⟨h0, h0, Nat.zero_le _, Nat.zero_le _, hk, Nat.zero_le _, (Nat.zero_le _).trans_lt hpass, hcue, Nat.zero_le _,
    Nat.zero_le _, nofun, hm⟩

theorem Channel.inRange.reset {c : Channel} (h : c.inRange) : c.reset.inRange := by
  obtain ⟨-, -, -, -, hk, -, hpass, hcue, -, -, -, -, hslip⟩ := h
  have h0 : (-3072 : Int) ≤ 0 ∧ (0 : Int) ≤ 3072 := by decide
  exact ⟨h0, h0, Nat.zero_le _, Nat.zero_le _, hk, Nat.zero_le _, (Nat.zero_le _).trans_lt hpass, hcue, Nat.zero_le _,
    Nat.zero_le _, nofun, Nat.zero_le _, hslip⟩

theorem Channel.inRange_default : ({} : Channel).inRange := by
  unfold Channel.inRange ChannelConfig.inRange
  simp

theorem pagesOk_default : ∀ page ∈ ({} : CueMemory).pages, ∀ q ∈ page, cueOk q = true := by
  intro page hp q hq
  rw [List.eq_of_mem_replicate hp] at hq
  rw [List.eq_of_mem_replicate hq]
  rfl

theorem Timer.lawful_default : ({} : Timer).lawful := by
  refine ⟨rfl, ?_, Nat.zero_le _, fun _ => rfl, by decide, Nat.zero_le _, fun _ => ⟨rfl, .inl rfl⟩⟩
  simp [distance, Timer.nominal]

theorem channel_resetBlocks (id : Nat) (links : Two Link) (s : State) (ch : Fin 4) :
    (resetBlocks id links s).channel ch = {} := by fin_cases ch <;> rfl

theorem latch_resetBlocks (id : Nat) (links : Two Link) (s : State) (n : Fin 8) :
    (resetBlocks id links s).latch n = {} := by fin_cases n <;> rfl

theorem Change.recordsKept {S : Scope} {s t : State} (h : Change S s t) : RecordsKept s t := by
  cases h with
  | timer f h => exact ⟨h, id, id, fun _ => id, fun _ => ⟨id, id⟩, id, fun _ => id, id⟩
  | endpoint f h => exact .same h
  | cues m h => exact ⟨id, id, h, fun _ => id, fun _ => ⟨id, id⟩, id, fun _ => id, id⟩
  | latch n f h =>
    refine ⟨id, id, id, fun j hj => ?_, fun _ => ⟨id, id⟩, id, fun _ => id, id⟩
    rw [State.latch_onLatch]
    split
    · rename_i e; subst e; exact h hj
    · exact hj
  | port hS l f h =>
    obtain ⟨hb, hc, hu⟩ := h
    refine ⟨id, id, id, fun _ => id, fun j => ?_, id, fun _ => id, fun hroutes ch hplay => ?_⟩
    · rw [State.port_onPort]
      split
      · rename_i e; subst e; exact ⟨hb, hc⟩
      · exact ⟨id, id⟩
    · obtain ⟨r, hr, hup⟩ := hroutes ch hplay
      refine ⟨r, hr, ?_⟩
      rw [State.port_onPort]
      split
      · rename_i e
        obtain hu | hu | hu := hu
        · exact hu
        · rw [e, hu] at hup; cases hup
        · exact absurd e (hu ch hplay r hr)
      · exact hup
  | errors n h => exact ⟨id, id, id, fun _ => id, fun _ => ⟨id, id⟩, h, fun _ => id, id⟩
  | channel ch hS f h => exact .channel ⟨s.clips, rfl⟩ h.range h.routed
  | abandon i => exact .stored (.contents (.abandon i s))
  | startFrame i key payload _ _ _ _ h => exact .stored (.contents (.startFrame h))
  | continueFrame i a payload => exact .stored (.contents (.continueFrame i a payload s))
  | closeClips time =>
    obtain ⟨_, _, h, hb⟩ := closeClips_eq time s
    rw [h]
    exact .same hb
  | drop id c => exact .stored (.trans (.contents (.releaseHolds _ s)) (.removeClip _ _ _))
  | completeWalk hS id => exact .stored (.trans (.clips (onClip_eq _ _ _)) (.engine _ _))
  | holdEntered i key x t w c p l hw hc hp hl h => exact .stored (.trans (.contents (.takeHold h)) (.clips ⟨_, rfl⟩))
  | unwind hS w =>
    exact .stored (.trans (.trans (.contents (.releaseHolds _ s)) (.clips (onClip_eq _ _ _))) (.engine _ _))
  | fragment hS i key x t w hw h =>
    exact .stored (.trans (.trans (.trans (.contents (.takeHold h)) (.contents (.releaseHolds _ _)))
      (.clips (onClip_eq _ _ _))) (.engine _ _))
  | strayHold i key x t h => exact .stored (.contents (.takeHold h))
  | release id c p => exact .stored (.trans (.contents (.releaseHolds _ s)) (.clips (onClip_eq _ _ _)))
  | bind ch hS f b p hb hup =>
    refine .channel ?_ (fun _ h => h.bindAt b p) fun _ _ => ?_
    · obtain ⟨c, h⟩ := leaveClip_eq (s.channel ch).binding s
      obtain ⟨d, h'⟩ := joinClip_eq b (leaveClip (s.channel ch).binding s)
      exact ⟨d, by rw [h', h]⟩
    · exact (Option.any_eq_true _ _).mp hup
  | resetChannel ch hS => exact .channel (leaveClip_eq _ _) (fun _ h => h.reset) fun _ => nofun
  | runOn ch hS tin stream lo hi x hrun hb =>
    exact .channel (leaveClip_eq _ _) (fun _ h => h.breakTimer (Nat.zero_le _)) id
  | clearCounters hS hC =>
    refine ⟨fun ⟨hm, hp, hc, hu, hf, _, hr⟩ => ⟨hm, hp, hc, hu, hf, Nat.zero_le _, hr⟩, id, id, fun n _ => ?_, fun l => ?_,
      fun _ => Nat.zero_le _, fun _ h ch => ?_, fun h ch => ?_⟩
    · rw [latch_clearCounters]
      exact ⟨Nat.zero_le _, Nat.zero_le _⟩
    · rw [port_clearCounters]
      exact ⟨id, fun _ => ⟨Nat.zero_le _, Nat.zero_le _, Nat.zero_le _, Nat.zero_le _⟩⟩
    · rw [channel_clearCounters]
      exact (h ch).mixer (h ch).mixer_le.1 (Nat.zero_le _)
    · simp only [channel_clearCounters, port_clearCounters]
      exact h ch
  | reset hS id links held h =>
    have hch := channel_resetBlocks id links s
    refine ⟨fun _ => Timer.lawful_default, fun _ => ⟨Nat.zero_le _, fun _ => rfl⟩, fun _ => pagesOk_default, fun n _ => ?_,
      fun l => ?_, fun _ => Nat.zero_le _, fun _ _ ch => ?_, fun _ ch hplay => ?_⟩
    · exact (latch_resetBlocks id links s n).symm ▸ ⟨Nat.zero_le _, Nat.zero_le _⟩
    · exact ⟨(h l).1, fun _ => (h l).2⟩
    · exact (hch ch).symm ▸ Channel.inRange_default
    · have : ((resetBlocks id links s).channel ch).playing = true := hplay
      rw [hch] at this
      cases this
  | _ => exact .same id

end Sys2Proof.Machine

namespace Sys2Proof.Proofs

open Sys2Proof.Machine

/-- Settles O8: every change keeps the channel records in their ranges, and every cue of cue memory one a commit lets in. -/
theorem channelFieldsStayInRange : Obligations.ChannelFieldsStayInRange :=
  step_keeps (fun _ _ h hs => ⟨h.recordsKept.channels hs.2 hs.1, h.recordsKept.pages hs.2⟩) fun _ _ h => h

end Sys2Proof.Proofs
end

section
/-! PROOFS. The streams and the counters of a change (R17, R190), and the tables in canonical form. -/

namespace Sys2Proof.Machine

/-! ## Streams (R16, R17) -/

/-- The counters of a stream are 16-bit counts (R190). -/
def Stream.Counted (r : Stream) : Prop := r.torn ≤ 65535 ∧ r.stale ≤ 65535 ∧ r.skew ≤ 65535

/-- A stream record after an operation that leaves what ENABLE STREAM sets. -/
structure StreamKept (r r' : Stream) : Prop where
  enabled : r'.enabled = r.enabled
  source : r'.source = r.source
  link : r'.link = r.link
  multiple : r'.multiple = r.multiple
  counted : r.Counted → r'.Counted

namespace StreamKept

theorem refl (r : Stream) : StreamKept r r := ⟨rfl, rfl, rfl, rfl, id⟩

theorem trans {a b c : Stream} (h : StreamKept a b) (k : StreamKept b c) : StreamKept a c :=
  ⟨k.enabled.trans h.enabled, k.source.trans h.source, k.link.trans h.link, k.multiple.trans h.multiple,
    k.counted ∘ h.counted⟩

end StreamKept

/-- Every stream record after an operation leaves what ENABLE STREAM sets. -/
def StreamsKept (s t : State) : Prop := ∀ i, StreamKept (s.stream i) (t.stream i)

namespace StreamsKept

variable {s t u : State}

theorem of_eq (h : t.streams = s.streams) : StreamsKept s t := fun i => by
  unfold State.stream
  rw [h]
  exact .refl _

theorem trans (h : StreamsKept s t) (k : StreamsKept t u) : StreamsKept s u := fun i => (h i).trans (k i)

theorem onStream (i : Fin 8) {f : Stream → Stream} (h : StreamKept (s.stream i) (f (s.stream i)))
    (hu : u.streams = s.streams := by rfl) : StreamsKept s (u.onStream i f) := fun j => by
  have hus : u.stream = s.stream := by unfold State.stream; rw [hu]
  rw [State.stream_onStream, hus]
  split
  · rename_i e; subst e; exact h
  · exact .refl _

theorem abandon (i : Fin 8) (s : State) : StreamsKept s (abandon i s) := by
  unfold Machine.abandon
  split
  · exact of_eq rfl
  · dsimp only
    exact onStream i ⟨rfl, rfl, rfl, rfl, fun h => ⟨bump_le h.1, h.2⟩⟩

theorem startFrame {i : Fin 8} {key : Nat} {payload : Band} (h : startFrame i key payload s = .next t) :
    StreamsKept s t := by
  unfold Machine.startFrame at h
  split at h
  · cases h
  · rename_i x s1 hclaim
    cases h
    obtain ⟨f, c, -, -, -, rfl⟩ := claim_some hclaim
    exact onStream i ⟨rfl, rfl, rfl, rfl, id⟩

theorem continueFrame (i : Fin 8) (a : Assembly) (payload : Band) (s : State) :
    StreamsKept s (continueFrame i a payload s) := by
  unfold Machine.continueFrame
  dsimp only
  split
  · unfold commitFrame
    exact trans (onStream (f := fun t =>
      { t with lastKey := some a.key, originKey := t.originKey.or (some a.key), assembly := none }) i
      ⟨rfl, rfl, rfl, rfl, id⟩) (of_eq rfl)
  · exact onStream i ⟨rfl, rfl, rfl, rfl, id⟩

end StreamsKept

/-- The streams a release or a hold leaves as they were. -/
theorem releaseHolds_streams (slots : List Nat) (s : State) : (releaseHolds slots s).streams = s.streams := by
  obtain ⟨st, h⟩ := SameButStore.releaseHolds slots s
  rw [h]

theorem takeHold_streams {i : Fin 8} {key : Nat} {s t : State} {r : HoldResult} (h : takeHold i key s = (r, t)) :
    t.streams = s.streams := by
  obtain ⟨-, h'⟩ | ⟨x, g, -, h' | h' | h' | h'⟩ := takeHold_cases i key s
  · rw [h'] at h; cases h; rfl
  · rw [h'.2] at h; cases h; rfl
  · rw [h'.2.2] at h; cases h; rfl
  · rw [h'.2.2] at h; cases h; rfl
  · rw [h'.2.2] at h; cases h; rfl

theorem onClip_streams (id : Nat) (f : Clip → Clip) (s : State) : (s.onClip id f).streams = s.streams := by
  obtain ⟨c, h⟩ := onClip_eq id f s
  rw [h]

theorem idleEngine_streams (s : State) : (idleEngine s).streams = s.streams := rfl

theorem removeClip_streams (id : Nat) (c : Clip) (s : State) : (removeClip id c s).streams = s.streams := by
  unfold removeClip
  dsimp only
  split <;> rfl

/-- The multiple of an enabled stream, 0 for one that is not: what R17 adds up. -/
def State.share (s : State) (i : Fin 8) : Nat := if (s.stream i).enabled then (s.stream i).multiple else 0

theorem sum_map_filter_eq {l : List (Fin 8)} (p : Fin 8 → Bool) (f : Fin 8 → Nat) :
    ((l.filter p).map f).sum = (l.map fun i => if p i then f i else 0).sum := by
  induction l with
  | nil => rfl
  | cons a l ih =>
    by_cases h : p a = true
    · simp [h, ih]
    · simp [h, ih]

theorem sum_allEight (f : Fin 8 → Nat) : (allEight.map f).sum = ∑ i : Fin 8, f i := by
  simp [allEight, Fin.sum_univ_eight, Nat.add_assoc]

theorem enabledSum_eq (s : State) :
    ((allEight.filter fun i => (s.stream i).enabled).map fun i => (s.stream i).multiple).sum = ∑ i : Fin 8, s.share i := by
  rw [sum_map_filter_eq, sum_allEight]
  rfl

theorem budgetOfOthers_eq (i : Fin 8) (s : State) :
    budgetOfOthers i s = ∑ n : Fin 8, if n = i then 0 else s.share n := by
  unfold budgetOfOthers
  rw [sum_map_filter_eq, sum_allEight]
  refine Finset.sum_congr rfl fun n _ => ?_
  by_cases h : n = i <;> simp [h, State.share]

/-- What a change keeps of the streams. -/
structure StreamsLawKept (s t : State) : Prop where
  budgeted : StreamsBudgeted s → StreamsBudgeted t
  counted : (∀ i, (s.stream i).Counted) → ∀ i, (t.stream i).Counted

namespace StreamsLawKept

variable {s t : State}

theorem kept (h : StreamsKept s t) : StreamsLawKept s t where
  budgeted := by
    rintro ⟨hr, hd, hsum⟩
    refine ⟨fun i => ?_, fun i j => ?_, ?_⟩
    · rw [(h i).source, (h i).multiple]
      exact hr i
    · rw [(h i).enabled, (h j).enabled, (h i).source, (h j).source, (h i).link, (h j).link]
      exact hd i j
    · rw [enabledSum_eq] at hsum ⊢
      refine le_of_eq_of_le (Finset.sum_congr rfl fun i _ => ?_) hsum
      rw [State.share, (h i).enabled, (h i).multiple]
      rfl
  counted hc i := (h i).counted (hc i)

theorem of_eq (h : t.streams = s.streams) : StreamsLawKept s t := kept (.of_eq h)

/-- A stream that is enabled joins the others within the budget (R17). -/
theorem enable {i : Fin 8} {l : Fin 2} {sourceId k : Nat} (hk : multipleOk k = true) (hid : sourceId ≤ 255)
    (hroute : routeTaken i sourceId l s = false) (hbudget : budgetOfOthers i s + k ≤ 32) :
    StreamsLawKept s (s.onStream i fun t =>
      { t with enabled := true, source := sourceId, link := l, multiple := k, assembly := none }) where
  budgeted := by
    have hfree : ∀ n, n ≠ i → (s.stream n).enabled = true → (s.stream n).source = sourceId → (s.stream n).link ≠ l := by
      intro n hn hen hsrc hl
      have : routeTaken i sourceId l s = true :=
        List.any_eq_true.mpr ⟨n, mem_allEight n, by simp [hn, hen, hsrc, hl]⟩
      rw [hroute] at this
      cases this
    have hmult : k ∈ [1, 2, 3, 4, 6, 8] := by simpa [multipleOk, or_assoc] using hk
    rintro ⟨hr, hd, -⟩
    refine ⟨fun j => ?_, fun j n => ?_, ?_⟩
    · rw [State.stream_onStream]
      split
      · exact ⟨hid, hmult⟩
      · exact hr j
    · rw [State.stream_onStream, State.stream_onStream]
      by_cases hj : j = i <;> by_cases hn : n = i
      · exact fun _ _ _ _ => hj.trans hn.symm
      · simp only [if_pos hj, if_neg hn]
        exact fun _ hen hsrc hl => absurd hl.symm (hfree n hn hen hsrc.symm)
      · simp only [if_neg hj, if_pos hn]
        exact fun hen _ hsrc hl => absurd hl (hfree j hj hen hsrc)
      · simp only [if_neg hj, if_neg hn]
        exact hd j n
    · rw [enabledSum_eq]
      rw [budgetOfOthers_eq] at hbudget
      refine le_of_eq_of_le ?_ hbudget
      rw [← Finset.add_sum_erase _ _ (Finset.mem_univ i), ← Finset.add_sum_erase _ (fun n => if n = i then 0 else s.share n)
        (Finset.mem_univ i)]
      have hself : State.share (s.onStream i fun t =>
          { t with enabled := true, source := sourceId, link := l, multiple := k, assembly := none }) i = k := by
        simp [State.share]
      rw [hself, if_pos rfl, Nat.zero_add, Nat.add_comm]
      refine congrArg (· + k) (Finset.sum_congr rfl fun n hn => ?_)
      have hne := Finset.ne_of_mem_erase hn
      rw [if_neg hne, State.share, State.stream_onStream, if_neg hne]
      rfl
  counted h j := by
    rw [State.stream_onStream]
    split
    · exact h i
    · exact h j

/-- A stream that is disabled leaves the others as they were. -/
theorem disable (i : Fin 8) : StreamsLawKept s (s.onStream i fun t => { t with enabled := false }) where
  budgeted := by
    rintro ⟨hr, hd, hsum⟩
    refine ⟨fun j => ?_, fun j n => ?_, ?_⟩
    · rw [State.stream_onStream]
      split
      · exact hr i
      · exact hr j
    · rw [State.stream_onStream, State.stream_onStream]
      split
      · exact nofun
      · split
        · exact fun _ => nofun
        · exact hd j n
    · rw [enabledSum_eq] at hsum ⊢
      refine (Finset.sum_le_sum fun j _ => ?_).trans hsum
      rw [State.share, State.stream_onStream]
      split
      · exact Nat.zero_le _
      · exact le_rfl
  counted h j := by
    rw [State.stream_onStream]
    split
    · exact h i
    · exact h j

end StreamsLawKept

theorem stream_resetBlocks (id : Nat) (links : Two Link) (s : State) (i : Fin 8) :
    (resetBlocks id links s).stream i = {} := by fin_cases i <;> rfl

theorem Change.streamsLawKept {S : Scope} {s t : State} (h : Change S s t) : StreamsLawKept s t := by
  cases h with
  | streamCounters i a b c h => exact .kept (.onStream i ⟨rfl, rfl, rfl, rfl, h⟩)
  | abandon i => exact .kept (.abandon i s)
  | startFrame i key payload _ _ _ _ h => exact .kept (.startFrame h)
  | continueFrame i a payload => exact .kept (.continueFrame i a payload s)
  | enable i l sourceId k hargs _ _ _ hroute hbudget => exact .enable hargs.1 hargs.2 hroute hbudget
  | disable i => exact .disable i
  | configureStore =>
    refine .kept fun i => ?_
    have hf : ({ s with streams := forgetKeys s.streams } : State).stream i = (s.stream i).forget := forgetKeys_get _ _
    exact hf ▸ ⟨rfl, rfl, rfl, rfl, id⟩
  | closeClips time =>
    obtain ⟨_, _, h, -⟩ := closeClips_eq time s
    exact .of_eq (by rw [h])
  | drop id c => exact .of_eq ((removeClip_streams _ _ _).trans (releaseHolds_streams _ _))
  | completeWalk hS id => exact .of_eq ((idleEngine_streams _).trans (onClip_streams _ _ _))
  | holdEntered i key x t w c p l hw hc hp hl h => exact .of_eq (show t.streams = s.streams from takeHold_streams h)
  | unwind hS w =>
    exact .of_eq ((idleEngine_streams _).trans ((onClip_streams _ _ _).trans (releaseHolds_streams _ _)))
  | fragment hS i key x t w hw h =>
    exact .of_eq ((idleEngine_streams _).trans
      (((onClip_streams _ _ _).trans (releaseHolds_streams _ _)).trans (takeHold_streams h)))
  | strayHold i key x t h => exact .of_eq (takeHold_streams h)
  | release id c p => exact .of_eq ((onClip_streams _ _ _).trans (releaseHolds_streams _ _))
  | bind ch hS f b p =>
    obtain ⟨c, h⟩ := leaveClip_eq (s.channel ch).binding s
    obtain ⟨d, h'⟩ := joinClip_eq b (leaveClip (s.channel ch).binding s)
    exact .of_eq (by rw [State.onChannel_streams, h', h])
  | resetChannel ch hS =>
    obtain ⟨c, h⟩ := leaveClip_eq (s.channel ch).binding s
    exact .of_eq (by rw [State.onChannel_streams, h])
  | runOn ch hS =>
    obtain ⟨c, h⟩ := leaveClip_eq (s.channel ch).binding s
    exact .of_eq (by rw [State.onChannel_streams, h])
  | clearCounters hS hC =>
    refine .kept fun i => ?_
    rw [stream_clearCounters]
    exact ⟨rfl, rfl, rfl, rfl, fun _ => ⟨Nat.zero_le _, Nat.zero_le _, Nat.zero_le _⟩⟩
  | reset hS id links held h =>
    have hst := stream_resetBlocks id links s
    have h0 : StreamsBudgeted (resetBlocks id links s) := by
      refine ⟨fun i => ?_, fun i j hi => ?_, ?_⟩
      · rw [hst]; simp
      · rw [hst] at hi; cases hi
      · rw [enabledSum_eq]
        simp [State.share, hst]
    refine ⟨fun _ => h0, fun _ i => ?_⟩
    exact (hst i).symm ▸ ⟨Nat.zero_le _, Nat.zero_le _, Nat.zero_le _⟩
  | _ => exact .of_eq rfl

/-! ## Canonical tables -/

/-- The tables of the Frame Store are in canonical form. -/
def StoreCanonical (s : State) : Prop :=
  SlotsCanonical s.store.slots ∧ s.store.dram.wf ∧ ∀ i, (s.allotment i).directory.wf

namespace StoreCanonical

variable {s t : State}

theorem of_eq (h : StoreCanonical s) (hs : t.store = s.store) : StoreCanonical t := by
  unfold StoreCanonical State.allotment
  rw [hs]
  exact h

theorem setSlot (h : StoreCanonical s) (x : Nat) (r : Slot) : StoreCanonical (s.onStore (Store.setSlot x r)) := by
  obtain ⟨h1, h2, h3⟩ := h
  exact ⟨h1.setSlot x r, h2, h3⟩

theorem writeBand (h : StoreCanonical s) (x b : Nat) (bytes : Band) :
    StoreCanonical (s.onStore (Store.writeBand x b bytes)) := by
  obtain ⟨h1, h2, h3⟩ := h
  exact ⟨h1, Store.dram_writeBand_wf h2 _ _ _, h3⟩

theorem onAllotment (h : StoreCanonical s) (i : Fin 8) {f : Allotment → Allotment}
    (hf : (s.allotment i).directory.wf → (f (s.allotment i)).directory.wf) : StoreCanonical (s.onAllotment i f) := by
  obtain ⟨h1, h2, h3⟩ := h
  refine ⟨h1, h2, fun j => ?_⟩
  rw [State.allotment_onAllotment]
  split
  · exact hf (h3 i)
  · exact h3 j

theorem recomputeRecall (h : StoreCanonical s) (i : Fin 8) : StoreCanonical (recomputeRecall i s) := h.onAllotment i id

theorem abandon (h : StoreCanonical s) (i : Fin 8) : StoreCanonical (abandon i s) := by
  unfold Machine.abandon
  split
  · exact h
  · exact h.setSlot _ _

theorem startFrame (h : StoreCanonical s) {i : Fin 8} {key : Nat} {payload : Band}
    (hs : startFrame i key payload s = .next t) : StoreCanonical t := by
  unfold Machine.startFrame at hs
  split at hs
  · cases hs
  · rename_i x s1 hclaim
    cases hs
    obtain ⟨f, c, -, -, -, rfl⟩ := claim_some hclaim
    exact ((h.setSlot _ _).onAllotment i id).writeBand _ _ _

theorem continueFrame (h : StoreCanonical s) (i : Fin 8) (a : Assembly) (payload : Band) :
    StoreCanonical (continueFrame i a payload s) := by
  have hw := h.writeBand a.slot a.next payload
  unfold Machine.continueFrame
  dsimp only
  split
  · have hc := (hw.setSlot a.slot { (s.onStore (Store.writeBand a.slot a.next payload)).store.slot a.slot with occupant := .full a.key }).onAllotment i
      (f := fun b => { b with directory := b.directory.insert (a.key % b.size) (a.key, a.slot) }) fun hd => Table.wf_insert hd _ _
    exact StoreCanonical.recomputeRecall (s := State.onStream i _ _) (hc.of_eq rfl) i
  · exact hw.of_eq rfl

theorem releaseHold (h : StoreCanonical s) (x : Nat) : StoreCanonical (releaseHold s x) := by
  rw [releaseHold_cases]
  split
  · exact (h.setSlot _ _).onAllotment _ id
  · exact h.setSlot _ _

theorem releaseHolds (h : StoreCanonical s) (slots : List Nat) : StoreCanonical (releaseHolds slots s) := by
  unfold Machine.releaseHolds
  have hfold (l : List Nat) (u : State) (hu : StoreCanonical u) : StoreCanonical (l.foldl Machine.releaseHold u) := by
    induction l generalizing u with
    | nil => exact hu
    | cons x l ih => exact ih _ (hu.releaseHold x)
  dsimp only
  generalize slots.foldl Machine.releaseHold s = u, hfold slots s h = hu
  induction allEight generalizing u with
  | nil => exact hu
  | cons i l ih =>
    rw [List.foldl_cons]
    split
    · exact ih u hu
    · exact ih _ (hu.recomputeRecall i)

theorem takeHold (h : StoreCanonical s) {i : Fin 8} {key : Nat} {r : HoldResult} (ht : takeHold i key s = (r, t)) :
    StoreCanonical t := by
  obtain ⟨-, h'⟩ | ⟨x, g, -, h' | h' | h' | h'⟩ := takeHold_cases i key s
  · rw [h'] at ht; cases ht; exact h
  · rw [h'.2] at ht; cases ht; exact h
  · rw [h'.2.2] at ht; cases ht; exact h
  · rw [h'.2.2] at ht; cases ht; exact ((h.setSlot _ _).onAllotment i id).recomputeRecall i
  · rw [h'.2.2] at ht; cases ht; exact h.setSlot _ _

end StoreCanonical

/-! ### The clip table -/

section
variable {s : State} (h : s.clips.wf)
include h

theorem onClip_wf (id : Nat) (f : Clip → Clip) : (s.onClip id f).clips.wf := by
  unfold State.onClip
  split
  · exact h
  · exact Table.wf_insert h _ _

theorem leaveClip_wf (b : Binding) : (leaveClip b s).clips.wf := by
  unfold leaveClip
  split
  · exact onClip_wf h _ _
  · exact h

theorem joinClip_wf (b : Binding) : (joinClip b s).clips.wf := by
  unfold joinClip
  split
  · exact onClip_wf h _ _
  · exact h

theorem removeClip_wf (id : Nat) (c : Clip) : (removeClip id c s).clips.wf := by
  unfold removeClip
  dsimp only
  split <;> exact Table.wf_erase h _

theorem closeClips_wf (time : Nat) : (closeClips time s).clips.wf := by
  unfold closeClips
  generalize clipList s.clips = l
  induction l generalizing s with
  | nil => exact h
  | cons a l ih =>
    refine ih ?_
    unfold closeClip
    split
    · split
      · exact Table.wf_insert h _ _
      · exact h
    · exact h

end

theorem takeHold_clips {i : Fin 8} {key : Nat} {s t : State} {r : HoldResult} (h : takeHold i key s = (r, t)) :
    t.clips = s.clips := by
  obtain ⟨_, _, _, _, rfl⟩ := SameButContents.takeHold h
  rfl

theorem tablesCanonical_iff (s : State) : TablesCanonical s ↔ StoreCanonical s ∧ s.clips.wf := by
  unfold TablesCanonical StoreCanonical SlotsCanonical
  tauto

end Sys2Proof.Machine
end

section
/-! PROOFS. Every step keeps every table in canonical form, the streams within their budget, and the counters within 16 bits. -/

namespace Sys2Proof.Machine

theorem storeCanonical_resetBlocks (id : Nat) (links : Two Link) {s : State} (h : StoreCanonical s) :
    StoreCanonical (resetBlocks id links s) := by
  obtain ⟨-, h2, -⟩ := h
  refine ⟨slotsCanonical_nil, h2, fun i => ?_⟩
  have : (resetBlocks id links s).allotment i = {} := by fin_cases i <;> rfl
  rw [this]
  exact Table.wf_nil

theorem directory_layOut (x : Nat) (q : Nat × Nat) : (layOut x q).directory = [] := by
  unfold layOut
  split <;> rfl

theorem removeClip_store (id : Nat) (c : Clip) (s : State) : (removeClip id c s).store = s.store := by
  unfold removeClip
  dsimp only
  split <;> rfl

theorem StoreCanonical.idle {s : State} (h : StoreCanonical s) : StoreCanonical (idleEngine s) := h

theorem idleEngine_clips (s : State) : (idleEngine s).clips = s.clips := rfl

/-- A change keeps the tables of the Frame Store canonical. -/
theorem Change.storeCanonical {S : Scope} {s t : State} (h : Change S s t) (hs : StoreCanonical s) : StoreCanonical t := by
  have hclip (u : State) (id : Nat) (f : Clip → Clip) (hu : StoreCanonical u) : StoreCanonical (u.onClip id f) := by
    obtain ⟨c, h⟩ := onClip_eq id f u
    exact hu.of_eq (by rw [h])
  have hleave (b : Binding) : (leaveClip b s).store = s.store := by
    obtain ⟨c, h⟩ := leaveClip_eq b s
    rw [h]
  cases h with
  | abandon i => exact hs.abandon i
  | startFrame i key payload _ _ _ _ h => exact hs.startFrame h
  | continueFrame i a payload => exact hs.continueFrame i a payload
  | configureStore hS pairs =>
    refine ⟨slotsCanonical_nil, hs.2.1, fun i => ?_⟩
    show ((layOutAll pairs).get i).directory.wf
    rw [layOutAll_get, directory_layOut]
    exact Table.wf_nil
  | closeClips time =>
    obtain ⟨_, _, h, -⟩ := closeClips_eq time s
    exact hs.of_eq (by rw [h])
  | drop id c =>
    exact (hs.releaseHolds c.heldSlots).of_eq (removeClip_store _ _ _)
  | completeWalk hS id => exact .idle (hclip _ _ _ hs)
  | holdEntered i key x t w c p l hw hc hp hl h => exact (hs.takeHold h).of_eq rfl
  | unwind hS w => exact .idle (hclip _ _ _ (hs.releaseHolds _))
  | fragment hS i key x t w hw h => exact .idle (hclip _ _ _ ((hs.takeHold h).releaseHolds _))
  | strayHold i key x t h => exact hs.takeHold h
  | release id c p => exact hclip _ _ _ (hs.releaseHolds _)
  | bind ch hS f b p =>
    obtain ⟨c, h⟩ := joinClip_eq b (leaveClip (s.channel ch).binding s)
    refine hs.of_eq ?_
    rw [State.onChannel_store, h]
    exact hleave _
  | resetChannel ch hS => exact hs.of_eq (hleave _)
  | runOn ch hS => exact hs.of_eq (hleave _)
  | reset hS id links held => exact (storeCanonical_resetBlocks id links hs).of_eq rfl
  | errors n => exact hs
  | clearCounters => exact hs
  | reads => exact hs
  | _ => exact hs.of_eq rfl

/-- A change keeps the clip table canonical. -/
theorem Change.clipsWf {S : Scope} {s t : State} (h : Change S s t) (hs : s.clips.wf) : t.clips.wf := by
  cases h with
  | clip => exact Table.wf_insert hs _ _
  | remark => exact Table.wf_insert hs _ _
  | closeOut => exact Table.wf_insert hs _ _
  | create => exact Table.wf_insert hs _ _
  | protect => exact Table.wf_insert hs _ _
  | recycle => exact Table.wf_erase hs _
  | abandon i =>
    obtain ⟨_, _, _, _, h⟩ := SameButContents.abandon i s
    rw [h]; exact hs
  | startFrame i key payload _ _ _ _ h =>
    obtain ⟨_, _, _, _, rfl⟩ := SameButContents.startFrame h
    exact hs
  | continueFrame i a payload =>
    obtain ⟨_, _, _, _, h⟩ := SameButContents.continueFrame i a payload s
    rw [h]; exact hs
  | closeClips time => exact closeClips_wf hs time
  | drop id c => exact removeClip_wf (by rw [releaseHolds_clips]; exact hs) id c
  | completeWalk hS id => rw [idleEngine_clips]; exact onClip_wf hs _ _
  | holdEntered i key x t w c p l hw hc hp hl h => exact Table.wf_insert (takeHold_clips h ▸ hs) _ _
  | unwind hS w =>
    rw [idleEngine_clips]
    exact onClip_wf (by rw [releaseHolds_clips]; exact hs) _ _
  | fragment hS i key x t w hw h =>
    rw [idleEngine_clips]
    exact onClip_wf (by rw [releaseHolds_clips, takeHold_clips h]; exact hs) _ _
  | strayHold i key x t h => exact takeHold_clips h ▸ hs
  | release id c p => exact onClip_wf (by rw [releaseHolds_clips]; exact hs) _ _
  | bind ch hS f b p => exact joinClip_wf (leaveClip_wf hs _) _
  | resetChannel ch hS => exact leaveClip_wf hs _
  | runOn ch hS => exact leaveClip_wf hs _
  | reset => exact Table.wf_nil
  | _ => exact hs

theorem Change.countersBounded {S : Scope} {s t : State} (h : Change S s t) (hs : CountersBounded s) : CountersBounded t := by
  obtain ⟨hstreams, hports, hlatches, herrors⟩ := hs
  have hr := h.recordsKept
  exact ⟨h.streamsLawKept.counted hstreams, fun l => (hr.ports l).2 (hports l), fun n => hr.latches n (hlatches n),
    hr.errors herrors⟩

end Sys2Proof.Machine

namespace Sys2Proof.Proofs

open Sys2Proof.Machine

/-- Settles O6: every change writes the tables by insertions and erasures, and lists no blank slot. -/
theorem tablesKeepCanonicalForm : Obligations.TablesKeepCanonicalForm := by
  refine step_keeps (fun s t h hs => ?_) fun _ _ h => h
  rw [tablesCanonical_iff] at hs ⊢
  exact ⟨h.storeCanonical hs.1, h.clipsWf hs.2⟩

/-- Settles O9: every change keeps the timer lawful, the streams within their budget, and the counters within 16 bits. -/
theorem timerStreamsAndCountersStayLawful : Obligations.TimerStreamsAndCountersStayLawful :=
  ⟨step_keeps (fun _ _ h => h.recordsKept.timer) fun _ _ h => h,
    step_keeps (fun _ _ h => h.streamsLawKept.budgeted) fun _ _ h => h,
    step_keeps (fun _ _ h => h.countersBounded) fun _ _ h => h⟩

end Sys2Proof.Proofs
end

section
/-! PROOFS. A sound Frame Store: what claims, commits, holds and releases do to the held counts and the cursors (R38 to R42),
and that a claim always finds a slot. -/

namespace Sys2Proof

variable {α : Type}

/-! ## Sums over a table -/

theorem Table.find_of_lt {t : Table α} {k : Nat} (h : ∀ e ∈ t, k < e.1) : t.find k = none := by
  induction t with
  | nil => rfl
  | cons e t ih =>
    have he := h e List.mem_cons_self
    rw [Table.find, if_neg (by omega)]
    exact ih fun f hf => h f (List.mem_cons_of_mem _ hf)

theorem Table.mem_of_find {t : Table α} {k : Nat} {a : α} (h : t.find k = some a) : (k, a) ∈ t := by
  induction t with
  | nil => cases h
  | cons e t ih =>
    rw [Table.find] at h
    split at h
    · rename_i he
      cases h
      subst he
      exact List.mem_cons_self
    · exact List.mem_cons_of_mem _ (ih h)

/-- Writing an entry changes a sum over the table by that entry's part. -/
theorem Table.sum_insert {t : Table α} (h : t.wf) (g : Nat × α → Nat) (k : Nat) (a : α) :
    ((t.insert k a).map g).sum + (t.find k).elim 0 (fun b => g (k, b)) = (t.map g).sum + g (k, a) := by
  induction t with
  | nil => simp [Table.insert, Table.find]
  | cons e t ih =>
    obtain ⟨n, b⟩ := e
    obtain ⟨hn, ht⟩ := Table.wf_cons.mp h
    rcases lt_trichotomy k n with hk | hk | hk
    · have hnone : Table.find ((n, b) :: t) k = none := by
        refine Table.find_of_lt fun e he => ?_
        rcases List.mem_cons.mp he with rfl | he
        · exact hk
        · exact hk.trans (hn e he)
      rw [hnone, Table.insert, if_pos hk]
      simp only [List.map_cons, List.sum_cons, Option.elim]
      omega
    · subst hk
      rw [Table.insert, if_neg (lt_irrefl _), if_pos rfl, Table.find, if_pos rfl]
      simp only [List.map_cons, List.sum_cons, Option.elim]
      omega
    · have := ih ht
      rw [Table.insert, if_neg (by omega), if_neg (by omega), Table.find, if_neg (by omega)]
      simp only [List.map_cons, List.sum_cons]
      omega

/-- Erasing an entry takes its part from a sum over the table. -/
theorem Table.sum_erase {t : Table α} (h : t.wf) (g : Nat × α → Nat) (k : Nat) :
    ((t.erase k).map g).sum + (t.find k).elim 0 (fun b => g (k, b)) = (t.map g).sum := by
  induction t with
  | nil => rfl
  | cons e t ih =>
    obtain ⟨n, b⟩ := e
    obtain ⟨hn, ht⟩ := Table.wf_cons.mp h
    have := ih ht
    by_cases hk : n = k
    · subst hk
      rw [Table.find_of_lt hn] at this
      rw [Table.erase, if_pos rfl, Table.find, if_pos rfl]
      simp only [List.map_cons, List.sum_cons, Option.elim] at this ⊢
      omega
    · rw [Table.erase, if_neg hk, Table.find, if_neg hk]
      simp only [List.map_cons, List.sum_cons]
      omega

end Sys2Proof

namespace Sys2Proof.Machine

theorem length_filter_eq_sum {α : Type} (p : α → Bool) (l : List α) :
    (l.filter p).length = (l.map fun a => if p a then 1 else 0).sum := by
  induction l with
  | nil => rfl
  | cons a l ih =>
    by_cases h : p a = true
    · simp [h, ih, Nat.add_comm]
    · simp [h, ih]

/-! ## Held slots (R42) -/

/-- What a slot counts towards a stream's held count: 1 when the stream owns it and it is held. -/
def heldPart (i : Fin 8) (owner : Option (Fin 8)) (holds : Nat) : Nat := if owner = some i ∧ 0 < holds then 1 else 0

theorem Store.heldSlots_eq_sum (st : Store) (i : Fin 8) :
    st.heldSlots i = (st.slots.map fun e => heldPart i (st.owner e.1) e.2.holds).sum := by
  rw [Store.heldSlots, length_filter_eq_sum]
  simp only [heldPart, decide_eq_true_eq]

/-- Writing a slot changes a held count by that slot's part. -/
theorem Store.heldSlots_setSlot {st : Store} (h : st.slots.wf) (x : Nat) (r : Slot) (i : Fin 8) :
    (st.setSlot x r).heldSlots i + heldPart i (st.owner x) (st.slot x).holds =
      st.heldSlots i + heldPart i (st.owner x) r.holds := by
  have hpart : heldPart i (st.owner x) (st.slot x).holds =
      (st.slots.find x).elim 0 fun b => heldPart i (st.owner x) b.holds := by
    unfold Store.slot
    cases st.slots.find x with
    | none => simp [heldPart, blankSlot]
    | some b => rfl
  rw [Store.heldSlots_eq_sum, Store.heldSlots_eq_sum, hpart]
  simp only [Store.setSlot_owner]
  unfold Store.setSlot
  by_cases hr : r = blankSlot
  · subst hr
    rw [if_pos rfl]
    have := Table.sum_erase h (fun e => heldPart i (st.owner e.1) e.2.holds) x
    simpa [heldPart, blankSlot] using this
  · rw [if_neg hr]
    exact Table.sum_insert h (fun e => heldPart i (st.owner e.1) e.2.holds) x r

/-- Who owns a slot depends on the slot ranges alone. -/
theorem Store.owner_congr {st st' : Store}
    (h : ∀ i, (st'.allotments.get i).size = (st.allotments.get i).size ∧
      (st'.allotments.get i).first = (st.allotments.get i).first) (x : Nat) : st'.owner x = st.owner x := by
  unfold Store.owner
  congr 1
  funext i
  unfold Allotment.owns
  rw [(h i).1, (h i).2]

theorem Store.heldSlots_congr {st st' : Store} (hslots : st'.slots = st.slots) (howner : ∀ x, st'.owner x = st.owner x)
    (i : Fin 8) : st'.heldSlots i = st.heldSlots i := by
  unfold Store.heldSlots
  simp only [hslots, howner]

/-! ## Keeping the store sound -/

/-- An operation that leaves the slot ranges keeps a store sound when it keeps its counts and cursors. -/
theorem StoreSound.of_ranges {s t : State} (h : StoreSound s)
    (hranges : ∀ i, (t.allotment i).size = (s.allotment i).size ∧ (t.allotment i).first = (s.allotment i).first ∧
      (t.allotment i).floor = (s.allotment i).floor)
    (hslots : t.store.slots.wf) (hheld : ∀ i, (t.allotment i).held = t.store.heldSlots i)
    (hle : ∀ i, (t.allotment i).held + (t.allotment i).floor ≤ (t.allotment i).size)
    (hcursor : ∀ i f c, (s.allotment i).first = some f → (s.allotment i).cursor = some c → f ≤ c →
      c < f + (s.allotment i).size →
      ∃ c', (t.allotment i).cursor = some c' ∧ f ≤ c' ∧ c' < f + (s.allotment i).size)
    (hen : ∀ i, (t.stream i).enabled = true → 0 < (s.allotment i).size) : StoreSound t := by
  obtain ⟨-, hsound, -⟩ := h
  have howner := Store.owner_congr (st := s.store) (st' := t.store) fun i => ⟨(hranges i).1, (hranges i).2.1⟩
  refine ⟨hslots, fun i => ?_, fun i hi => ?_⟩
  · obtain ⟨-, -, hpos, howns⟩ := hsound i
    obtain ⟨hsize, hfirst, hfloor⟩ := hranges i
    refine ⟨hheld i, hle i, fun hp => ?_, fun x hx => ?_⟩
    · obtain ⟨hfl, f, c, hf, hc, hfc, hcf⟩ := hpos (hsize ▸ hp)
      obtain ⟨c', hc', h1, h2⟩ := hcursor i f c hf hc hfc hcf
      exact ⟨hfloor ▸ hfl, f, c', hfirst.trans hf, hc', h1, hsize ▸ h2⟩
    · rw [howner]
      refine howns x ?_
      have : (t.allotment i).owns x = true := hx
      unfold Allotment.owns at this ⊢
      rw [hsize, hfirst] at this
      exact this
  · rw [(hranges i).1]
    exact hen i hi

namespace StoreSound

variable {s t : State}

theorem held_eq (h : StoreSound s) (i : Fin 8) : (s.allotment i).held = s.store.heldSlots i := (h.2.1 i).1

theorem held_le (h : StoreSound s) (i : Fin 8) : (s.allotment i).held + (s.allotment i).floor ≤ (s.allotment i).size :=
  (h.2.1 i).2.1

/-- An operation that leaves the store's contents and enables no stream. -/
theorem of_eq (h : StoreSound s) (halloc : t.store.allotments = s.store.allotments) (hslots : t.store.slots = s.store.slots)
    (hen : ∀ i, (t.stream i).enabled = true → (s.stream i).enabled = true) : StoreSound t := by
  have ha : t.allotment = s.allotment := by unfold State.allotment; rw [halloc]
  have howner := Store.owner_congr (st := s.store) (st' := t.store) fun i => by rw [halloc]; exact ⟨rfl, rfl⟩
  refine h.of_ranges (fun i => by rw [ha]; exact ⟨rfl, rfl, rfl⟩) (hslots ▸ h.1) (fun i => ?_) (fun i => ?_)
    (fun i f c hf hc h1 h2 => ?_) fun i hi => h.2.2 i (hen i hi)
  · rw [ha, Store.heldSlots_congr hslots howner]
    exact h.held_eq i
  · rw [ha]
    exact h.held_le i
  · rw [ha]
    exact ⟨c, hc, h1, h2⟩

theorem of_store (h : StoreSound s) (hs : t.store = s.store) (hstreams : t.streams = s.streams) : StoreSound t :=
  h.of_eq (by rw [hs]) (by rw [hs]) fun i => by unfold State.stream; rw [hstreams]; exact id

/-- A slot is written that stays held or stays unheld. -/
theorem setSlot (h : StoreSound s) {x : Nat} {r : Slot} (hz : 0 < r.holds ↔ 0 < (s.store.slot x).holds) :
    StoreSound (s.onStore (Store.setSlot x r)) := by
  refine h.of_ranges (t := s.onStore (Store.setSlot x r)) (fun i => ⟨rfl, rfl, rfl⟩) ?_ (fun i => ?_) h.held_le
    (fun i f c _ hc h1 h2 => ⟨c, hc, h1, h2⟩) h.2.2
  · unfold State.onStore Store.setSlot
    dsimp only
    split
    · exact Table.wf_erase h.1 _
    · exact Table.wf_insert h.1 _ _
  · have hsum := Store.heldSlots_setSlot h.1 x r i
    have hpart : heldPart i (s.store.owner x) r.holds = heldPart i (s.store.owner x) (s.store.slot x).holds := by
      simp only [heldPart, hz]
    rw [hpart] at hsum
    exact (h.held_eq i).trans (Nat.add_right_cancel hsum).symm

/-- An allotment changes outside its range, floor and held count. -/
theorem onAllotment (h : StoreSound s) (i : Fin 8) {f : Allotment → Allotment}
    (hrange : (f (s.allotment i)).size = (s.allotment i).size ∧ (f (s.allotment i)).first = (s.allotment i).first ∧
      (f (s.allotment i)).floor = (s.allotment i).floor ∧ (f (s.allotment i)).held = (s.allotment i).held)
    (hcursor : ∀ first c, (s.allotment i).first = some first → (s.allotment i).cursor = some c → first ≤ c →
      c < first + (s.allotment i).size →
      ∃ c', (f (s.allotment i)).cursor = some c' ∧ first ≤ c' ∧ c' < first + (s.allotment i).size) :
    StoreSound (s.onAllotment i f) := by
  obtain ⟨h1, h2, h3, h4⟩ := hrange
  have ha (j : Fin 8) : (s.onAllotment i f).allotment j = if j = i then f (s.allotment i) else s.allotment j :=
    State.allotment_onAllotment _ _ _ _
  have hranges (j : Fin 8) : ((s.onAllotment i f).allotment j).size = (s.allotment j).size ∧
      ((s.onAllotment i f).allotment j).first = (s.allotment j).first ∧
      ((s.onAllotment i f).allotment j).floor = (s.allotment j).floor := by
    rw [ha]
    split
    · rename_i e; subst e; exact ⟨h1, h2, h3⟩
    · exact ⟨rfl, rfl, rfl⟩
  have hheld (j : Fin 8) : ((s.onAllotment i f).allotment j).held = (s.allotment j).held := by
    rw [ha]
    split
    · rename_i e; subst e; exact h4
    · rfl
  refine h.of_ranges hranges h.1 (fun j => ?_) (fun j => ?_) (fun j first c hf hc hfc hcf => ?_) h.2.2
  · rw [hheld, h.held_eq]
    exact (Store.heldSlots_congr (st := s.store) (st' := (s.onAllotment i f).store) rfl
      (Store.owner_congr fun n => ⟨(hranges n).1, (hranges n).2.1⟩) j).symm
  · rw [hheld, (hranges j).1, (hranges j).2.2]
    exact h.held_le j
  · rw [ha]
    split
    · rename_i e; subst e; exact hcursor first c hf hc hfc hcf
    · exact ⟨c, hc, hfc, hcf⟩

theorem recomputeRecall (h : StoreSound s) (i : Fin 8) : StoreSound (recomputeRecall i s) :=
  h.onAllotment i ⟨rfl, rfl, rfl, rfl⟩ fun _ c _ hc h1 h2 => ⟨c, hc, h1, h2⟩

theorem abandon (h : StoreSound s) (i : Fin 8) : StoreSound (abandon i s) := by
  unfold Machine.abandon
  split
  · exact h
  · refine (h.setSlot (r := { s.store.slot _ with occupant := .empty }) Iff.rfl).of_eq rfl rfl fun j hj => ?_
    rw [State.stream_onStream] at hj
    split at hj
    · rename_i e; subst e; exact hj
    · exact hj

end StoreSound

/-! ## Claims (R38) -/

theorem nextSlot_mem {f D x : Nat} (hD : 0 < D) (hx : f ≤ x) : f ≤ nextSlot f D x ∧ nextSlot f D x < f + D := by
  unfold nextSlot
  split <;> omega

/-- A scan within a range answers a slot of the range. -/
theorem Store.scanUnheld_mem {st : Store} {f D n x y : Nat} (hx : f ≤ x ∧ x < f + D)
    (h : st.scanUnheld f D n x = some y) : f ≤ y ∧ y < f + D := by
  induction n generalizing x with
  | zero => cases h
  | succ n ih =>
    rw [Store.scanUnheld] at h
    split at h
    · cases h; exact hx
    · exact ih (nextSlot_mem (by omega) hx.1) h

/-- A scan that answers none passed held slots only: as many as it looked at, going round the range. -/
theorem Store.scanUnheld_none {st : Store} {f D n c : Nat} (hc : c < D) (h : st.scanUnheld f D n (f + c) = none) :
    ∀ k, k < n → 0 < (st.slot (f + (c + k) % D)).holds := by
  induction n generalizing c with
  | zero => exact fun k hk => absurd hk (Nat.not_lt_zero k)
  | succ n ih =>
    rw [Store.scanUnheld] at h
    split at h
    · cases h
    · rename_i hheld
      have hnext : nextSlot f D (f + c) = f + (c + 1) % D := by
        unfold nextSlot
        split
        · rw [Nat.mod_eq_of_lt (by omega)]; omega
        · rw [show c + 1 = D by omega, Nat.mod_self, Nat.add_zero]
      rw [hnext] at h
      intro k hk
      cases k with
      | zero =>
        rw [Nat.add_zero, Nat.mod_eq_of_lt hc]
        exact Nat.pos_of_ne_zero hheld
      | succ k =>
        have := ih (Nat.mod_lt _ (by omega)) h k (by omega)
        rw [Nat.mod_add_mod] at this
        rwa [show c + (k + 1) = c + 1 + k by omega]

/-- A stream whose every slot is held has at least as many held slots as its range has slots. -/
theorem Store.le_heldSlots {st : Store} {i : Fin 8} {f D : Nat} (howner : ∀ x, f ≤ x → x < f + D → st.owner x = some i)
    (hheld : ∀ x, f ≤ x → x < f + D → 0 < (st.slot x).holds) : D ≤ st.heldSlots i := by
  have hsub : List.range' f D ⊆ (st.slots.filter fun e => decide (st.owner e.1 = some i ∧ 0 < e.2.holds)).map Prod.fst := by
    intro x hx
    obtain ⟨h1, h2⟩ := List.mem_range'_1.mp hx
    have hlisted : ∃ r, st.slots.find x = some r ∧ 0 < r.holds := by
      have := hheld x h1 h2
      unfold Store.slot at this
      cases hf : st.slots.find x with
      | none => rw [hf] at this; exact absurd this (by decide)
      | some r => rw [hf] at this; exact ⟨r, rfl, this⟩
    obtain ⟨r, hr, hpos⟩ := hlisted
    exact List.mem_map.mpr ⟨(x, r), List.mem_filter.mpr ⟨Table.mem_of_find hr, by simp [howner x h1 h2, hpos]⟩, rfl⟩
  have hlen := (List.subperm_of_subset List.nodup_range' hsub).length_le
  rw [List.length_range', List.length_map] at hlen
  exact hlen

/-- A claim of a stream with an allotment finds a slot (R38, R40). -/
theorem StoreSound.claim_ne_none {s : State} (h : StoreSound s) {i : Fin 8} (hen : (s.stream i).enabled = true) (key : Nat) :
    claim i key s ≠ none := by
  obtain ⟨-, hsound, hsize⟩ := h
  obtain ⟨hheld, hle, hpos, howns⟩ := hsound i
  obtain ⟨hfloor, f, c, hf, hc, hfc, hcf⟩ := hpos (hsize i hen)
  intro hnone
  unfold claim at hnone
  dsimp only at hnone
  rw [show (s.allotment i).first = some f from hf, show (s.allotment i).cursor = some c from hc] at hnone
  dsimp only at hnone
  split at hnone
  · rename_i hscan
    obtain ⟨c, rfl⟩ := Nat.exists_eq_add_of_le hfc
    have hall := Store.scanUnheld_none (by exact Nat.add_lt_add_iff_left.mp hcf) hscan
    have hD : 0 < (s.allotment i).size := hsize i hen
    have hfull : (s.allotment i).size ≤ s.store.heldSlots i := by
      refine Store.le_heldSlots (f := f) (fun x h1 h2 => howns x ?_) fun x h1 h2 => ?_
      · unfold Allotment.owns
        rw [hf]
        exact decide_eq_true ⟨h1, h2⟩
      · obtain ⟨y, rfl⟩ := Nat.exists_eq_add_of_le h1
        have hy : y < (s.allotment i).size := Nat.add_lt_add_iff_left.mp h2
        have := hall ((y + ((s.allotment i).size - c % (s.allotment i).size)) % (s.allotment i).size) (Nat.mod_lt _ hD)
        rw [Nat.add_mod_mod, show (c + (y + ((s.allotment i).size - c % (s.allotment i).size))) % (s.allotment i).size = y from ?_]
          at this
        · exact this
        · have hc' : c % (s.allotment i).size < (s.allotment i).size := Nat.mod_lt _ hD
          rw [← Nat.mod_add_mod, show c % (s.allotment i).size + (y + ((s.allotment i).size - c % (s.allotment i).size)) =
            y + (s.allotment i).size by omega, Nat.add_mod_right, Nat.mod_eq_of_lt hy]
    have h1 : (s.allotment i).held + (s.allotment i).floor ≤ (s.allotment i).size := hle
    have h2 : (s.allotment i).held = s.store.heldSlots i := hheld
    have h3 : 0 < (s.allotment i).floor := hfloor
    omega
  · cases hnone

/-- A lookup answers slots the stream owns (R44). -/
theorem lookup_owner {st : Store} {i : Fin 8} {key x g : Nat} (h : st.lookup i key = some (x, g)) : st.owner x = some i := by
  unfold Store.lookup at h
  dsimp only at h
  split at h
  · split at h
    · split at h
      · rename_i hk
        cases h
        have := hk.2
        simp only [Store.holdsFrame, decide_eq_true_eq] at this
        exact this.1
      · cases h
    · cases h
  · cases h

namespace StoreSound

variable {s t : State}

theorem startFrame (h : StoreSound s) {i : Fin 8} {key : Nat} {payload : Band}
    (hs : startFrame i key payload s = .next t) : StoreSound t := by
  unfold Machine.startFrame at hs
  split at hs
  · cases hs
  · rename_i x s1 hclaim
    cases hs
    have hx := hclaim
    obtain ⟨f, c, hf, hc, -, rfl⟩ := claim_some hclaim
    have hscan : s.store.scanUnheld f (s.allotment i).size (s.allotment i).size c = some x := by
      unfold claim at hx
      dsimp only at hx
      rw [hf, hc] at hx
      dsimp only at hx
      split at hx
      · cases hx
      · rename_i hy
        cases hx
        exact hy
    have hset := h.setSlot (x := x) (r := { s.store.slot x with
      occupant := .filling key, generation := ((s.store.slot x).generation + 1) % 65536 }) Iff.rfl
    refine (hset.onAllotment i (f := fun a => { a with cursor := some (nextSlot f (s.allotment i).size x) })
      ⟨rfl, rfl, rfl, rfl⟩ fun first c' hfirst hcur h1 h2 => ⟨_, rfl, ?_⟩).of_eq rfl rfl fun j hj => ?_
    · have e1 : (s.allotment i).first = some first := hfirst
      have e2 : (s.allotment i).cursor = some c' := hcur
      rw [hf] at e1
      rw [hc] at e2
      cases e1
      cases e2
      have h2' : c < f + (s.allotment i).size := h2
      exact nextSlot_mem (by omega) (Store.scanUnheld_mem ⟨h1, h2'⟩ hscan).1
    · rw [State.stream_onStream] at hj
      split at hj
      · rename_i e; subst e; exact hj
      · exact hj

theorem continueFrame (h : StoreSound s) (i : Fin 8) (a : Assembly) (payload : Band) :
    StoreSound (continueFrame i a payload s) := by
  have hw : StoreSound (s.onStore (Store.writeBand a.slot a.next payload)) := h.of_eq rfl rfl fun _ => id
  unfold Machine.continueFrame
  dsimp only
  split
  · have hset := hw.setSlot (x := a.slot)
      (r := { (s.onStore (Store.writeBand a.slot a.next payload)).store.slot a.slot with occupant := .full a.key }) Iff.rfl
    have hdir := hset.onAllotment i
      (f := fun b => { b with directory := b.directory.insert (a.key % b.size) (a.key, a.slot) })
      ⟨rfl, rfl, rfl, rfl⟩ fun _ c _ hc h1 h2 => ⟨c, hc, h1, h2⟩
    unfold commitFrame
    refine StoreSound.recomputeRecall (s := State.onStream i _ _) (hdir.of_eq rfl rfl fun j hj => ?_) i
    rw [State.stream_onStream] at hj
    split at hj
    · rename_i e; subst e; exact hj
    · exact hj
  · refine hw.of_eq rfl rfl fun j hj => ?_
    rw [State.stream_onStream] at hj
    split at hj
    · rename_i e; subst e; exact hj
    · exact hj

/-- A slot of a stream becomes held or unheld, and the stream's held count follows. -/
theorem setHeld (h : StoreSound s) {x : Nat} {r : Slot} {i : Fin 8} {n : Nat} (howner : s.store.owner x = some i)
    (hn : n + heldPart i (some i) (s.store.slot x).holds = (s.allotment i).held + heldPart i (some i) r.holds)
    (hle : n + (s.allotment i).floor ≤ (s.allotment i).size) :
    StoreSound ((s.onStore (Store.setSlot x r)).onAllotment i fun a => { a with held := n }) := by
  have ha (j : Fin 8) : ((s.onStore (Store.setSlot x r)).onAllotment i fun a => { a with held := n }).allotment j =
      if j = i then { s.allotment i with held := n } else s.allotment j := State.allotment_onAllotment _ _ _ _
  have hranges (j : Fin 8) :
      (((s.onStore (Store.setSlot x r)).onAllotment i fun a => { a with held := n }).allotment j).size = (s.allotment j).size ∧
      (((s.onStore (Store.setSlot x r)).onAllotment i fun a => { a with held := n }).allotment j).first = (s.allotment j).first ∧
      (((s.onStore (Store.setSlot x r)).onAllotment i fun a => { a with held := n }).allotment j).floor = (s.allotment j).floor := by
    rw [ha]
    split
    · rename_i e; subst e; exact ⟨rfl, rfl, rfl⟩
    · exact ⟨rfl, rfl, rfl⟩
  refine h.of_ranges hranges ?_ (fun j => ?_) (fun j => ?_) (fun j first c _ hc h1 h2 => ?_) h.2.2
  · show (Store.setSlot x r s.store).slots.wf
    unfold Store.setSlot
    dsimp only
    split
    · exact Table.wf_erase h.1 _
    · exact Table.wf_insert h.1 _ _
  · have hcongr : ((s.onStore (Store.setSlot x r)).onAllotment i fun a => { a with held := n }).store.heldSlots j =
        (s.store.setSlot x r).heldSlots j :=
      Store.heldSlots_congr (st := s.store.setSlot x r)
        (st' := ((s.onStore (Store.setSlot x r)).onAllotment i fun a => { a with held := n }).store) rfl
        (Store.owner_congr fun k => ⟨(hranges k).1, (hranges k).2.1⟩) j
    have hsum := Store.heldSlots_setSlot h.1 x r j
    rw [howner] at hsum
    rw [hcongr, ha]
    split
    · rename_i e
      subst e
      have := h.held_eq j
      show n = _
      omega
    · rename_i e
      have hpart (m : Nat) : heldPart j (some i) m = 0 := if_neg fun h => e (Option.some.inj h.1).symm
      rw [hpart, hpart] at hsum
      exact (h.held_eq j).trans hsum.symm
  · rw [ha]
    split
    · exact hle
    · exact h.held_le j
  · rw [ha]
    split
    · rename_i e; subst e; exact ⟨c, hc, h1, h2⟩
    · exact ⟨c, hc, h1, h2⟩

theorem releaseHold (h : StoreSound s) (x : Nat) : StoreSound (releaseHold s x) := by
  rw [releaseHold_cases]
  split
  · rename_i i hone howner
    have hle := h.held_le i
    have hown : 1 ≤ (s.allotment i).held := by
      have := Store.heldSlots_setSlot h.1 x { s.store.slot x with holds := 0 } i
      rw [howner, hone] at this
      have hpos := h.held_eq i
      simp [heldPart] at this
      omega
    refine h.setHeld (n := (s.allotment i).held - 1) howner ?_ ?_
    · rw [hone]
      simp [heldPart]
      omega
    · omega
  · rename_i hno
    by_cases hone : (s.store.slot x).holds = 1
    · have howner : s.store.owner x = none := by
        cases ho : s.store.owner x with
        | none => rfl
        | some i => exact absurd ho (hno i hone)
      refine h.of_ranges (t := s.onStore (Store.setSlot x { s.store.slot x with holds := (s.store.slot x).holds - 1 }))
        (fun _ => ⟨rfl, rfl, rfl⟩) ?_ (fun j => ?_) h.held_le (fun _ _ c _ hc h1 h2 => ⟨c, hc, h1, h2⟩) h.2.2
      · show (Store.setSlot x _ s.store).slots.wf
        unfold Store.setSlot
        dsimp only
        split
        · exact Table.wf_erase h.1 _
        · exact Table.wf_insert h.1 _ _
      · have hsum := Store.heldSlots_setSlot h.1 x { s.store.slot x with holds := (s.store.slot x).holds - 1 } j
        rw [howner] at hsum
        have hpart (m : Nat) : heldPart j none m = 0 := if_neg fun h => nomatch h.1
        rw [hpart, hpart] at hsum
        exact (h.held_eq j).trans hsum.symm
    · exact h.setSlot (show 0 < (s.store.slot x).holds - 1 ↔ 0 < (s.store.slot x).holds by omega)

theorem releaseHolds (h : StoreSound s) (slots : List Nat) : StoreSound (releaseHolds slots s) := by
  unfold Machine.releaseHolds
  have hfold (l : List Nat) (u : State) (hu : StoreSound u) : StoreSound (l.foldl Machine.releaseHold u) := by
    induction l generalizing u with
    | nil => exact hu
    | cons x l ih => exact ih _ (hu.releaseHold x)
  dsimp only
  generalize slots.foldl Machine.releaseHold s = u, hfold slots s h = hu
  induction allEight generalizing u with
  | nil => exact hu
  | cons i l ih =>
    rw [List.foldl_cons]
    split
    · exact ih u hu
    · exact ih _ (hu.recomputeRecall i)

theorem takeHold (h : StoreSound s) {i : Fin 8} {key : Nat} {r : HoldResult} (ht : takeHold i key s = (r, t)) :
    StoreSound t := by
  obtain ⟨-, h'⟩ | ⟨x, g, hl, h' | h' | ⟨hzero, hroom, h'⟩ | ⟨hpos, -, h'⟩⟩ := takeHold_cases i key s
  · rw [h'] at ht; cases ht; exact h
  · rw [h'.2] at ht; cases ht; exact h
  · rw [h'.2.2] at ht; cases ht; exact h
  · rw [h'] at ht
    cases ht
    refine StoreSound.recomputeRecall ?_ i
    refine h.setHeld (n := (s.allotment i).held + 1) (lookup_owner hl) ?_ ?_
    · simp [heldPart, hzero]
    · have hle := h.held_le i
      unfold Allotment.unheld at hroom
      omega
  · rw [h'] at ht
    cases ht
    exact h.setSlot (show 0 < (s.store.slot x).holds + 1 ↔ 0 < (s.store.slot x).holds by omega)

end StoreSound

end Sys2Proof.Machine
end

section
/-! PROOFS. With a sound Frame Store no step stops, and the store stays sound (R33, R34, R38, R40). -/

namespace Sys2Proof.Machine

/-! ## A configured store is sound (R34) -/

theorem rangeStart_add_le {p : Eight (Nat × Nat)} {i j : Fin 8} (h : i < j) :
    rangeStart p i + (p.get i).1 ≤ rangeStart p j := by
  unfold rangeStart
  rw [← Finset.add_sum_erase _ (fun n => if n < j then (p.get n).1 else 0) (Finset.mem_univ i), if_pos h, Nat.add_comm,
    ← Finset.add_sum_erase _ (fun n => if n < i then (p.get n).1 else 0) (Finset.mem_univ i), if_neg (lt_irrefl i),
    Nat.zero_add]
  refine Nat.add_le_add_left (Finset.sum_le_sum fun n _ => ?_) _
  split
  · rw [if_pos (lt_trans ‹_› h)]
  · exact Nat.zero_le _

theorem owns_layOut {start x : Nat} {q : Nat × Nat} (h : (layOut start q).owns x = true) : start ≤ x ∧ x < start + q.1 := by
  unfold layOut at h
  split at h
  · cases h
  · exact of_decide_eq_true h

/-- In the layout each slot of a stream's range is that stream's. -/
theorem owner_configure {pairs : Eight (Nat × Nat)} {st : Store} {i : Fin 8} {x : Nat}
    (h : ((layOutAll pairs).get i).owns x = true) : (st.configure pairs).owner x = some i := by
  unfold Store.owner
  cases hf : allEight.find? fun j => ((st.configure pairs).allotments.get j).owns x with
  | none => exact absurd h (List.find?_eq_none.mp hf i (mem_allEight i))
  | some j =>
    have hj : ((layOutAll pairs).get j).owns x = true := List.find?_some (p := fun j => ((layOutAll pairs).get j).owns x) hf
    rw [layOutAll_get] at h hj
    obtain ⟨h1, h2⟩ := owns_layOut h
    obtain ⟨h3, h4⟩ := owns_layOut hj
    rcases lt_trichotomy i j with hlt | rfl | hlt
    · have := rangeStart_add_le (p := pairs) hlt
      omega
    · rfl
    · have := rangeStart_add_le (p := pairs) hlt
      omega

theorem storeSound_configure {pairs : Eight (Nat × Nat)} {s t : State}
    (h : configureStoreCheck (Eight.toList pairs) s = none) (ht : t.store = s.store.configure pairs)
    (hstreams : t.streams = forgetKeys s.streams) : StoreSound t := by
  classical
  rw [configureStoreCheck_eq] at h
  have hok : ¬ Malformed pairs := fun hm => by rw [if_pos hm] at h; cases h
  have hfree : ¬ StoreInUse s := fun hu => by rw [if_neg hok, if_pos hu] at h; cases h
  have hslots : (s.store.configure pairs).heldSlots = fun _ => 0 := rfl
  refine ⟨ht ▸ Table.wf_nil, fun i => ?_, fun i hi => ?_⟩
  · rw [ht]
    have hget : (s.store.configure pairs).allotments.get i = layOut (rangeStart pairs i) (pairs.get i) := layOutAll_get _ _
    refine ⟨?_, ?_, fun hpos => ?_, fun x hx => owner_configure hx⟩
    · rw [hget, hslots]
      unfold layOut
      split <;> rfl
    · rw [hget]
      unfold layOut
      split
      · exact le_rfl
      · rename_i hne
        have := (not_or.mp (not_or.mp hok).2).2
        have hfl : ¬ ((pairs.get i).2 < 64 ∨ (pairs.get i).1 / 2 < (pairs.get i).2) := fun hbad => this ⟨i, hne, hbad⟩
        show 0 + (pairs.get i).2 ≤ (pairs.get i).1
        omega
    · rw [hget] at hpos ⊢
      unfold layOut at hpos ⊢
      split
      · rename_i h0
        rw [if_pos h0] at hpos
        exact absurd hpos (lt_irrefl 0)
      · rename_i hne
        have := (not_or.mp (not_or.mp hok).2).2
        have hfl : ¬ ((pairs.get i).2 < 64 ∨ (pairs.get i).1 / 2 < (pairs.get i).2) := fun hbad => this ⟨i, hne, hbad⟩
        exact ⟨by show 0 < (pairs.get i).2; omega, _, _, rfl, rfl, le_rfl, Nat.lt_add_of_pos_right (Nat.pos_of_ne_zero hne)⟩
  · have hst : t.stream i = (s.stream i).forget := by
      unfold State.stream
      rw [hstreams, forgetKeys_get]
    rw [hst] at hi
    exact absurd (Or.inl ⟨i, hi⟩) hfree

theorem allotment_resetBlocks (id : Nat) (links : Two Link) (s : State) (i : Fin 8) :
    (resetBlocks id links s).allotment i = {} := by fin_cases i <;> rfl

theorem storeSound_resetBlocks (id : Nat) (links : Two Link) (s : State) : StoreSound (resetBlocks id links s) := by
  refine ⟨Table.wf_nil, fun i => ?_, fun i hi => ?_⟩
  · have ha : (resetBlocks id links s).store.allotments.get i = {} := allotment_resetBlocks id links s i
    unfold Store.soundFor
    rw [ha]
    exact ⟨rfl, le_rfl, fun h => absurd h (lt_irrefl 0), nofun⟩
  · rw [stream_resetBlocks] at hi
    cases hi

/-! ## Every change keeps the store sound -/

theorem Change.storeSound {S : Scope} {s t : State} (h : Change S s t) (hs : StoreSound s) : StoreSound t := by
  have hclips {u v : State} (hu : StoreSound u) (hv : ∃ c, v = { u with clips := c }) : StoreSound v := by
    obtain ⟨c, rfl⟩ := hv
    exact hu.of_store rfl rfl
  have hstream (i : Fin 8) (f : Stream → Stream)
      (hf : (f (s.stream i)).enabled = true → (s.stream i).enabled = true ∨ 0 < (s.allotment i).size) :
      StoreSound (s.onStream i f) := by
    obtain ⟨h1, h2, h3⟩ := hs
    refine ⟨h1, h2, fun j hj => ?_⟩
    rw [State.stream_onStream] at hj
    split at hj
    · rename_i e
      subst e
      exact (hf hj).elim (h3 j) id
    · exact h3 j hj
  have hidle {u : State} (hu : StoreSound u) : StoreSound (idleEngine u) := hu.of_store rfl rfl
  cases h with
  | streamCounters i a b c => exact hstream i _ .inl
  | abandon i => exact hs.abandon i
  | startFrame i key payload _ _ _ _ h => exact hs.startFrame h
  | continueFrame i a payload => exact hs.continueFrame i a payload
  | enable i l sourceId k _ _ hsize => exact hstream i _ fun _ => .inr hsize
  | disable i => exact hstream i _ nofun
  | configureStore hS pairs h => exact storeSound_configure h rfl rfl
  | closeClips time =>
    obtain ⟨_, _, h, -⟩ := closeClips_eq time s
    exact hs.of_store (by rw [h]) (by rw [h])
  | drop id c => exact (hs.releaseHolds c.heldSlots).of_store (removeClip_store _ _ _) (removeClip_streams _ _ _)
  | completeWalk hS id => exact hidle (hclips hs (onClip_eq id _ s))
  | holdEntered i key x t w c p l hw hc hp hl h => exact (hs.takeHold h).of_store rfl rfl
  | unwind hS w => exact hidle (hclips (hs.releaseHolds _) (onClip_eq _ _ _))
  | fragment hS i key x t w hw h => exact hidle (hclips ((hs.takeHold h).releaseHolds _) (onClip_eq _ _ _))
  | strayHold i key x t h => exact hs.takeHold h
  | release id c p => exact hclips (hs.releaseHolds _) (onClip_eq _ _ _)
  | bind ch hS f b p =>
    exact (hclips (hclips hs (leaveClip_eq _ s)) (joinClip_eq b _)).of_store rfl rfl
  | resetChannel ch hS => exact (hclips hs (leaveClip_eq _ s)).of_store rfl rfl
  | runOn ch hS => exact (hclips hs (leaveClip_eq _ s)).of_store rfl rfl
  | reads => exact hs.of_eq rfl rfl fun _ => id
  | errors n => exact hs.of_eq rfl rfl fun _ => id
  | clearCounters =>
    refine hs.of_eq rfl rfl fun i hi => ?_
    rw [stream_clearCounters] at hi
    exact hi
  | reset hS id links held => exact (storeSound_resetBlocks id links s).of_store rfl rfl
  | _ => exact hs.of_store rfl rfl

end Sys2Proof.Machine

namespace Sys2Proof.Proofs

open Sys2Proof.Machine

/-- Settles O10: every change keeps the store sound, and a claim of an enabled stream of a sound store finds a slot. -/
theorem soundStoreNeverFaults : Obligations.SoundStoreNeverFaults := by
  intro s hs
  have hkeeps {u v : State} (h : Changes .all u v) (hu : StoreSound u) : StoreSound v :=
    h.keeps (fun _ _ hc => hc.storeSound) hu
  obtain ⟨p, ⟨t, h, hc⟩ | ⟨-, t, i, key, hc, hen, hclaim⟩⟩ := step_changes s
  · exact ⟨t, h, hkeeps hc hs⟩
  · exact absurd hclaim ((hkeeps hc hs).claim_ne_none hen key)

end Sys2Proof.Proofs
end

section
/-! PROOFS. The clips of a change, id by id, and the use counts (R59). -/

namespace Sys2Proof.Machine

/-! ## A clip after each operation on the table -/

section
variable (s : State) (id j : Nat)

theorem clip_onClip (f : Clip → Clip) :
    (s.onClip id f).clip j = if j = id then (s.clip id).map f else s.clip j := by
  cases h : s.clip id with
  | none =>
    have hs : s.onClip id f = s := by
      unfold State.onClip
      rw [show s.clips.find id = none from h]
    rw [hs]
    split
    · rename_i e
      subst e
      exact h
    · rfl
  | some c => rw [State.onClip_of_some h, clip_insert]; rfl

theorem clip_of_clips {s t : State} (h : t.clips = s.clips) (j : Nat) : t.clip j = s.clip j := by
  unfold State.clip
  rw [h]

theorem clip_removeClip (c : Clip) : (removeClip id c s).clip j = if j = id then none else s.clip j := by
  have hc : (removeClip id c s).clips = s.clips.erase id := by
    unfold removeClip
    dsimp only
    split <;> rfl
  rw [State.clip, hc, Table.find_erase]
  rfl

/-- A clip with another use count. -/
def Clip.withUse (n : Nat) (c : Clip) : Clip := { c with useCount := n }

theorem clip_leaveClip (b : Binding) : (leaveClip b s).clip j =
    if b.clipId = some j then (s.clip j).map fun c => c.withUse (c.useCount - 1) else s.clip j := by
  cases b with
  | clip k a =>
    have h : leaveClip (.clip k a) s = s.onClip k fun c => c.withUse (c.useCount - 1) := rfl
    rw [h, clip_onClip]
    by_cases hj : j = k
    · subst hj; simp [Binding.clipId]
    · rw [if_neg hj, if_neg (by simpa [Binding.clipId] using Ne.symm hj)]
  | unbound => rfl
  | free => rfl

theorem clip_joinClip (b : Binding) : (joinClip b s).clip j =
    if b.clipId = some j then (s.clip j).map fun c => c.withUse (c.useCount + 1) else s.clip j := by
  cases b with
  | clip k a =>
    have h : joinClip (.clip k a) s = s.onClip k fun c => c.withUse (c.useCount + 1) := rfl
    rw [h, clip_onClip]
    by_cases hj : j = k
    · subst hj; simp [Binding.clipId]
    · rw [if_neg hj, if_neg (by simpa [Binding.clipId] using Ne.symm hj)]
  | unbound => rfl
  | free => rfl

end

theorem joinClip_of_clipId_none {b : Binding} (h : b.clipId = none) (s : State) : joinClip b s = s := by
  cases b with
  | clip => cases h
  | _ => rfl

/-! ## Closing clips, one at a time (R66) -/

/-- A property that the closing of one clip keeps is kept by the closings of a boundary. -/
theorem closeClips_keeps {P : State → Prop} {time : Nat} {s : State} (hwf : s.clips.wf)
    (hP : ∀ u id c out e, P u → u.clip id = some c → c.state = .closing → c.outPoint = some out → out ≤ time →
      P { u with clips := u.clips.insert id { c with state := .closed }, endpoint := e })
    (hs : P s) : P (closeClips time s) := by
  have hperm := clipList_perm s.clips
  have hlisted : ∀ e ∈ clipList s.clips, s.clip e.1 = some e.2 := fun e he =>
    Table.find_of_mem hwf (hperm.mem_iff.mp he)
  have hnodup : (clipList s.clips).Pairwise fun a b => a.1 ≠ b.1 :=
    List.pairwise_map.mp ((hperm.map Prod.fst).nodup_iff.mpr (List.Pairwise.imp Nat.ne_of_lt hwf))
  clear hperm
  unfold closeClips
  revert hlisted hnodup
  generalize clipList s.clips = l
  intro hlisted hnodup
  induction l generalizing s with
  | nil => exact hs
  | cons a l ih =>
    obtain ⟨hne, hnodup⟩ := List.pairwise_cons.mp hnodup
    have ha := hlisted a List.mem_cons_self
    have hrest (u : State) (hu : ∀ j, j ≠ a.1 → u.clip j = s.clip j) (e : Nat × Clip) (he : e ∈ l) : u.clip e.1 = some e.2 :=
      (hu e.1 (hne e he).symm).trans (hlisted e (List.mem_cons_of_mem _ he))
    rw [List.foldl_cons]
    unfold closeClip
    split
    · rename_i out hst hout
      split
      · rename_i hle
        refine ih (Table.wf_insert hwf _ _) (hP s a.1 a.2 out _ hs ha hst hout hle) (hrest _ fun j hj => ?_) hnodup
        rw [State.clip_eq, raise_clips, Table.find_insert, if_neg hj]
        rfl
      · exact ih hwf hs (hrest s fun _ _ => rfl) hnodup
    · exact ih hwf hs (hrest s fun _ _ => rfl) hnodup

/-! ## Use counts -/

/-- A channel's part in a clip's use count. -/
def Channel.uses (c : Channel) (id : Nat) : Nat := if c.binding.clipId = some id then 1 else 0

theorem State.usersOf_eq_sum (s : State) (id : Nat) : s.usersOf id = (allFour.map fun ch => (s.channel ch).uses id).sum := by
  rw [State.usersOf, length_filter_eq_sum]
  simp only [decide_eq_true_eq]
  rfl

theorem usersOf_congr {s t : State} (h : ∀ ch, (t.channel ch).binding.clipId = (s.channel ch).binding.clipId) (id : Nat) :
    t.usersOf id = s.usersOf id := by
  unfold State.usersOf
  simp only [h]

/-- Rebinding one channel changes a use count by that channel's part. -/
theorem usersOf_rebind {s t : State} {ch : Fin 4} (h : ∀ j, j ≠ ch → t.channel j = s.channel j) (id : Nat) :
    t.usersOf id + (s.channel ch).uses id = s.usersOf id + (t.channel ch).uses id := by
  rw [State.usersOf_eq_sum, State.usersOf_eq_sum]
  have hj (j : Fin 4) (hne : j ≠ ch) : (t.channel j).uses id = (s.channel j).uses id := by rw [h j hne]
  fin_cases ch <;> simp only [allFour, List.map_cons, List.map_nil, List.sum_cons, List.sum_nil] <;>
    simp (disch := decide) only [hj, Fin.zero_eta, Fin.mk_one, Fin.reduceFinMk] <;> omega

namespace UseCountsMatch

variable {s t : State}

theorem of_same (h : UseCountsMatch s) (hwf : t.clips.wf)
    (hclips : ∀ id, (t.clip id).map Clip.useCount = (s.clip id).map Clip.useCount)
    (hch : ∀ ch, (t.channel ch).binding.clipId = (s.channel ch).binding.clipId) : UseCountsMatch t := by
  obtain ⟨-, hbound, hcount⟩ := h
  refine ⟨hwf, fun ch id hb hnone => ?_, fun id c hc => ?_⟩
  · rw [hch] at hb
    have := hclips id
    rw [hnone, Option.map_none, eq_comm, Option.map_eq_none_iff] at this
    exact hbound ch id hb this
  · rw [usersOf_congr hch]
    have := hclips id
    rw [hc, Option.map_some, eq_comm] at this
    obtain ⟨c', hc', he⟩ := Option.map_eq_some_iff.mp this
    rw [← he]
    exact hcount id c' hc'

theorem of_eq (h : UseCountsMatch s) (hclips : t.clips = s.clips) (hch : t.channels = s.channels := by rfl) :
    UseCountsMatch t :=
  h.of_same (hclips ▸ h.1) (fun id => by rw [clip_of_clips hclips]) fun ch => by unfold State.channel; rw [hch]

/-- A clip is written with its use count kept. -/
theorem insert (h : UseCountsMatch s) {id : Nat} {c c' : Clip} (hc : s.clip id = some c) (hu : c'.useCount = c.useCount) :
    UseCountsMatch { s with clips := s.clips.insert id c' } := by
  refine h.of_same (Table.wf_insert h.1 _ _) (fun j => ?_) fun _ => rfl
  rw [clip_insert]
  split
  · rename_i e
    subst e
    rw [hc, Option.map_some, Option.map_some, hu]
  · rfl

theorem onClip (h : UseCountsMatch s) (id : Nat) {f : Clip → Clip} (hf : ∀ c, (f c).useCount = c.useCount) :
    UseCountsMatch (s.onClip id f) := by
  refine h.of_same (onClip_wf h.1 _ _) (fun j => ?_) fun ch => ?_
  · rw [clip_onClip]
    split
    · rename_i e
      subst e
      cases s.clip j <;> simp [hf]
    · rfl
  · obtain ⟨c, hc⟩ := onClip_eq id f s
    rw [hc]
    rfl

/-- A clip that no channel is bound to leaves the table. -/
theorem erase (h : UseCountsMatch s) {id : Nat} {c : Clip} (hc : s.clip id = some c) (hu : c.useCount = 0) {t : State}
    (ht : ∀ j, t.clip j = if j = id then none else s.clip j) (hwf : t.clips.wf)
    (hch : t.channels = s.channels) : UseCountsMatch t := by
  obtain ⟨-, hbound, hcount⟩ := h
  have hch' (ch : Fin 4) : t.channel ch = s.channel ch := by unfold State.channel; rw [hch]
  have hfree (ch : Fin 4) : (s.channel ch).binding.clipId ≠ some id := by
    have h0 := (hcount id c hc).symm.trans hu
    intro hb
    have hmem : ch ∈ allFour.filter fun ch => decide ((s.channel ch).binding.clipId = some id) :=
      List.mem_filter.mpr ⟨mem_allFour ch, decide_eq_true hb⟩
    rw [State.usersOf, List.length_eq_zero_iff] at h0
    rw [h0] at hmem
    cases hmem
  refine ⟨hwf, fun ch j hb => ?_, fun j c' hc' => ?_⟩
  · rw [hch'] at hb
    rw [ht, if_neg]
    · exact hbound ch j hb
    · rintro rfl
      exact hfree ch hb
  · rw [ht] at hc'
    split at hc'
    · cases hc'
    · rw [usersOf_congr (s := s) fun ch => by rw [hch']]
      exact hcount j c' hc'

/-- A channel leaves its clip and joins one of the table, or none. -/
theorem rebind (h : UseCountsMatch s) {ch : Fin 4} {b : Binding} {f : Channel → Channel}
    (hf : (f (s.channel ch)).binding = b) (hb : ∀ id, b.clipId = some id → s.clip id ≠ none) :
    UseCountsMatch ((joinClip b (leaveClip (s.channel ch).binding s)).onChannel ch f) := by
  have hclip (j : Nat) : ((joinClip b (leaveClip (s.channel ch).binding s)).onChannel ch f).clip j =
      if b.clipId = some j then
        (if (s.channel ch).binding.clipId = some j then (s.clip j).map fun c => c.withUse (c.useCount - 1)
          else s.clip j).map fun c => c.withUse (c.useCount + 1)
      else if (s.channel ch).binding.clipId = some j then (s.clip j).map fun c => c.withUse (c.useCount - 1)
        else s.clip j := by
    rw [clip_of_clips (State.onChannel_clips _ _ _), clip_joinClip, clip_leaveClip]
  have hchan (j : Fin 4) : ((joinClip b (leaveClip (s.channel ch).binding s)).onChannel ch f).channel j =
      if j = ch then f (s.channel ch) else s.channel j := by
    obtain ⟨c, hc⟩ := leaveClip_eq (s.channel ch).binding s
    obtain ⟨d, hd⟩ := joinClip_eq b (leaveClip (s.channel ch).binding s)
    rw [State.channel_onChannel, hd, hc]
    rfl
  have hnone (j : Nat) : ((joinClip b (leaveClip (s.channel ch).binding s)).onChannel ch f).clip j = none ↔
      s.clip j = none := by
    rw [hclip]
    split <;> split <;> simp
  have hwf : ((joinClip b (leaveClip (s.channel ch).binding s)).onChannel ch f).clips.wf :=
    joinClip_wf (leaveClip_wf h.1 _) _
  generalize (joinClip b (leaveClip (s.channel ch).binding s)).onChannel ch f = t at hclip hchan hnone hwf
  obtain ⟨-, hbound, hcount⟩ := h
  refine ⟨hwf, fun j id hj => ?_, fun id c' hc' => ?_⟩
  · rw [Ne, hnone]
    rw [hchan] at hj
    split at hj
    · rw [hf] at hj
      exact hb id hj
    · exact hbound j id hj
  · have husers := usersOf_rebind (s := s) (t := t) (ch := ch) (fun j hj => by rw [hchan, if_neg hj]) id
    have hnew : (t.channel ch).uses id = if b.clipId = some id then 1 else 0 := by
      rw [hchan, if_pos rfl, Channel.uses, hf]
    rw [hnew, Channel.uses] at husers
    obtain ⟨c, hc⟩ : ∃ c, s.clip id = some c :=
      Option.ne_none_iff_exists'.mp fun h0 => by rw [(hnone id).mpr h0] at hc'; cases hc'
    have hcc := hcount id c hc
    rw [hclip, hc] at hc'
    have hpos : (s.channel ch).binding.clipId = some id → 0 < s.usersOf id := fun hb' =>
      List.length_pos_of_mem (List.mem_filter.mpr ⟨mem_allFour ch, decide_eq_true hb'⟩)
    by_cases h1 : b.clipId = some id <;> by_cases h2 : (s.channel ch).binding.clipId = some id <;>
      simp only [h1, h2, if_true, if_false, Option.map_some, Option.some.injEq] at hc' husers hpos <;> subst hc' <;>
      simp only [Clip.withUse, hcc, forall_const] at hpos ⊢ <;> omega

end UseCountsMatch

theorem bindTo_clip {f : BindForm} {s : State} {b : Binding} {p id : Nat} (h : bindTo f s = .ok (b, p))
    (hb : b.clipId = some id) : ∃ c, s.clip id = some c := by
  unfold bindTo at h
  split at h
  · split at h
    · cases h
    · split at h
      · cases h
      · rename_i c hc
        split at h
        · cases h
        · split at h
          · cases h
          · cases h
            cases hb
            exact ⟨c, hc⟩
  · split at h
    · cases h
    · rename_i pos _ _ _
      have hfree {lim : Bool} {g : Nat → Nat → Binding × Nat} {i : Fin 8}
          (hg : ∀ lo hi, (g lo hi).1.clipId = none)
          (hx : (if lim then .error .badArgument
            else match s.streamBounds i with
              | none => .error .notFound
              | some (lo, hi) => .ok (g lo hi)) = Except.ok (ε := Status) (b, p)) : False := by
        split at hx
        · cases hx
        · split at hx
          · cases hx
          · rename_i lo hi _
            have := hg lo hi
            rw [Except.ok.inj hx, hb] at this
            cases this
      cases pos <;> exact (hfree (fun _ _ => rfl) h).elim

theorem removeClip_channels (id : Nat) (c : Clip) (s : State) : (removeClip id c s).channels = s.channels := by
  unfold removeClip
  dsimp only
  split <;> rfl

theorem releaseHolds_channels (slots : List Nat) (s : State) : (releaseHolds slots s).channels = s.channels := by
  obtain ⟨st, h⟩ := SameButStore.releaseHolds slots s
  rw [h]

theorem Change.useCountsMatch {S : Scope} {s t : State} (h : Change S s t) (hs : UseCountsMatch s) : UseCountsMatch t := by
  have hcontents {u v : State} (hu : UseCountsMatch u) (h : SameButContents u v) : UseCountsMatch v := by
    obtain ⟨_, _, _, _, rfl⟩ := h
    exact hu.of_eq rfl
  have hidle {u : State} (hu : UseCountsMatch u) : UseCountsMatch (idleEngine u) := hu.of_eq rfl
  have hsame (f : Channel → Channel) (ch : Fin 4) (hf : (f (s.channel ch)).binding.clipId = (s.channel ch).binding.clipId) :
      UseCountsMatch (s.onChannel ch f) := by
    refine hs.of_same hs.1 (fun _ => rfl) fun j => ?_
    rw [State.channel_onChannel]
    split
    · rename_i e; subst e; exact hf
    · rfl
  cases h with
  | channel ch hS f h => exact hsame f ch h.clipId
  | abandon i => exact hcontents hs (.abandon i s)
  | startFrame i key payload _ _ _ _ h => exact hcontents hs (.startFrame h)
  | continueFrame i a payload => exact hcontents hs (.continueFrame i a payload s)
  | clip id c c' hc hk => exact hs.insert hc hk.useCount
  | remark g id time c hc => exact hs.insert hc rfl
  | closeOut g id time now c hc => exact (hs.insert hc (c' := { c with outPoint := some time, state := closedBy time now }) rfl).of_eq rfl
  | protect id c hc => exact hs.insert hc rfl
  | create id c hid huse =>
    obtain ⟨-, hnone, -⟩ := lowestFree_some hid
    obtain ⟨hwf, hbound, hcount⟩ := hs
    refine ⟨Table.wf_insert hwf _ _, fun ch j hb => ?_, fun j c' hc' => ?_⟩
    · rw [clip_insert]
      split
      · nofun
      · exact hbound ch j hb
    · rw [clip_insert] at hc'
      show c'.useCount = s.usersOf j
      split at hc'
      · rename_i e
        subst e
        cases hc'
        refine huse.trans (List.length_eq_zero_iff.mpr (List.filter_eq_nil_iff.mpr fun ch _ hb => ?_)).symm
        exact hbound ch j (of_decide_eq_true hb) hnone
      · exact hcount j c' hc'
  | recycle id c hmem hrec =>
    have hc : s.clip id = some c := Table.find_of_mem hs.1 hmem
    have huse : c.useCount = 0 := by
      simp only [recyclable, Bool.and_eq_true, decide_eq_true_eq] at hrec
      exact hrec.1.2
    exact hs.erase hc huse (fun j => Table.find_erase _ _ _) (Table.wf_erase hs.1 _) rfl
  | closeClips time =>
    exact closeClips_keeps hs.1 (fun u id c out e hu hc _ _ _ =>
      (hu.insert hc (c' := { c with state := .closed }) rfl).of_eq rfl) hs
  | drop id c hc hst huse =>
    have hr := hcontents hs (.releaseHolds c.heldSlots s)
    refine hr.erase (c := c) ?_ huse (fun j => clip_removeClip _ _ _ _) (removeClip_wf hr.1 _ _) ?_
    · rw [clip_of_clips (releaseHolds_clips _ _)]
      exact hc
    · exact (removeClip_channels _ _ _).trans (by rw [releaseHolds_channels])
  | completeWalk hS id => exact hidle (hs.onClip id fun _ => rfl)
  | holdEntered i key x t w c p l hw hc hp hl h =>
    refine (hcontents hs (.takeHold h)).insert (c := c) ?_ rfl
    rw [clip_of_clips (takeHold_clips h)]
    exact hc
  | unwind hS w => exact hidle ((hcontents hs (.releaseHolds _ s)).onClip _ fun _ => rfl)
  | fragment hS i key x t w hw h =>
    exact hidle ((hcontents (hcontents hs (.takeHold h)) (.releaseHolds _ _)).onClip _ fun _ => rfl)
  | strayHold i key x t h => exact hcontents hs (.takeHold h)
  | release id c p => exact (hcontents hs (.releaseHolds _ s)).onClip _ fun _ => rfl
  | bind ch hS f b p hb =>
    refine hs.rebind rfl fun id hid => ?_
    obtain ⟨c, hc⟩ := bindTo_clip hb hid
    rw [hc]
    nofun
  | resetChannel ch hS => exact hs.rebind (b := .unbound) rfl nofun
  | runOn ch hS tin stream => exact hs.rebind (b := .free tin stream) rfl nofun
  | clearCounters =>
    refine hs.of_same hs.1 (fun _ => rfl) fun ch => ?_
    rw [channel_clearCounters]
    rfl
  | reset hS id links held =>
    refine ⟨Table.wf_nil, fun ch j hb => ?_, nofun⟩
    have : ((resetBlocks id links s).channel ch).binding.clipId = some j := hb
    rw [channel_resetBlocks] at this
    cases this
  | _ => exact hs.of_eq rfl

end Sys2Proof.Machine

namespace Sys2Proof.Proofs

open Sys2Proof.Machine

/-- Settles O11: a link goes DOWN only with no playing channel routed to it, and a use count moves with a channel's binding. -/
theorem routesAndUseCountsHold : Obligations.RoutesAndUseCountsHold :=
  ⟨step_keeps (fun _ _ h => h.recordsKept.routes) fun _ _ h => h,
    step_keeps (fun _ _ h => h.useCountsMatch) fun _ _ h => h⟩

end Sys2Proof.Proofs
end

section
/-! PROOFS. The hold counts against the extent lists of the clips (R40, R81, R90), with the groups' open clips and the clip of
a walk (R54, R77). -/

namespace Sys2Proof.Machine

/-! ## Hold counts after each operation on the store -/

/-- No hold count changed. -/
def HoldsSame (s t : State) : Prop := ∀ y, (t.store.slot y).holds = (s.store.slot y).holds

namespace HoldsSame

variable {s t u : State}

theorem of_slots (h : t.store.slots = s.store.slots) : HoldsSame s t := fun y => by
  unfold Store.slot
  rw [h]

theorem trans (h : HoldsSame s t) (k : HoldsSame t u) : HoldsSame s u := fun y => (k y).trans (h y)

theorem setSlot {x : Nat} {r : Slot} (h : r.holds = (s.store.slot x).holds) : HoldsSame s (s.onStore (Store.setSlot x r)) := by
  intro y
  rw [State.onStore_store, Store.slot_setSlot]
  split
  · rename_i e; subst e; exact h
  · rfl

theorem abandon (i : Fin 8) (s : State) : HoldsSame s (abandon i s) := by
  unfold Machine.abandon
  split
  · exact of_slots rfl
  · exact setSlot (r := { s.store.slot _ with occupant := .empty }) rfl

theorem startFrame {i : Fin 8} {key : Nat} {payload : Band} (h : startFrame i key payload s = .next t) : HoldsSame s t := by
  unfold Machine.startFrame at h
  split at h
  · cases h
  · rename_i x s1 hclaim
    cases h
    obtain ⟨f, c, -, -, -, rfl⟩ := claim_some hclaim
    exact setSlot (x := x) (r := { s.store.slot x with
      occupant := .filling key, generation := ((s.store.slot x).generation + 1) % 65536 }) rfl

theorem continueFrame (i : Fin 8) (a : Assembly) (payload : Band) (s : State) : HoldsSame s (continueFrame i a payload s) := by
  unfold Machine.continueFrame
  dsimp only
  split
  · exact setSlot (s := s.onStore (Store.writeBand a.slot a.next payload)) (x := a.slot)
      (r := { (s.onStore (Store.writeBand a.slot a.next payload)).store.slot a.slot with occupant := .full a.key }) rfl
  · exact of_slots rfl

end HoldsSame

/-- A hold taken: one more on its slot, which had fewer than 15 (R40). -/
theorem holds_takeHold {i : Fin 8} {key x : Nat} {s t : State} (h : takeHold i key s = (.held x, t)) :
    (s.store.slot x).holds ≠ 15 ∧
      ∀ y, (t.store.slot y).holds = (s.store.slot y).holds + if y = x then 1 else 0 := by
  have hset (n : Nat) (hn : n = (s.store.slot x).holds + 1) (y : Nat) :
      ((s.store.setSlot x { s.store.slot x with holds := n }).slot y).holds =
        (s.store.slot y).holds + if y = x then 1 else 0 := by
    rw [Store.slot_setSlot]
    split
    · rename_i e; subst e; exact hn
    · rfl
  obtain ⟨-, h'⟩ | ⟨x', g, -, h' | h' | ⟨h0, -, h'⟩ | ⟨-, h15, h'⟩⟩ := takeHold_cases i key s
  · rw [h'] at h; cases h
  · rw [h'.2] at h; cases h
  · rw [h'.2.2] at h; cases h
  · rw [h'] at h
    cases h
    exact ⟨by omega, hset 1 (by omega)⟩
  · rw [h'] at h
    cases h
    exact ⟨h15, hset _ rfl⟩

theorem holds_releaseHold (s : State) (x y : Nat) :
    ((releaseHold s x).store.slot y).holds = (s.store.slot y).holds - if y = x then 1 else 0 := by
  have hset (n : Nat) (hn : n = (s.store.slot x).holds - 1) :
      ((s.store.setSlot x { s.store.slot x with holds := n }).slot y).holds =
        (s.store.slot y).holds - if y = x then 1 else 0 := by
    rw [Store.slot_setSlot]
    split
    · rename_i e; subst e; exact hn
    · rfl
  rw [releaseHold_cases]
  split
  · rename_i h1 _
    exact hset 0 (by omega)
  · exact hset _ rfl

/-- The releases of a clip lower each slot's hold count by the times it is released (R41, R84). -/
theorem holds_releaseHolds (slots : List Nat) (s : State) (y : Nat) :
    ((releaseHolds slots s).store.slot y).holds = (s.store.slot y).holds - slots.count y := by
  have hrecall (l : List (Fin 8)) (u : State) : HoldsSame u
      (l.foldl (fun t i => if (t.allotment i).held = (s.allotment i).held then t else recomputeRecall i t) u) := by
    induction l generalizing u with
    | nil => exact .of_slots rfl
    | cons i l ih =>
      refine .trans ?_ (ih _)
      dsimp only
      split <;> exact .of_slots rfl
  unfold releaseHolds
  rw [hrecall]
  clear hrecall
  induction slots generalizing s with
  | nil => rfl
  | cons x l ih =>
    rw [List.foldl_cons, ih, holds_releaseHold, List.count_cons]
    simp only [beq_iff_eq, eq_comm (a := x)]
    omega

/-! ## The slots of extent lists (R81) -/

/-- The slots of one angle's extent list. -/
def listSlots (l : List Extent) : List Nat := l.flatMap Extent.slots

theorem count_one (x y : Nat) : [x].count y = if y = x then 1 else 0 := by
  rw [List.count_singleton]
  simp only [beq_iff_eq, eq_comm (a := x)]

/-- Entering a slot in an extent list adds that slot to the list's slots. -/
theorem count_enterExtent {key x y : Nat} {l l' : List Extent} (h : enterExtent key x l = some l') :
    (listSlots l').count y = (listSlots l).count y + if y = x then 1 else 0 := by
  have happend {k : List Extent} (h : (if l.length < maxExtents then some (l ++ [⟨key, 1, x⟩]) else none) = some k) :
      (listSlots k).count y = (listSlots l).count y + if y = x then 1 else 0 := by
    split at h
    · cases h
      simp [listSlots, Extent.slots, count_one]
    · cases h
  unfold enterExtent at h
  dsimp only at h
  split at h
  · exact happend h
  · rename_i e he
    split at h
    · rename_i hnext
      cases h
      obtain ⟨l0, rfl⟩ := List.getLast?_eq_some_iff.mp he
      simp [listSlots, Extent.slots, List.range_succ, ← hnext.2, count_one, Nat.add_assoc]
    · exact happend h

/-- One list replaced changes the slots of the lists by that list's. -/
theorem count_slots_set (L : List (List Extent)) {a : Nat} (ha : a < L.length) (l : List Extent) (y : Nat) :
    ((L.set a l).flatten.flatMap Extent.slots).count y + (listSlots (L.getD a [])).count y =
      (L.flatten.flatMap Extent.slots).count y + (listSlots l).count y := by
  induction L generalizing a with
  | nil => cases ha
  | cons k L ih =>
    cases a with
    | zero =>
      simp only [List.set_cons_zero, List.flatten_cons, List.flatMap_append, List.count_append, List.getD_cons_zero, listSlots]
      omega
    | succ a =>
      have := ih (Nat.lt_of_succ_lt_succ ha)
      simp only [List.set_cons_succ, List.flatten_cons, List.flatMap_append, List.count_append, List.getD_cons_succ] at this ⊢
      omega

theorem Clip.heldSlots_eq (c : Clip) :
    c.heldSlots = (c.protection.map Protection.extents).elim [] fun L => L.flatten.flatMap Extent.slots := by
  unfold Clip.heldSlots
  cases c.protection <;> rfl

theorem Clip.heldSlots_of_extents {c c' : Clip}
    (h : c'.protection.map Protection.extents = c.protection.map Protection.extents) : c'.heldSlots = c.heldSlots := by
  rw [Clip.heldSlots_eq, Clip.heldSlots_eq, h]

/-! ## The holds of the clips -/

/-- The number of times that the clips hold a slot. -/
def State.timesHeld (s : State) (x : Nat) : Nat := (s.clips.map fun e => e.2.heldSlots.count x).sum

theorem timesHeld_insert {s : State} (hwf : s.clips.wf) {id : Nat} {c : Clip} (hc : s.clip id = some c) (c' : Clip) (x : Nat) :
    ({ s with clips := s.clips.insert id c' } : State).timesHeld x + c.heldSlots.count x =
      s.timesHeld x + c'.heldSlots.count x := by
  have := Table.sum_insert hwf (fun e => e.2.heldSlots.count x) id c'
  rw [show s.clips.find id = some c from hc] at this
  exact this

theorem timesHeld_create {s : State} (hwf : s.clips.wf) {id : Nat} (hc : s.clip id = none) (c' : Clip) (x : Nat) :
    ({ s with clips := s.clips.insert id c' } : State).timesHeld x = s.timesHeld x + c'.heldSlots.count x := by
  have := Table.sum_insert hwf (fun e => e.2.heldSlots.count x) id c'
  rw [show s.clips.find id = none from hc] at this
  exact this

theorem timesHeld_erase {s : State} (hwf : s.clips.wf) {id : Nat} {c : Clip} (hc : s.clip id = some c) (x : Nat) :
    ({ s with clips := s.clips.erase id } : State).timesHeld x + c.heldSlots.count x = s.timesHeld x := by
  have := Table.sum_erase hwf (fun e => e.2.heldSlots.count x) id
  rw [show s.clips.find id = some c from hc] at this
  exact this

theorem timesHeld_of_clips {s t : State} (h : t.clips = s.clips) (x : Nat) : t.timesHeld x = s.timesHeld x := by
  unfold State.timesHeld
  rw [h]

/-- A clip record that keeps what its group, the walk and the holds ask of it. -/
structure ClipFixed (c c' : Clip) : Prop where
  group : c'.group = c.group
  state : c'.state = c.state
  angles : c'.angles = c.angles
  extents : c'.protection.map Protection.extents = c.protection.map Protection.extents

namespace ClipsSound

variable {s t : State}

theorem of_eq (h : ClipsSound s) (hclips : t.clips = s.clips) (hgroups : ∀ g, (t.group g).openClip = (s.group g).openClip) :
    ClipsSound t := by
  obtain ⟨h1, h2⟩ := h
  refine ⟨fun g id hg => ?_, fun id c hc => ?_⟩
  · rw [clip_of_clips hclips]
    exact h1 g id (hgroups g ▸ hg)
  · exact h2 id c (clip_of_clips hclips id ▸ hc)

/-- The clip after a write of one clip of the table. -/
theorem insert (h : ClipsSound s) {id : Nat} {c' : Clip}
    (hopen : ∀ g, (s.group g).openClip = some id → c'.state = .opened ∧ c'.group = g)
    (hprot : c'.protection ≠ none ↔ c'.state = .protecting ∨ c'.state = .protected_) :
    ClipsSound { s with clips := s.clips.insert id c' } := by
  obtain ⟨h1, h2⟩ := h
  refine ⟨fun g j hg => ?_, fun j k hk => ?_⟩
  · rw [clip_insert]
    split
    · rename_i e
      subst e
      exact ⟨c', rfl, hopen g hg⟩
    · exact h1 g j hg
  · rw [clip_insert] at hk
    split at hk
    · cases hk
      exact hprot
    · exact h2 j k hk

/-- A clip that is not OPEN is no group's open clip. -/
theorem not_open (h : ClipsSound s) {id : Nat} {c : Clip} (hc : s.clip id = some c) (hst : c.state ≠ .opened) (g : Fin 4) :
    (s.group g).openClip ≠ some id := by
  intro hg
  obtain ⟨c', hc', ho, -⟩ := h.1 g id hg
  rw [hc] at hc'
  cases hc'
  exact hst ho

end ClipsSound

namespace WalkSound

variable {s t : State}

theorem of_eq (h : WalkSound s) (hclips : t.clips = s.clips) (hwalk : t.engine.walk = s.engine.walk) : WalkSound t := by
  intro w hw
  obtain ⟨c, p, hc, hrest⟩ := h w (hwalk ▸ hw)
  exact ⟨c, p, (clip_of_clips hclips _).trans hc, hrest⟩

theorem idle {s : State} : WalkSound (idleEngine s) := nofun

/-- A clip that is not PROTECTING is not the walk's. -/
theorem insert_ne (h : WalkSound s) {id : Nat} {c c' : Clip} (hc : s.clip id = some c ∨ s.clip id = none)
    (hst : ∀ c, s.clip id = some c → c.state ≠ .protecting) : WalkSound { s with clips := s.clips.insert id c' } := by
  intro w hw
  obtain ⟨k, p, hk, hs, hrest⟩ := h w hw
  refine ⟨k, p, ?_, hs, hrest⟩
  rw [clip_insert, if_neg]
  · exact hk
  · rintro rfl
    exact hst k hk hs

end WalkSound

namespace HoldsMatchClips

variable {s t : State}

theorem holds_eq (h : HoldsMatchClips s) (x : Nat) : (s.store.slot x).holds = s.timesHeld x := h.2.2.2 x

/-- An operation that leaves the clips, the open clips, the walk and the hold counts. -/
theorem of_eq (h : HoldsMatchClips s) (hclips : t.clips = s.clips)
    (hgroups : ∀ g, (t.group g).openClip = (s.group g).openClip) (hwalk : t.engine.walk = s.engine.walk)
    (hholds : HoldsSame s t) : HoldsMatchClips t := by
  obtain ⟨hwf, hsound, hw, hx⟩ := h
  refine ⟨hclips ▸ hwf, hsound.of_eq hclips hgroups, hw.of_eq hclips hwalk, fun x => ?_⟩
  rw [hholds, hclips]
  exact hx x

/-- A clip is written whose extent lists hold the same slots. -/
theorem write (h : HoldsMatchClips s) {id : Nat} {c c' : Clip} (hc : s.clip id = some c)
    (hheld : c'.heldSlots = c.heldSlots) (hsound : ClipsSound { s with clips := s.clips.insert id c' })
    (hwalk : WalkSound { s with clips := s.clips.insert id c' }) :
    HoldsMatchClips { s with clips := s.clips.insert id c' } := by
  refine ⟨Table.wf_insert h.1 _ _, hsound, hwalk, fun x => ?_⟩
  have hsum := timesHeld_insert h.1 hc c' x
  rw [hheld] at hsum
  exact (h.holds_eq x).trans (Nat.add_right_cancel hsum).symm

/-- A clip is written that keeps its group, state, angles and extent lists. -/
theorem rewrite (h : HoldsMatchClips s) {id : Nat} {c c' : Clip} (hc : s.clip id = some c) (hf : ClipFixed c c') :
    HoldsMatchClips { s with clips := s.clips.insert id c' } := by
  have hsound := h.2.1
  have hwalk := h.2.2.1
  obtain ⟨hg, hst, hang, hext⟩ := hf
  refine h.write hc (Clip.heldSlots_of_extents hext) (hsound.insert (fun g ho => ?_) ?_) fun w hw => ?_
  · obtain ⟨k, hk, hs, hkg⟩ := hsound.1 g id ho
    rw [hc] at hk
    cases hk
    exact ⟨hst.trans hs, hg.trans hkg⟩
  · have hnone : c'.protection = none ↔ c.protection = none := by
      rw [← Option.map_eq_none_iff (f := Protection.extents), hext, Option.map_eq_none_iff]
    rw [Ne, hnone, hst]
    exact hsound.2 id c hc
  · obtain ⟨k, p, hk, hs, hp, hrest⟩ := hwalk w hw
    by_cases hid : w.clip = id
    · rw [hid, hc] at hk
      cases hk
      obtain ⟨p', hp', he⟩ := Option.map_eq_some_iff.mp (hext.trans (congrArg _ hp))
      refine ⟨c', p', by rw [hid, clip_insert, if_pos rfl], hst.trans hs, hp', ?_⟩
      rw [he, hang]
      exact hrest
    · exact ⟨k, p, by rw [clip_insert, if_neg hid]; exact hk, hs, hp, hrest⟩

theorem onClip (h : HoldsMatchClips s) (id : Nat) {f : Clip → Clip} (hf : ∀ c, ClipFixed c (f c)) :
    HoldsMatchClips (s.onClip id f) := by
  cases hc : s.clip id with
  | none =>
    unfold State.onClip
    rw [show s.clips.find id = none from hc]
    exact h
  | some c =>
    rw [State.onClip_of_some hc]
    exact h.rewrite hc (hf c)

theorem withUse (n : Nat) (c : Clip) : ClipFixed c (c.withUse n) := ⟨rfl, rfl, rfl, rfl⟩

theorem leaveClip (h : HoldsMatchClips s) (b : Binding) : HoldsMatchClips (leaveClip b s) := by
  cases b with
  | clip k a => exact h.onClip k (f := fun c => c.withUse (c.useCount - 1)) fun c => withUse _ c
  | unbound => exact h
  | free => exact h

theorem joinClip (h : HoldsMatchClips s) (b : Binding) : HoldsMatchClips (joinClip b s) := by
  cases b with
  | clip k a => exact h.onClip k (f := fun c => c.withUse (c.useCount + 1)) fun c => withUse _ c
  | unbound => exact h
  | free => exact h

/-- A PROTECTING or PROTECTED clip is CLOSED and its holds are released. -/
theorem released (h : HoldsMatchClips s) {id : Nat} {c : Clip} (hc : s.clip id = some c)
    (hst : c.state = .protecting ∨ c.state = .protected_) {t : State} (hclips : t.clips = s.clips)
    (hgroups : t.groups = s.groups) (hholds : ∀ x, (t.store.slot x).holds = (s.store.slot x).holds - c.heldSlots.count x) :
    (t.onClip id fun c => { c with state := .closed, protection := none }).clips.wf ∧
      ClipsSound (t.onClip id fun c => { c with state := .closed, protection := none }) ∧
      ∀ x, ((t.onClip id fun c => { c with state := .closed, protection := none }).store.slot x).holds =
        (t.onClip id fun c => { c with state := .closed, protection := none }).timesHeld x := by
  have hct : t.clip id = some c := (clip_of_clips hclips id).trans hc
  have hwf : t.clips.wf := hclips ▸ h.1
  have hne : c.state ≠ .opened := by rcases hst with h | h <;> simp [h]
  have hsound : ClipsSound t := h.2.1.of_eq hclips fun g => by unfold State.group; rw [hgroups]
  rw [State.onClip_of_some hct]
  refine ⟨Table.wf_insert hwf _ _, hsound.insert (fun g hg => absurd hg (hsound.not_open hct hne g)) (by simp), fun x => ?_⟩
  have hsum := timesHeld_insert hwf hct { c with state := .closed, protection := none } x
  rw [timesHeld_of_clips hclips, ← h.holds_eq] at hsum
  show (t.store.slot x).holds = _
  rw [hholds]
  have hnil : ({ c with state := .closed, protection := none } : Clip).heldSlots.count x = 0 := rfl
  omega

end HoldsMatchClips

end Sys2Proof.Machine
end

section
/-! PROOFS. Every step keeps the hold counts equal to the times that clips hold a slot, at most 15, and clip ids below 512. -/

namespace Sys2Proof.Machine

theorem takeHold_rest {i : Fin 8} {key : Nat} {s t : State} {r : HoldResult} (h : takeHold i key s = (r, t)) :
    t.clips = s.clips ∧ t.groups = s.groups ∧ t.engine = s.engine := by
  obtain ⟨_, _, _, _, rfl⟩ := SameButContents.takeHold h
  exact ⟨rfl, rfl, rfl⟩

theorem releaseHolds_engine (slots : List Nat) (s : State) : (releaseHolds slots s).engine = s.engine := by
  obtain ⟨st, h⟩ := SameButStore.releaseHolds slots s
  rw [h]

/-- A clip that leaves the table empties its group's open clip when it was that. -/
theorem group_removeClip (id : Nat) (c : Clip) (s : State) (g : Fin 4) : (removeClip id c s).group g =
    if g = c.group ∧ (s.group c.group).openClip = some id then { s.group g with openClip := none } else s.group g := by
  unfold removeClip
  dsimp only
  by_cases h : (s.group c.group).openClip = some id
  · rw [if_pos h, State.group_onGroup]
    by_cases hg : g = c.group
    · subst hg
      rw [if_pos rfl, if_pos ⟨rfl, h⟩]
      rfl
    · rw [if_neg hg, if_neg fun h' => hg h'.1]
      rfl
  · rw [if_neg h, if_neg fun h' => h h'.2]
    rfl

/-- A hold is entered in the walk's clip (R80, R81). -/
theorem HoldsMatchClips.entered {s t : State} (hs : HoldsMatchClips s) {i : Fin 8} {key x k : Nat} {w : Walk} {c : Clip}
    {p : Protection} {l : List Extent} (hw : s.engine.walk = some w) (hc : s.clip w.clip = some c) (hp : c.protection = some p)
    (hl : enterExtent k x (p.extents.getD w.angle []) = some l) (h : takeHold i key s = (.held x, t)) :
    HoldsMatchClips { t with
      clips := t.clips.insert w.clip { c with protection := some { p with extents := p.extents.set w.angle l } } } := by
  obtain ⟨hclips, hgroups, hengine⟩ := takeHold_rest h
  obtain ⟨-, hheld⟩ := holds_takeHold h
  obtain ⟨c', p', hc', hst, hp', hangle, hrest⟩ := hs.2.2.1 w hw
  rw [hc] at hc'
  cases hc'
  rw [hp] at hp'
  cases hp'
  have hct : t.clip w.clip = some c := (clip_of_clips hclips _).trans hc
  have hwf : t.clips.wf := hclips ▸ hs.1
  have hsound : ClipsSound t := hs.2.1.of_eq hclips fun g => by unfold State.group; rw [hgroups]
  refine ⟨Table.wf_insert hwf _ _, hsound.insert (fun g hg => ?_) ?_, fun w' hw' => ?_, fun y => ?_⟩
  · exact absurd hg (hsound.not_open hct (by simp [hst]) g)
  · simp [hst]
  · have hww : t.engine.walk = some w' := hw'
    rw [hengine, hw] at hww
    cases hww
    refine ⟨{ c with protection := some { p with extents := p.extents.set w.angle l } }, _,
      by rw [clip_insert, if_pos rfl], hst, rfl, ?_⟩
    simp only [List.length_set]
    exact ⟨hangle, hrest⟩
  · have hsum := timesHeld_insert hwf hct { c with protection := some { p with extents := p.extents.set w.angle l } } y
    have hset := count_slots_set p.extents hangle l y
    have henter := count_enterExtent (y := y) hl
    have hold : c.heldSlots.count y = (p.extents.flatten.flatMap Extent.slots).count y := by rw [Clip.heldSlots, hp]; rfl
    have hnew : ({ c with protection := some { p with extents := p.extents.set w.angle l } } : Clip).heldSlots.count y =
        ((p.extents.set w.angle l).flatten.flatMap Extent.slots).count y := rfl
    rw [timesHeld_of_clips hclips, ← hs.holds_eq] at hsum
    show (t.store.slot y).holds = State.timesHeld _ y
    rw [hheld]
    omega

section
variable {s t : State} {id : Nat} {c : Clip}

/-- A clip that is not the walk's is CLOSED. -/
theorem WalkSound.closed (h : WalkSound s) (hc : s.clip id = some c) (hst : c.state ≠ .protecting)
    (hclips : t.clips = s.clips) (hengine : t.engine = s.engine) :
    WalkSound (t.onClip id fun c => { c with state := .closed, protection := none }) := by
  have hct : t.clip id = some c := (clip_of_clips hclips id).trans hc
  rw [State.onClip_of_some hct]
  refine (h.of_eq hclips (by rw [hengine])).insert_ne (.inl hct) fun k hk => ?_
  rw [hct] at hk
  cases hk
  exact hst

/-- A clip that is not PROTECTING or PROTECTED has no extent lists (R56). -/
theorem ClipsSound.protection_none (h : ClipsSound s) (hc : s.clip id = some c) (h1 : c.state ≠ .protecting)
    (h2 : c.state ≠ .protected_) : c.protection = none :=
  not_not.mp fun hp => ((h.2 id c hc).mp hp).elim h1 h2

/-- A walk's clip stays when another leaves the table. -/
theorem WalkSound.erased (h : WalkSound s) (hc : s.clip id = some c) (hst : c.state ≠ .protecting)
    (hclip : ∀ j, t.clip j = if j = id then none else s.clip j) (hengine : t.engine = s.engine) : WalkSound t := by
  intro w hw
  obtain ⟨k, p, hk, hks, hrest⟩ := h w (hengine ▸ hw)
  refine ⟨k, p, ?_, hks, hrest⟩
  rw [hclip, if_neg]
  · exact hk
  · intro e
    rw [e, hc] at hk
    cases hk
    exact hst hks

namespace HoldsMatchClips

/-- A group's open clip gets its out-point and leaves the group (R62). -/
theorem closedOut (hs : HoldsMatchClips s) {g : Fin 4} {time now : Nat} (hc : s.clip id = some c)
    (hg : (s.group g).openClip = some id) :
    HoldsMatchClips
      (({ s with clips := s.clips.insert id { c with outPoint := some time, state := closedBy time now } } : State).onGroup
        g fun r => { r with openClip := none }) := by
  have hsound := hs.2.1
  obtain ⟨k, hk, hopen, hkg⟩ := hsound.1 g id hg
  rw [hc] at hk
  cases hk
  obtain ⟨hne, hcl⟩ := closedBy_cases time now
  have hnone := hsound.protection_none hc (by simp [hopen]) (by simp [hopen])
  have hnot : ¬ (closedBy time now = .protecting ∨ closedBy time now = .protected_) := by
    rcases hcl with h | h | h <;> simp [h]
  have hw := hs.2.2.1.insert_ne (c := c) (c' := { c with outPoint := some time, state := closedBy time now }) (.inl hc)
    fun k hk => by rw [hc] at hk; cases hk; simp [hopen]
  refine ⟨Table.wf_insert hs.1 _ _, ⟨fun j k hj => ?_, fun j k hk => ?_⟩, hw.of_eq rfl rfl, fun x => ?_⟩
  · rw [State.group_onGroup] at hj
    split at hj
    · cases hj
    · rename_i hjg
      have hj' : (s.group j).openClip = some k := hj
      obtain ⟨k', hk', ho, hkg'⟩ := hsound.1 j k hj'
      refine ⟨k', ?_, ho, hkg'⟩
      rw [clip_of_clips (State.onGroup_clips _ _ _), clip_insert, if_neg]
      · exact hk'
      · rintro rfl
        rw [hc] at hk'
        cases hk'
        exact hjg (hkg'.symm.trans hkg)
  · rw [clip_of_clips (State.onGroup_clips _ _ _), clip_insert] at hk
    split at hk
    · cases hk
      simp only [hnone, ne_eq, not_true_eq_false, false_iff]
      exact hnot
    · exact hsound.2 j k hk
  · have hsum := timesHeld_insert hs.1 hc { c with outPoint := some time, state := closedBy time now } x
    exact (hs.holds_eq x).trans (Nat.add_right_cancel hsum).symm

/-- A new clip without extent lists (R56). -/
theorem created (hs : HoldsMatchClips s) (hnone : s.clip id = none) (hprot : c.protection = none)
    (hst : c.state = .opened ∨ c.state = .closed ∨ c.state = .closing) :
    HoldsMatchClips { s with clips := s.clips.insert id c } := by
  have hw := hs.2.2.1.insert_ne (c := c) (c' := c) (.inr hnone) fun k hk => by rw [hnone] at hk; cases hk
  refine ⟨Table.wf_insert hs.1 _ _, hs.2.1.insert (fun g hg => ?_) ?_, hw, fun x => ?_⟩
  · obtain ⟨k, hk, -⟩ := hs.2.1.1 g id hg
    rw [hnone] at hk
    cases hk
  · simp only [hprot, ne_eq, not_true_eq_false, false_iff]
    rcases hst with h | h | h <;> simp [h]
  · have hsum := timesHeld_create hs.1 hnone c x
    rw [Clip.heldSlots, hprot] at hsum
    exact (hs.holds_eq x).trans hsum.symm

/-- A CLOSED clip leaves the table. -/
theorem recycled (hs : HoldsMatchClips s) (hc : s.clip id = some c) (hst : c.state = .closed) :
    HoldsMatchClips { s with clips := s.clips.erase id } := by
  have hsound := hs.2.1
  have hnone := hsound.protection_none hc (by simp [hst]) (by simp [hst])
  have hclip (j : Nat) : ({ s with clips := s.clips.erase id } : State).clip j = if j = id then none else s.clip j :=
    Table.find_erase _ _ _
  refine ⟨Table.wf_erase hs.1 _, ⟨fun g j hg => ?_, fun j k hk => ?_⟩,
    hs.2.2.1.erased hc (by simp [hst]) hclip rfl, fun x => ?_⟩
  · rw [hclip, if_neg]
    · exact hsound.1 g j hg
    · rintro rfl
      exact hsound.not_open hc (by simp [hst]) g hg
  · rw [hclip] at hk
    split at hk
    · cases hk
    · exact hsound.2 j k hk
  · have hsum := timesHeld_erase hs.1 hc x
    rw [Clip.heldSlots, hnone] at hsum
    exact (hs.holds_eq x).trans hsum.symm

/-- A clip leaves the table after its holds are released (R69, R90). -/
theorem removed (hs : HoldsMatchClips s) (hc : s.clip id = some c) (hst : c.state ≠ .protecting) (hclips : t.clips = s.clips)
    (hgroups : t.groups = s.groups) (hengine : t.engine = s.engine)
    (hholds : ∀ x, (t.store.slot x).holds = (s.store.slot x).holds - c.heldSlots.count x) :
    HoldsMatchClips (removeClip id c t) := by
  have hsound := hs.2.1
  have hgroup (g : Fin 4) : t.group g = s.group g := by unfold State.group; rw [hgroups]
  have hclip (j : Nat) : (removeClip id c t).clip j = if j = id then none else s.clip j := by
    rw [clip_removeClip, clip_of_clips hclips]
  have htable : (removeClip id c t).clips = s.clips.erase id := by rw [removeClip_eq, hclips]
  refine ⟨htable ▸ Table.wf_erase hs.1 _, ⟨fun g j hg => ?_, fun j k hk => ?_⟩,
    hs.2.2.1.erased hc hst hclip (by rw [removeClip_eq]; exact hengine), fun x => ?_⟩
  · rw [group_removeClip] at hg
    split at hg
    · cases hg
    · rename_i hown
      rw [hgroup] at hg
      rw [hclip, if_neg]
      · exact hsound.1 g j hg
      · rintro rfl
        obtain ⟨k, hk, -, hkg⟩ := hsound.1 g j hg
        rw [hc] at hk
        cases hk
        exact hown ⟨hkg.symm, by rw [hgroup, hkg]; exact hg⟩
  · rw [hclip] at hk
    split at hk
    · cases hk
    · exact hsound.2 j k hk
  · have hsum := timesHeld_erase hs.1 hc x
    have htimes : (removeClip id c t).timesHeld x = ({ s with clips := s.clips.erase id } : State).timesHeld x :=
      timesHeld_of_clips htable x
    rw [removeClip_store, hholds, hs.holds_eq]
    show _ = (removeClip id c t).timesHeld x
    omega

end HoldsMatchClips

end

theorem Change.holdsMatchClips {S : Scope} {s t : State} (h : Change S s t) (hs : HoldsMatchClips s) : HoldsMatchClips t := by
  have hsound := hs.2.1
  have hwalk := hs.2.2.1
  have hcontents {u v : State} (hu : HoldsMatchClips u) (h : SameButContents u v) (hh : HoldsSame u v) :
      HoldsMatchClips v := by
    obtain ⟨_, _, _, _, rfl⟩ := h
    exact hu.of_eq rfl (fun _ => rfl) rfl hh
  have hsame (hclips : t.clips = s.clips) (hgroups : ∀ g, (t.group g).openClip = (s.group g).openClip)
      (hengine : t.engine.walk = s.engine.walk) (hslots : t.store.slots = s.store.slots) : HoldsMatchClips t :=
    hs.of_eq hclips hgroups hengine (.of_slots hslots)
  have hclosed {u : State} (hu : u.clips.wf ∧ ClipsSound u ∧ ∀ x, (u.store.slot x).holds = u.timesHeld x) :
      HoldsMatchClips (idleEngine u) := ⟨hu.1, hu.2.1.of_eq rfl fun _ => rfl, WalkSound.idle, hu.2.2⟩
  cases h with
  | abandon i => exact hcontents hs (.abandon i s) (.abandon i s)
  | startFrame i key payload _ _ _ _ h => exact hcontents hs (.startFrame h) (.startFrame h)
  | continueFrame i a payload => exact hcontents hs (.continueFrame i a payload s) (.continueFrame i a payload s)
  | walk hS w hfits =>
    refine ⟨hs.1, hsound.of_eq rfl fun _ => rfl, fun w' hw' => ?_, hs.2.2.2⟩
    have : w = w' := Option.some.inj hw'
    subst this
    exact hfits hwalk
  | idle => exact ⟨hs.1, hsound.of_eq rfl fun _ => rfl, WalkSound.idle, hs.2.2.2⟩
  | configureStore hS pairs hcheck =>
    have hnone : ∀ e ∈ s.clips, e.2.heldSlots = [] := by
      classical
      intro e he
      rw [configureStoreCheck_eq] at hcheck
      have hok : ¬ Malformed pairs := fun hm => by rw [if_pos hm] at hcheck; cases hcheck
      have hfree : ¬ StoreInUse s := fun hu => by rw [if_neg hok, if_pos hu] at hcheck; cases hcheck
      have hst : ¬ (e.2.state = .protecting ∨ e.2.state = .protected_) := fun h => hfree (.inr (.inl ⟨e, he, h⟩))
      have hp : e.2.protection = none := not_not.mp fun h =>
        hst ((hsound.2 e.1 e.2 (Table.find_of_mem hs.1 he)).mp h)
      rw [Clip.heldSlots, hp]
      rfl
    refine ⟨hs.1, hsound.of_eq rfl fun _ => rfl, hwalk.of_eq rfl rfl, fun x => ?_⟩
    refine (List.sum_eq_zero fun n hn => ?_).symm
    obtain ⟨e, he, rfl⟩ := List.mem_map.mp hn
    rw [hnone e he]
    rfl
  | group g f hf =>
    refine hsame rfl (fun j => ?_) rfl rfl
    rw [State.group_onGroup]
    split
    · rename_i e; subst e; exact hf
    · rfl
  | openGroup g id c hc hopen hg =>
    refine ⟨hs.1, ⟨fun j k hk => ?_, hsound.2⟩, hwalk.of_eq rfl rfl, hs.2.2.2⟩
    rw [State.group_onGroup] at hk
    split at hk
    · rename_i e
      subst e
      cases hk
      exact ⟨c, hc, hopen, hg⟩
    · exact hsound.1 j k hk
  | clip id c c' hc hk hin => exact hs.rewrite hc ⟨hk.group, hk.state, hk.angles, hk.extents⟩
  | remark g id time c hc => exact hs.rewrite hc ⟨rfl, rfl, rfl, rfl⟩
  | closeOut g id time now c hc hg => exact hs.closedOut hc hg
  | create id c hid huse hprot hst => exact hs.created (lowestFree_some hid).2.1 hprot hst
  | recycle id c hmem hrec =>
    have hst : c.state = .closed := by
      simp only [recyclable, Bool.and_eq_true, decide_eq_true_eq] at hrec
      exact hrec.1.1
    exact hs.recycled (Table.find_of_mem hs.1 hmem) hst
  | closeClips time =>
    refine closeClips_keeps hs.1 (fun u id c out e hu hc hst _ _ => ?_) hs
    have hnone := hu.2.1.protection_none hc (by simp [hst]) (by simp [hst])
    refine (hu.write hc (c' := { c with state := .closed }) rfl (hu.2.1.insert (fun g hg => ?_) ?_)
      (hu.2.2.1.insert_ne (.inl hc) fun k hk => ?_)).of_eq rfl (fun _ => rfl) rfl (.of_slots rfl)
    · exact absurd hg (hu.2.1.not_open hc (by simp [hst]) g)
    · simp [hnone]
    · rw [hc] at hk
      cases hk
      simp [hst]
  | drop id c hc hst huse =>
    exact hs.removed hc hst (releaseHolds_clips _ _) (releaseHolds_groups _ _) (releaseHolds_engine _ _) fun x =>
      holds_releaseHolds _ _ x
  | protect id c hc hst =>
    refine hs.write hc ?_ (hsound.insert (fun g hg => ?_) (by simp)) (hwalk.insert_ne (.inl hc) fun k hk => ?_)
    · have hnone := hsound.protection_none hc (by simp [hst]) (by simp [hst])
      rw [Clip.heldSlots, Clip.heldSlots, hnone]
      simp [Protection.slots]
    · exact absurd hg (hsound.not_open hc (by simp [hst]) g)
    · rw [hc] at hk
      cases hk
      simp [hst]
  | completeWalk hS id hid =>
    obtain ⟨c, hc, hst, hp⟩ := hid hwalk
    rw [State.onClip_of_some hc]
    have hw := hs.write (c' := { c with state := .protected_ }) hc rfl
      (hsound.insert (fun g hg => absurd hg (hsound.not_open hc (by simp [hst]) g)) (by simp [hp]))
    refine ⟨Table.wf_insert hs.1 _ _, ?_, WalkSound.idle, fun x => ?_⟩
    · exact (hsound.insert (c' := { c with state := .protected_ })
        (fun g hg => absurd hg (hsound.not_open hc (by simp [hst]) g)) (by simp [hp])).of_eq rfl fun _ => rfl
    · have hsum := timesHeld_insert hs.1 hc { c with state := .protected_ } x
      exact (hs.holds_eq x).trans (Nat.add_right_cancel hsum).symm
  | holdEntered i key x t w c p l hw hc hp hl h => exact hs.entered hw hc hp hl h
  | unwind hS w hw =>
    obtain ⟨c, p, hc, hst, hp, -⟩ := hwalk w hw
    have hslots : (((s.clip w.clip).bind Clip.protection).elim [] Protection.slots) = c.heldSlots := by
      rw [hc, Option.bind_some, Clip.heldSlots]
    rw [hslots]
    exact hclosed (hs.released hc (.inl hst) (releaseHolds_clips _ _) (releaseHolds_groups _ _) fun x => holds_releaseHolds _ _ x)
  | fragment hS i key x t w hw h =>
    obtain ⟨hclips, hgroups, hengine⟩ := takeHold_rest h
    obtain ⟨c, p, hc, hst, hp, -⟩ := hwalk w hw
    have hslots : (((t.clip w.clip).bind Clip.protection).elim [] Protection.slots) = c.heldSlots := by
      rw [clip_of_clips hclips, hc, Option.bind_some, Clip.heldSlots]
    rw [hslots]
    refine hclosed (hs.released hc (.inl hst) ((releaseHolds_clips _ _).trans hclips)
      ((releaseHolds_groups _ _).trans hgroups) fun y => ?_)
    rw [holds_releaseHolds, (holds_takeHold h).2, List.count_append, count_one]
    omega
  | strayHold i key x t h hno => exact absurd hwalk hno
  | release id c p hc hst hp =>
    have hslots : p.slots = c.heldSlots := by rw [Clip.heldSlots, hp]; rfl
    rw [hslots]
    obtain ⟨h1, h2, h3⟩ := hs.released hc (.inr hst) (releaseHolds_clips c.heldSlots s) (releaseHolds_groups _ _)
      fun x => holds_releaseHolds _ _ x
    exact ⟨h1, h2, hwalk.closed hc (by simp [hst]) (releaseHolds_clips _ _) (releaseHolds_engine _ _), h3⟩
  | bind ch hS f b p => exact ((hs.leaveClip _).joinClip b).of_eq rfl (fun _ => rfl) rfl (.of_slots rfl)
  | resetChannel ch hS => exact (hs.leaveClip _).of_eq rfl (fun _ => rfl) rfl (.of_slots rfl)
  | runOn ch hS => exact (hs.leaveClip _).of_eq rfl (fun _ => rfl) rfl (.of_slots rfl)
  | reset hS id links held =>
    refine ⟨Table.wf_nil, ⟨fun g j hg => ?_, nofun⟩, nofun, fun _ => rfl⟩
    have hgroup : ({ resetBlocks id links s with resetHeld := held } : State).group g = {} := by fin_cases g <;> rfl
    rw [hgroup] at hg
    cases hg
  | _ => exact hsame rfl (fun _ => rfl) rfl rfl

/-! ## Hold counts at most 15, and clip ids below 512 (R40, R56) -/

/-- Every clip id is below 512. -/
def IdsBounded (t : Table Clip) : Prop := ∀ e ∈ t, e.1 < 512

namespace IdsBounded

theorem insert {t : Table Clip} (h : IdsBounded t) {id : Nat} (hid : id < 512) (c : Clip) : IdsBounded (t.insert id c) :=
  fun e he => (Table.mem_insert he).elim (fun h => h ▸ hid) (h e)

theorem erase {t : Table Clip} (h : IdsBounded t) (id : Nat) : IdsBounded (t.erase id) := fun e he => h e (Table.mem_erase he)

theorem of_clip {s : State} (h : IdsBounded s.clips) {id : Nat} {c : Clip} (hc : s.clip id = some c) : id < 512 :=
  h _ (Table.mem_of_find hc)

theorem onClip {s : State} (h : IdsBounded s.clips) (id : Nat) (f : Clip → Clip) : IdsBounded (s.onClip id f).clips := by
  cases hc : s.clip id with
  | none =>
    unfold State.onClip
    rw [show s.clips.find id = none from hc]
    exact h
  | some c =>
    rw [State.onClip_of_some hc]
    exact h.insert (h.of_clip hc) _

theorem leaveClip {s : State} (h : IdsBounded s.clips) (b : Binding) : IdsBounded (leaveClip b s).clips := by
  cases b with
  | clip k a => exact h.onClip k fun c => c.withUse (c.useCount - 1)
  | unbound => exact h
  | free => exact h

theorem joinClip {s : State} (h : IdsBounded s.clips) (b : Binding) : IdsBounded (joinClip b s).clips := by
  cases b with
  | clip k a => exact h.onClip k fun c => c.withUse (c.useCount + 1)
  | unbound => exact h
  | free => exact h

theorem closeClips {s : State} (h : IdsBounded s.clips) (time : Nat) : IdsBounded (closeClips time s).clips := by
  have hlist : ∀ e ∈ clipList s.clips, e.1 < 512 := fun e he => h e ((clipList_perm _).mem_iff.mp he)
  unfold Machine.closeClips
  revert hlist
  generalize clipList s.clips = l
  intro hlist
  induction l generalizing s with
  | nil => exact h
  | cons a l ih =>
    refine ih ?_ fun e he => hlist e (List.mem_cons_of_mem _ he)
    unfold closeClip
    split
    · split
      · exact h.insert (hlist a List.mem_cons_self) _
      · exact h
    · exact h

end IdsBounded

theorem removeClip_clips (id : Nat) (c : Clip) (s : State) : (removeClip id c s).clips = s.clips.erase id := by
  rw [removeClip_eq]

theorem Change.idsBounded {S : Scope} {s t : State} (h : Change S s t) (hs : IdsBounded s.clips) : IdsBounded t.clips := by
  have hof {u v : State} (hu : IdsBounded u.clips) (h : v.clips = u.clips) : IdsBounded v.clips := by rw [h]; exact hu
  have hreleased (l : List Nat) {u : State} (hu : IdsBounded u.clips) : IdsBounded (releaseHolds l u).clips :=
    hof hu (releaseHolds_clips l u)
  cases h with
  | abandon i =>
    obtain ⟨_, _, _, _, h⟩ := SameButContents.abandon i s
    exact hof hs (by rw [h])
  | startFrame i key payload _ _ _ _ h =>
    obtain ⟨_, _, _, _, rfl⟩ := SameButContents.startFrame h
    exact hs
  | continueFrame i a payload =>
    obtain ⟨_, _, _, _, h⟩ := SameButContents.continueFrame i a payload s
    exact hof hs (by rw [h])
  | clip id c c' hc => exact hs.insert (hs.of_clip hc) _
  | remark g id time c hc => exact hs.insert (hs.of_clip hc) _
  | closeOut g id time now c hc => exact hs.insert (hs.of_clip hc) _
  | create id c hid => exact hs.insert (lowestFree_some hid).1 _
  | recycle id => exact hs.erase id
  | closeClips time => exact hs.closeClips time
  | drop id c =>
    rw [removeClip_clips]
    exact (hreleased c.heldSlots hs).erase id
  | protect id c hc => exact hs.insert (hs.of_clip hc) _
  | completeWalk hS id => rw [idleEngine_clips]; exact hs.onClip id _
  | holdEntered i key x t w c p l hw hc hp hl h =>
    rw [takeHold_clips h]
    exact hs.insert (hs.of_clip hc) _
  | unwind hS w => rw [idleEngine_clips]; exact (hreleased _ hs).onClip _ _
  | fragment hS i key x t w hw h => rw [idleEngine_clips]; exact (hreleased _ (hof hs (takeHold_clips h))).onClip _ _
  | strayHold i key x t h => exact hof hs (takeHold_clips h)
  | release id c p => exact (hreleased _ hs).onClip _ _
  | bind ch hS f b p => exact (hs.leaveClip _).joinClip b
  | resetChannel ch hS => exact hs.leaveClip _
  | runOn ch hS => exact hs.leaveClip _
  | reset => exact nofun
  | _ => exact hs

theorem idleEngine_store (s : State) : (idleEngine s).store = s.store := rfl

theorem Change.holdsLe {S : Scope} {s t : State} (h : Change S s t) (hs : ∀ x, (s.store.slot x).holds ≤ 15) :
    ∀ x, (t.store.slot x).holds ≤ 15 := by
  have hof {u v : State} (hu : ∀ x, (u.store.slot x).holds ≤ 15) (h : HoldsSame u v) : ∀ x, (v.store.slot x).holds ≤ 15 :=
    fun x => h x ▸ hu x
  have hstore {u v : State} (hu : ∀ x, (u.store.slot x).holds ≤ 15) (h : v.store = u.store) :
      ∀ x, (v.store.slot x).holds ≤ 15 := by rw [h]; exact hu
  have hclip {u : State} (hu : ∀ x, (u.store.slot x).holds ≤ 15) (id : Nat) (f : Clip → Clip) :
      ∀ x, ((u.onClip id f).store.slot x).holds ≤ 15 := by
    obtain ⟨c, h⟩ := onClip_eq id f u
    exact hstore hu (by rw [h])
  have hreleased (l : List Nat) {u : State} (hu : ∀ x, (u.store.slot x).holds ≤ 15) (x : Nat) :
      ((releaseHolds l u).store.slot x).holds ≤ 15 := by
    rw [holds_releaseHolds]
    exact (Nat.sub_le _ _).trans (hu x)
  have htaken {i : Fin 8} {key x : Nat} {u : State} (h : takeHold i key s = (.held x, u)) (y : Nat) :
      (u.store.slot y).holds ≤ 15 := by
    obtain ⟨hne, hheld⟩ := holds_takeHold h
    have := hs y
    rw [hheld]
    split
    · rename_i e
      subst e
      omega
    · omega
  cases h with
  | abandon i => exact hof hs (.abandon i s)
  | startFrame i key payload _ _ _ _ h => exact hof hs (.startFrame h)
  | continueFrame i a payload => exact hof hs (.continueFrame i a payload s)
  | configureStore => exact fun _ => Nat.zero_le _
  | closeClips time =>
    obtain ⟨_, _, h, -⟩ := closeClips_eq time s
    exact hstore hs (by rw [h])
  | drop id c => exact hstore (hreleased c.heldSlots hs) (removeClip_store _ _ _)
  | completeWalk hS id => rw [idleEngine_store]; exact hclip hs id _
  | holdEntered i key x t w c p l hw hc hp hl h => exact htaken (u := t) h
  | unwind hS w => rw [idleEngine_store]; exact hclip (hreleased _ hs) _ _
  | fragment hS i key x t w hw h => rw [idleEngine_store]; exact hclip (hreleased _ (htaken h)) _ _
  | strayHold i key x t h => exact htaken h
  | release id c p => exact hclip (hreleased _ hs) _ _
  | bind ch hS f b p =>
    obtain ⟨c, h⟩ := leaveClip_eq (s.channel ch).binding s
    obtain ⟨d, h'⟩ := joinClip_eq b (leaveClip (s.channel ch).binding s)
    exact hstore hs (by rw [State.onChannel_store, h', h])
  | resetChannel ch hS =>
    obtain ⟨c, h⟩ := leaveClip_eq (s.channel ch).binding s
    exact hstore hs (by rw [State.onChannel_store, h])
  | runOn ch hS =>
    obtain ⟨c, h⟩ := leaveClip_eq (s.channel ch).binding s
    exact hstore hs (by rw [State.onChannel_store, h])
  | reset => exact fun _ => Nat.zero_le _
  | _ => exact hs

end Sys2Proof.Machine

namespace Sys2Proof.Proofs

open Sys2Proof.Machine

/-- Settles O12: a hold is taken and released together with its entry in an extent list of a clip. -/
theorem holdCountsMatchClips : Obligations.HoldCountsMatchClips :=
  ⟨step_keeps (fun _ _ h => h.holdsMatchClips) fun _ _ h => h,
    step_keeps (fun _ _ h hs => ⟨h.holdsLe hs.1, h.idsBounded hs.2⟩) fun _ _ h => h⟩

end Sys2Proof.Proofs
end

section
/-! PROOFS. Positions within their bounds (R92): the keys of a stream rise, a clip that a channel plays keeps its points, and
so a channel that a change leaves alone stays where its binding lets it be. -/

namespace Sys2Proof.Machine

/-! ## Keys (R16, R45) -/

/-- A stream's keys in order, with the recall start of its allotment: `KeysOrdered` for one stream. -/
def Stream.KeysOrdered (r : Stream) (a : Allotment) : Prop :=
  (r.lastKey = none → r.originKey = none) ∧
    (∀ live, r.lastKey = some live →
      0 < a.size ∧ live < 2 ^ 40 * r.multiple ∧ (∃ o, r.originKey = some o ∧ o ≤ live) ∧
        ∃ start, a.recallStart = some start ∧ start ≤ live * nativePeriod r.multiple) ∧
    ∀ b, r.assembly = some b → r.enabled = true ∧ b.key < 2 ^ 40 * r.multiple ∧ ∀ live, r.lastKey = some live → live < b.key

theorem keysOrdered_iff (s : State) : KeysOrdered s ↔ ∀ i, (s.stream i).KeysOrdered (s.allotment i) := Iff.rfl

/-- A stream record with the keys of another, and a frame in assembly only for its frame in assembly. -/
structure Stream.SameKeys (r r' : Stream) : Prop where
  multiple : r'.multiple = r.multiple
  lastKey : r'.lastKey = r.lastKey
  originKey : r'.originKey = r.originKey
  assembly : ∀ b', r'.assembly = some b' → r'.enabled = r.enabled ∧ ∃ b, r.assembly = some b ∧ b'.key = b.key

theorem Stream.SameKeys.refl (r : Stream) : r.SameKeys r := ⟨rfl, rfl, rfl, fun b h => ⟨rfl, b, h, rfl⟩⟩

theorem Stream.SameKeys.waiting {r r' : Stream} (hm : r'.multiple = r.multiple) (hl : r'.lastKey = r.lastKey)
    (ho : r'.originKey = r.originKey) (ha : r'.assembly = none) : r.SameKeys r' :=
  ⟨hm, hl, ho, fun b h => by rw [ha] at h; cases h⟩

theorem Stream.KeysOrdered.same {r r' : Stream} {a a' : Allotment} (h : r.KeysOrdered a) (hr : r.SameKeys r')
    (hsize : a'.size = a.size) (hrecall : a'.recallStart = a.recallStart) : r'.KeysOrdered a' := by
  obtain ⟨hm, hl, ho, ha⟩ := hr
  obtain ⟨h1, h2, h3⟩ := h
  unfold Stream.KeysOrdered
  rw [hm, hl, ho, hsize, hrecall]
  refine ⟨h1, h2, fun b' hb' => ?_⟩
  obtain ⟨he, b, hb, hk⟩ := ha b' hb'
  rw [he, hk]
  exact h3 b hb

/-- The recall start key is at or before the live key while the stream has an unheld slot. -/
theorem recallKey_le {live size held origin : Nat} (hheld : held < size) (ho : origin ≤ live) :
    recallKey live size held origin ≤ live := by
  unfold recallKey
  omega

/-- The recall start of an allotment is the one R45 gives. -/
def State.Recalled (s : State) (i : Fin 8) : Prop :=
  (s.allotment i).recallStart = (s.stream i).lastKey.map fun live =>
    recallKey live (s.allotment i).size (s.allotment i).held ((s.stream i).originKey.getD 0) * nativePeriod (s.stream i).multiple

/-- A stream with a frame of its own has an unheld slot. -/
theorem StoreSound.held_lt {s : State} (h : StoreSound s) {i : Fin 8} (hsize : 0 < (s.allotment i).size) :
    (s.allotment i).held < (s.allotment i).size := by
  have hle := h.held_le i
  have hfloor : 0 < (s.allotment i).floor := ((h.2.1 i).2.2.1 hsize).1
  omega

theorem recalled_recomputeRecall (i : Fin 8) (s : State) : (recomputeRecall i s).Recalled i := by
  unfold State.Recalled recomputeRecall
  rw [State.allotment_onAllotment, if_pos rfl]
  rfl

theorem allotment_recomputeRecall_ne {i j : Fin 8} (h : j ≠ i) (s : State) :
    (recomputeRecall i s).allotment j = s.allotment j := by
  unfold recomputeRecall
  rw [State.allotment_onAllotment, if_neg h]

theorem size_recomputeRecall (i j : Fin 8) (s : State) :
    ((recomputeRecall i s).allotment j).size = (s.allotment j).size ∧
      ((recomputeRecall i s).allotment j).held = (s.allotment j).held := by
  unfold recomputeRecall
  rw [State.allotment_onAllotment]
  split
  · rename_i e; subst e; exact ⟨rfl, rfl⟩
  · exact ⟨rfl, rfl⟩

section
variable {s t : State}

/-- The recall starts of a sound store may be recomputed. -/
theorem KeysOrdered.recalled (h : KeysOrdered s) (hstreams : ∀ i, (s.stream i).SameKeys (t.stream i)) (hsound : StoreSound t)
    (hrecall : ∀ i, (t.allotment i).size = (s.allotment i).size ∧
      ((t.allotment i).recallStart = (s.allotment i).recallStart ∨ t.Recalled i)) : KeysOrdered t := by
  intro i
  obtain ⟨hsize, hr⟩ := hrecall i
  have hkeys : (t.stream i).KeysOrdered (s.allotment i) := ((keysOrdered_iff s).mp h i).same (hstreams i) rfl rfl
  rcases hr with hr | hr
  · exact hkeys.same (.refl _) hsize hr
  · obtain ⟨h1, h2, h3⟩ := hkeys
    refine ⟨h1, fun live hlive => ?_, h3⟩
    obtain ⟨hpos, hlt, ⟨o, ho, hle⟩, -⟩ := h2 live hlive
    rw [← hsize] at hpos
    refine ⟨hpos, hlt, ⟨o, ho, hle⟩, _, hr.trans (by rw [hlive, Option.map_some, ho]), ?_⟩
    exact Nat.mul_le_mul_right _ (recallKey_le (hsound.held_lt hpos) hle)

/-- An operation that leaves the keys, and the sizes and recall starts. -/
theorem KeysOrdered.of_same (h : KeysOrdered s) (hstreams : ∀ i, (s.stream i).SameKeys (t.stream i))
    (halloc : ∀ i, (t.allotment i).size = (s.allotment i).size ∧ (t.allotment i).recallStart = (s.allotment i).recallStart) :
    KeysOrdered t := fun i => ((keysOrdered_iff s).mp h i).same (hstreams i) (halloc i).1 (halloc i).2

theorem KeysOrdered.of_eq (h : KeysOrdered s) (hstreams : t.streams = s.streams) (hstore : t.store = s.store) :
    KeysOrdered t := by
  refine h.of_same (fun i => ?_) fun i => ?_
  · unfold State.stream; rw [hstreams]; exact .refl _
  · unfold State.allotment; rw [hstore]; exact ⟨rfl, rfl⟩

/-- An allotment is written with its size and recall start kept. -/
theorem sizes_onAllotment {u : State} {i : Fin 8} {f : Allotment → Allotment} (j : Fin 8)
    (hf : ∀ a, (f a).size = a.size ∧ (f a).recallStart = a.recallStart) :
    ((u.onAllotment i f).allotment j).size = (u.allotment j).size ∧
      ((u.onAllotment i f).allotment j).recallStart = (u.allotment j).recallStart := by
  rw [State.allotment_onAllotment]
  split
  · rename_i e; subst e; exact hf _
  · exact ⟨rfl, rfl⟩

/-! ## Live edges never fall (R27) -/

/-- A live edge that stands is still there, at the same time or a later one. -/
def EdgesRise (s t : State) : Prop := ∀ i edge, s.liveEdge i = some edge → ∃ e, t.liveEdge i = some e ∧ edge ≤ e

theorem EdgesRise.of_same (h : ∀ i, (s.stream i).SameKeys (t.stream i)) : EdgesRise s t := by
  intro i edge he
  refine ⟨edge, ?_, le_rfl⟩
  unfold State.liveEdge State.period at he ⊢
  rw [(h i).lastKey, (h i).multiple]
  exact he

theorem EdgesRise.of_streams (h : t.streams = s.streams) : EdgesRise s t :=
  of_same fun i => by unfold State.stream; rw [h]; exact .refl _

theorem sameKeys_onStream {i : Fin 8} {f : Stream → Stream} (h : (s.stream i).SameKeys (f (s.stream i))) (j : Fin 8) :
    (s.stream j).SameKeys ((s.onStream i f).stream j) := by
  rw [State.stream_onStream]
  split
  · rename_i e; subst e; exact h
  · exact .refl _

/-- A change of one stream that keeps its keys, or its frame in assembly's. -/
theorem KeysOrdered.onStream (h : KeysOrdered s) (i : Fin 8) {f : Stream → Stream}
    (hf : (s.stream i).KeysOrdered (s.allotment i) → (f (s.stream i)).KeysOrdered (s.allotment i)) :
    KeysOrdered (s.onStream i f) := by
  intro j
  have hj := (keysOrdered_iff s).mp h j
  show ((s.onStream i f).stream j).KeysOrdered (s.allotment j)
  rw [State.stream_onStream]
  split
  · rename_i e; subst e; exact hf hj
  · exact hj

theorem sizes_releaseHold (s : State) (x : Nat) (i : Fin 8) :
    ((releaseHold s x).allotment i).size = (s.allotment i).size ∧
      ((releaseHold s x).allotment i).recallStart = (s.allotment i).recallStart := by
  rw [releaseHold_cases]
  split
  · exact sizes_onAllotment _ fun _ => ⟨rfl, rfl⟩
  · exact ⟨rfl, rfl⟩

/-- After the releases of a clip each recall start is as it was, or the one R45 gives (R84). -/
theorem releaseHolds_recall (slots : List Nat) (s : State) (i : Fin 8) :
    ((releaseHolds slots s).allotment i).size = (s.allotment i).size ∧
      (((releaseHolds slots s).allotment i).recallStart = (s.allotment i).recallStart ∨ (releaseHolds slots s).Recalled i) := by
  unfold releaseHolds
  dsimp only
  have hfold (l : List Nat) (u : State) : ((l.foldl releaseHold u).allotment i).size = (u.allotment i).size ∧
      ((l.foldl releaseHold u).allotment i).recallStart = (u.allotment i).recallStart := by
    induction l generalizing u with
    | nil => exact ⟨rfl, rfl⟩
    | cons x l ih =>
      obtain ⟨h1, h2⟩ := sizes_releaseHold u x i
      exact ⟨(ih _).1.trans h1, (ih _).2.trans h2⟩
  obtain ⟨hsize, hrecall⟩ := hfold slots s
  have hu : ((slots.foldl releaseHold s).allotment i).recallStart = (s.allotment i).recallStart ∨
    (slots.foldl releaseHold s).Recalled i := .inl hrecall
  generalize slots.foldl releaseHold s = u at hsize hu
  clear hrecall
  induction allEight generalizing u with
  | nil => exact ⟨hsize, hu⟩
  | cons n l ih =>
    rw [List.foldl_cons]
    split
    · exact ih u hsize hu
    · refine ih _ ((size_recomputeRecall n i u).1.trans hsize) ?_
      by_cases h : i = n
      · subst h
        exact .inr (recalled_recomputeRecall i u)
      · unfold State.Recalled
        rw [allotment_recomputeRecall_ne h]
        exact hu

theorem KeysOrdered.releaseHolds (h : KeysOrdered s) (hs : StoreSound s) (slots : List Nat) :
    KeysOrdered (releaseHolds slots s) :=
  h.recalled (fun i => by unfold State.stream; rw [releaseHolds_streams]; exact .refl _) (hs.releaseHolds slots)
    (releaseHolds_recall slots s)

theorem KeysOrdered.takeHold (h : KeysOrdered s) (hs : StoreSound s) {i : Fin 8} {key : Nat} {r : HoldResult}
    (ht : takeHold i key s = (r, t)) : KeysOrdered t := by
  refine h.recalled (fun i => by unfold State.stream; rw [takeHold_streams ht]; exact .refl _) (hs.takeHold ht) fun j => ?_
  obtain ⟨-, h'⟩ | ⟨x, g, -, h' | h' | ⟨-, -, h'⟩ | ⟨-, -, h'⟩⟩ := takeHold_cases i key s
  · rw [h'] at ht; cases ht; exact ⟨rfl, .inl rfl⟩
  · rw [h'.2] at ht; cases ht; exact ⟨rfl, .inl rfl⟩
  · rw [h'.2.2] at ht; cases ht; exact ⟨rfl, .inl rfl⟩
  · rw [h'] at ht
    cases ht
    refine ⟨(size_recomputeRecall _ _ _).1.trans
      (sizes_onAllotment (f := fun a => { a with held := a.held + 1 }) j fun _ => ⟨rfl, rfl⟩).1, ?_⟩
    · by_cases hj : j = i
      · subst hj
        exact .inr (recalled_recomputeRecall j _)
      · rw [allotment_recomputeRecall_ne hj, State.allotment_onAllotment, if_neg hj]
        exact .inl rfl
  · rw [h'] at ht; cases ht; exact ⟨rfl, .inl rfl⟩

/-! ## Frames in assembly (R16, R22, R25) -/

theorem abandon_sameKeys (i j : Fin 8) (s : State) : (s.stream j).SameKeys ((abandon i s).stream j) := by
  unfold abandon
  split
  · exact .refl _
  · exact sameKeys_onStream (s := s.onStore _) (.waiting rfl rfl rfl rfl) j

theorem abandon_allotment (i j : Fin 8) (s : State) : (abandon i s).allotment j = s.allotment j := by
  unfold abandon
  split <;> rfl

theorem startFrame_allotment {i : Fin 8} {key : Nat} {payload : Band} (h : startFrame i key payload s = .next t) (j : Fin 8) :
    (t.allotment j).size = (s.allotment j).size ∧ (t.allotment j).recallStart = (s.allotment j).recallStart := by
  unfold startFrame at h
  split at h
  · cases h
  · rename_i x s1 hclaim
    cases h
    obtain ⟨f, c, hf, hc, -, rfl⟩ := claim_some hclaim
    exact sizes_onAllotment (u := s.onStore _) (i := i) (f := fun a => { a with cursor := some (nextSlot f (s.allotment i).size x) })
      j fun _ => ⟨rfl, rfl⟩

theorem startFrame_stream {i : Fin 8} {key : Nat} {payload : Band} (h : startFrame i key payload s = .next t) (j : Fin 8) :
    ∃ x, t.stream j = if j = i then { s.stream i with assembly := some ⟨key, x, 1⟩ } else s.stream j := by
  unfold startFrame at h
  split at h
  · cases h
  · rename_i x s1 hclaim
    cases h
    obtain ⟨f, c, hf, hc, -, rfl⟩ := claim_some hclaim
    exact ⟨x, State.stream_onStream _ _ _ _⟩

theorem KeysOrdered.startFrame (h : KeysOrdered s) {i : Fin 8} {key : Nat} {payload : Band}
    (hen : (s.stream i).enabled = true) (hkey : key < 2 ^ 40 * (s.stream i).multiple)
    (hlive : ∀ live, (s.stream i).lastKey = some live → live < key) (ht : startFrame i key payload s = .next t) :
    KeysOrdered t := by
  intro j
  obtain ⟨hsize, hrecall⟩ := startFrame_allotment ht j
  obtain ⟨x, hj⟩ := startFrame_stream ht j
  have hs := (keysOrdered_iff s).mp h j
  show (t.stream j).KeysOrdered (t.allotment j)
  rw [hj]
  split
  · rename_i e
    subst e
    obtain ⟨h1, h2, -⟩ := hs.same (.refl _) hsize hrecall
    exact ⟨h1, h2, fun b hb => by cases hb; exact ⟨hen, hkey, hlive⟩⟩
  · exact hs.same (.refl _) hsize hrecall

theorem commitFrame_stream (i : Fin 8) (key slot : Nat) (s : State) (j : Fin 8) : (commitFrame i key slot s).stream j =
    if j = i then { s.stream i with lastKey := some key, originKey := (s.stream i).originKey.or (some key), assembly := none }
    else s.stream j := by
  unfold commitFrame recomputeRecall
  rw [State.stream_onAllotment, State.stream_onStream]
  rfl

/-- A frame that commits raises the live key to its own (R25). -/
theorem KeysOrdered.commitFrame (h : KeysOrdered s) (hs : StoreSound s) {i : Fin 8} {a : Assembly}
    (ha : (s.stream i).assembly = some a) (ht : StoreSound (commitFrame i a.key a.slot s)) :
    KeysOrdered (commitFrame i a.key a.slot s) := by
  obtain ⟨horigin, hlive, hassembly⟩ := (keysOrdered_iff s).mp h i
  obtain ⟨hen, hkey, hlt⟩ := hassembly a ha
  have hstream (j : Fin 8) := commitFrame_stream i a.key a.slot s j
  have hsize (j : Fin 8) : ((Machine.commitFrame i a.key a.slot s).allotment j).size = (s.allotment j).size := by
    unfold Machine.commitFrame
    refine (size_recomputeRecall _ _ _).1.trans ?_
    exact (sizes_onAllotment (u := s.onStore _) (i := i)
      (f := fun b => { b with directory := b.directory.insert (a.key % b.size) (a.key, a.slot) }) j fun _ => ⟨rfl, rfl⟩).1
  have hrecalled : (Machine.commitFrame i a.key a.slot s).Recalled i := recalled_recomputeRecall i _
  intro j
  show ((Machine.commitFrame i a.key a.slot s).stream j).KeysOrdered ((Machine.commitFrame i a.key a.slot s).allotment j)
  by_cases hj : j = i
  · subst hj
    unfold State.Recalled at hrecalled
    rw [hstream, if_pos rfl] at hrecalled ⊢
    have hpos : 0 < ((Machine.commitFrame j a.key a.slot s).allotment j).size := by rw [hsize]; exact hs.2.2 j hen
    obtain ⟨o, ho, hle⟩ : ∃ o, (s.stream j).originKey.or (some a.key) = some o ∧ o ≤ a.key := by
      cases hl : (s.stream j).lastKey with
      | none => exact ⟨a.key, by rw [horigin hl]; rfl, le_rfl⟩
      | some live =>
        obtain ⟨-, -, ⟨o, ho, hle⟩, -⟩ := hlive live hl
        exact ⟨o, by rw [ho]; rfl, hle.trans (hlt live hl).le⟩
    refine ⟨nofun, fun live hl => ?_, nofun⟩
    cases hl
    refine ⟨hpos, hkey, ⟨o, ho, hle⟩, _, hrecalled, ?_⟩
    dsimp only
    rw [ho]
    exact Nat.mul_le_mul_right _ (recallKey_le (ht.held_lt hpos) hle)
  · rw [hstream, if_neg hj]
    refine ((keysOrdered_iff s).mp h j).same (.refl _) (hsize j) ?_
    unfold Machine.commitFrame
    rw [allotment_recomputeRecall_ne hj]
    exact (sizes_onAllotment (u := s.onStore _) (i := i)
      (f := fun b => { b with directory := b.directory.insert (a.key % b.size) (a.key, a.slot) }) j fun _ => ⟨rfl, rfl⟩).2

theorem KeysOrdered.continueFrame (h : KeysOrdered s) (hs : StoreSound s) {i : Fin 8} {a : Assembly} (payload : Band)
    (ha : (s.stream i).assembly = some a) : KeysOrdered (continueFrame i a payload s) := by
  have hsound := hs.continueFrame i a payload
  unfold Machine.continueFrame at hsound ⊢
  dsimp only at hsound ⊢
  split
  · rename_i h134
    rw [if_pos h134] at hsound
    exact KeysOrdered.commitFrame (s := s.onStore _) (h.of_same (fun _ => .refl _) fun _ => ⟨rfl, rfl⟩)
      (hs.of_eq rfl rfl fun _ => id) ha hsound
  · exact h.of_same (sameKeys_onStream (s := s.onStore _) ⟨rfl, rfl, rfl, fun b hb => ⟨rfl, a, ha, by cases hb; rfl⟩⟩)
      fun _ => ⟨rfl, rfl⟩

theorem EdgesRise.continueFrame (h : KeysOrdered s) {i : Fin 8} {a : Assembly} (payload : Band)
    (ha : (s.stream i).assembly = some a) : EdgesRise s (continueFrame i a payload s) := by
  unfold Machine.continueFrame
  dsimp only
  split
  · intro j edge he
    unfold State.liveEdge State.period at he ⊢
    rw [commitFrame_stream]
    split
    · rename_i e
      subst e
      obtain ⟨live, hl, rfl⟩ := Option.map_eq_some_iff.mp he
      exact ⟨_, rfl, Nat.mul_le_mul_right _ ((h j).2.2 a ha |>.2.2 live hl).le⟩
    · exact ⟨edge, he, le_rfl⟩
  · exact .of_same (sameKeys_onStream (s := s.onStore _) ⟨rfl, rfl, rfl, fun b hb => ⟨rfl, a, ha, by cases hb; rfl⟩⟩)

end

end Sys2Proof.Machine
end

section
/-! PROOFS. Positions within their bounds (R92), continued: the clips that channels play keep their points. -/

namespace Sys2Proof.Machine

/-! ## The points of clips (R56) -/

/-- One clip's points, as `ClipPointsOrdered` has them. -/
def Clip.PointsOrdered (c : Clip) : Prop :=
  c.inPoint < 2 ^ 52 ∧ (∀ out, c.outPoint = some out → out < 2 ^ 52) ∧
    (c.state ≠ .opened → ∃ out, c.outPoint = some out ∧ c.inPoint ≤ out)

/-- A channel may be bound to the clip and play it (R95). -/
def Clip.Playable (c : Clip) : Prop := c.state ≠ .opened ∧ c.state ≠ .closing

/-- A clip with the points of another, playable if the other is, and not OPEN unless the other is. -/
structure Clip.Follows (c c' : Clip) : Prop where
  inPoint : c'.inPoint = c.inPoint
  outPoint : c'.outPoint = c.outPoint
  notOpen : c'.state ≠ .opened → c.state ≠ .opened
  playable : c.Playable → c'.Playable

theorem Clip.Follows.refl (c : Clip) : c.Follows c := ⟨rfl, rfl, id, id⟩

theorem Clip.Follows.trans {a b c : Clip} (h : a.Follows b) (k : b.Follows c) : a.Follows c :=
  ⟨k.inPoint.trans h.inPoint, k.outPoint.trans h.outPoint, h.notOpen ∘ k.notOpen, k.playable ∘ h.playable⟩

theorem Clip.Follows.withUse (n : Nat) (c : Clip) : c.Follows (c.withUse n) := ⟨rfl, rfl, id, id⟩

/-- A clip that has an out-point and leaves no playable state. -/
theorem Clip.Follows.closed {c c' : Clip} (hin : c'.inPoint = c.inPoint) (hout : c'.outPoint = c.outPoint)
    (hopen : c.state ≠ .opened) (hplay : c'.Playable) : c.Follows c' := ⟨hin, hout, fun _ => hopen, fun _ => hplay⟩

theorem Clip.PointsOrdered.follow {c c' : Clip} (h : c.PointsOrdered) (hf : c.Follows c') : c'.PointsOrdered := by
  unfold Clip.PointsOrdered
  rw [hf.inPoint, hf.outPoint]
  exact ⟨h.1, h.2.1, fun ho => h.2.2 (hf.notOpen ho)⟩

/-- Each clip of one state follows the clip with its id in the other. -/
def ClipsFollow (s t : State) : Prop := ∀ id, Option.Rel Clip.Follows (s.clip id) (t.clip id)

section
variable {s t u : State}

theorem optionRel_refl (o : Option Clip) : Option.Rel Clip.Follows o o := by
  cases o with
  | none => exact .none
  | some c => exact .some (.refl c)

theorem ClipsFollow.of_clips (h : t.clips = s.clips) : ClipsFollow s t := fun id => by
  rw [clip_of_clips h]
  exact optionRel_refl _

theorem ClipsFollow.trans (h : ClipsFollow s t) (k : ClipsFollow t u) : ClipsFollow s u := by
  intro id
  have h1 := h id
  have h2 := k id
  generalize s.clip id = a, t.clip id = b, u.clip id = c at h1 h2
  cases h1 with
  | none => exact h2
  | some hf => cases h2 with
    | some hk => exact .some (hf.trans hk)

theorem ClipsFollow.insert {id : Nat} {c c' : Clip} (hc : s.clip id = some c) (hf : c.Follows c') :
    ClipsFollow s { s with clips := s.clips.insert id c' } := by
  intro j
  rw [clip_insert]
  split
  · rename_i e; subst e; rw [hc]; exact .some hf
  · exact optionRel_refl _

theorem ClipsFollow.onClip (id : Nat) {f : Clip → Clip} (hf : ∀ c, s.clip id = some c → c.Follows (f c)) :
    ClipsFollow s (s.onClip id f) := by
  intro j
  rw [clip_onClip]
  split
  · rename_i e
    subst e
    cases hc : s.clip j with
    | none => exact .none
    | some c => exact .some (hf c hc)
  · exact optionRel_refl _

theorem ClipsFollow.leaveClip (b : Binding) (s : State) : ClipsFollow s (leaveClip b s) := by
  intro j
  rw [clip_leaveClip]
  split
  · cases s.clip j with
    | none => exact .none
    | some c => exact .some (.withUse _ c)
  · exact optionRel_refl _

theorem ClipsFollow.joinClip (b : Binding) (s : State) : ClipsFollow s (joinClip b s) := by
  intro j
  rw [clip_joinClip]
  split
  · cases s.clip j with
    | none => exact .none
    | some c => exact .some (.withUse _ c)
  · exact optionRel_refl _

theorem ClipsFollow.closeClips (hwf : s.clips.wf) (time : Nat) : ClipsFollow s (closeClips time s) := by
  refine closeClips_keeps (P := ClipsFollow s) hwf (fun u id c out e hu hc hst _ _ => ?_) (.of_clips rfl)
  exact (hu.trans (.insert hc (c' := { c with state := .closed }) (.closed rfl rfl (by simp [hst]) (by simp [Clip.Playable])))).trans
    (.of_clips rfl)

theorem ClipPointsOrdered.follow (h : ClipPointsOrdered s) (hf : ClipsFollow s t) : ClipPointsOrdered t := by
  intro id c' hc'
  have hrel := hf id
  rw [hc'] at hrel
  generalize hc : s.clip id = o at hrel
  cases hrel with
  | some hcc => exact Clip.PointsOrdered.follow (h id _ hc) hcc

/-- A clip of the table is written with points in order, or leaves the table. -/
theorem ClipPointsOrdered.write (h : ClipPointsOrdered s) {id : Nat} {o : Option Clip}
    (ht : ∀ j, t.clip j = if j = id then o else s.clip j) (ho : ∀ c, o = some c → c.PointsOrdered) : ClipPointsOrdered t := by
  intro j c hc
  rw [ht] at hc
  split at hc
  · exact ho c hc
  · exact h j c hc

/-- A playable clip that some channel is bound to is followed by the clip with its id. -/
def PlayedClipsFollow (s t : State) : Prop :=
  ∀ id c, s.clip id = some c → c.Playable → 0 < c.useCount → ∃ c', t.clip id = some c' ∧ c.Follows c'

theorem ClipsFollow.played (h : ClipsFollow s t) : PlayedClipsFollow s t := by
  intro id c hc _ _
  have hrel := h id
  rw [hc] at hrel
  generalize ht : t.clip id = o at hrel
  cases hrel with
  | some hf => exact ⟨_, rfl, hf⟩

/-- The clip that is written was not playable, or no channel was bound to it. -/
theorem PlayedClipsFollow.write {id : Nat} {o : Option Clip} (ht : ∀ j, t.clip j = if j = id then o else s.clip j)
    (hno : ∀ c, s.clip id = some c → c.Playable → c.useCount = 0) : PlayedClipsFollow s t := by
  intro j c hc hplay hpos
  rw [ht]
  split
  · rename_i e
    subst e
    exact absurd (hno c hc hplay) hpos.ne'
  · exact ⟨c, hc, .refl c⟩

/-! ## A channel that a change leaves alone -/

theorem State.Placed.of_followed {c : Channel} (h : s.Placed c) (hedges : EdgesRise s t)
    (hclips : ∀ id a k, c.binding = .clip id a → s.clip id = some k → k.Playable → ∃ k', t.clip id = some k' ∧ k.Follows k') :
    t.Placed c := by
  obtain ⟨hpos, hbound, hclip, hfree⟩ := h
  refine ⟨hpos, hbound, fun hplay id a hb => ?_, fun hplay origin i hb => ?_⟩
  · obtain ⟨k, out, hk, ho, hc, hout, hlo, hhi⟩ := hclip hplay id a hb
    obtain ⟨k', hk', hf⟩ := hclips id a k hb hk ⟨ho, hc⟩
    obtain ⟨ho', hc'⟩ := hf.playable ⟨ho, hc⟩
    exact ⟨k', out, hk', ho', hc', hf.outPoint.trans hout, hf.inPoint ▸ hlo, hhi⟩
  · obtain ⟨hnot, edge, he, hle⟩ := hfree hplay origin i hb
    obtain ⟨e, he', hle'⟩ := hedges i edge he
    exact ⟨hnot, e, he', hle.trans hle'⟩

theorem State.Placed.follow {c : Channel} (h : s.Placed c) (hedges : EdgesRise s t) (hclips : ClipsFollow s t) : t.Placed c := by
  refine h.of_followed hedges fun id a k _ hk _ => ?_
  have hrel := hclips id
  rw [hk] at hrel
  generalize ht : t.clip id = o at hrel
  cases hrel with
  | some hf => exact ⟨_, rfl, hf⟩

/-- A clip that a channel is bound to has a use count above 0 (R59). -/
theorem UseCountsMatch.pos (h : UseCountsMatch s) {ch : Fin 4} {id : Nat} {c : Clip} (hc : s.clip id = some c)
    (hb : (s.channel ch).binding.clipId = some id) : 0 < c.useCount := by
  rw [h.2.2 id c hc]
  exact List.length_pos_of_mem (List.mem_filter.mpr ⟨mem_allFour ch, decide_eq_true hb⟩)

theorem UseCountsMatch.placed (h : UseCountsMatch s) {ch : Fin 4} (hp : s.Placed (s.channel ch)) (hedges : EdgesRise s t)
    (hclips : PlayedClipsFollow s t) : t.Placed (s.channel ch) :=
  hp.of_followed hedges fun id _ k hb hk hplay => hclips id k hk hplay (h.pos (ch := ch) hk (by rw [hb]; rfl))

/-- A channel that does not play is placed wherever its position is a grain time. -/
theorem State.Placed.of_not_playing {c : Channel} (hplay : c.playing = false) (hpos : c.position < 2 ^ 52) : s.Placed c := by
  have hno : ¬ c.playing = true := by rw [hplay]; nofun
  exact ⟨hpos, fun h => absurd h hno, fun h => absurd h hno, fun h => absurd h hno⟩

/-! ## The position of a new binding (R95, R115) -/

/-- A free channel between the recall start and the live edge of its stream. -/
theorem State.Placed.free (hk : KeysOrdered s) {i : Fin 8} {lo hi : Nat} (hb : s.streamBounds i = some (lo, hi)) (x : Int)
    {c : Channel} {origin : Nat} (hbind : c.binding = .free origin i) (hst : c.state ≠ .inBreak)
    (hpos : c.position = clampPos lo hi x) : s.Placed c := by
  obtain ⟨hedge, hle, hlt⟩ := hk.le_of_streamBounds hb
  have hhi : c.position ≤ hi := hpos ▸ clampPos_le hle x
  refine ⟨hhi.trans_lt hlt, fun _ => by rw [hbind]; nofun, fun _ id a h => ?_, fun _ o j h => ?_⟩
  · rw [hbind] at h; cases h
  · rw [hbind] at h
    cases h
    exact ⟨hst, hi, hedge, hhi⟩

theorem bindTo_placed (hk : KeysOrdered s) (hp : ClipPointsOrdered s) {f : BindForm} {b : Binding} {p : Nat}
    (h : bindTo f s = .ok (b, p)) {c : Channel} (hb : c.binding = b) (hpos : c.position = p) (hst : c.state = .cued) :
    s.Placed c := by
  subst hb hpos
  unfold bindTo at h
  split at h
  · split at h
    · cases h
    · split at h
      · cases h
      · rename_i k hk'
        split at h
        · cases h
        · rename_i hstate
          split at h
          · cases h
          · obtain ⟨hbind, hposition⟩ := Prod.mk.inj (Except.ok.inj h)
            obtain ⟨-, hlt, hord⟩ := hp _ k hk'
            have hopen : k.state ≠ .opened := by rintro e; simp [e] at hstate
            have hclosing : k.state ≠ .closing := by rintro e; simp [e] at hstate
            obtain ⟨out, hout, hle⟩ := hord hopen
            rw [hout, Option.getD_some] at hposition
            have hle' : k.inPoint ≤ c.position ∧ c.position ≤ out := by omega
            refine ⟨hle'.2.trans_lt (hlt out hout), fun _ => by rw [← hbind]; nofun, fun _ j a hj => ?_, fun _ o i hi => ?_⟩
            · rw [← hbind] at hj
              cases hj
              exact ⟨k, out, hk', hopen, hclosing, hout, hle'⟩
            · rw [← hbind] at hi
              cases hi
  · split at h
    · cases h
    · rename_i pos _ i _
      have hfree {lim : Bool} {x : Nat → Int}
          (h : (if lim then .error .badArgument
            else match s.streamBounds i with
              | none => .error .notFound
              | some (lo, hi) => .ok (.free (clampPos lo hi (x hi)) i, clampPos lo hi (x hi))) =
            Except.ok (ε := Status) (c.binding, c.position)) : s.Placed c := by
        split at h
        · cases h
        · split at h
          · cases h
          · rename_i lo hi hbounds
            obtain ⟨hbind, hposition⟩ := Prod.mk.inj (Except.ok.inj h)
            exact .free hk hbounds _ hbind.symm (by rw [hst]; nofun) hposition.symm
      cases pos with
      | absolute time => exact hfree (x := fun _ => time) h
      | liveMinus n => exact hfree (x := fun hi => (hi : Int) - n * 2880) h

end

end Sys2Proof.Machine
end

section
/-! PROOFS. Positions within their bounds (R92), change by change. -/

namespace Sys2Proof.Machine

section
variable {S : Scope} {s t : State}

theorem stream_configured {i : Fin 8} (h : t.streams = forgetKeys s.streams) : t.stream i = (s.stream i).forget := by
  unfold State.stream
  rw [h, forgetKeys_get]

/-- While CONFIGURE STORE is taken no stream is enabled and every channel is IDLE (R33). -/
theorem idle_of_configureStoreCheck {pairs : Eight (Nat × Nat)} (h : configureStoreCheck (Eight.toList pairs) s = none) :
    (∀ i, (s.stream i).enabled = false) ∧ ∀ ch, (s.channel ch).state = .idle := by
  classical
  rw [configureStoreCheck_eq] at h
  have hfree : ¬ StoreInUse s := fun hu => by
    by_cases hm : Malformed pairs
    · rw [if_pos hm] at h; cases h
    · rw [if_neg hm, if_pos hu] at h; cases h
  refine ⟨fun i => Bool.eq_false_iff.mpr fun hi => hfree (.inl ⟨i, hi⟩), fun ch => not_not.mp fun hch => ?_⟩
  exact hfree (.inr (.inr ⟨ch, hch⟩))

theorem Change.keysOrdered (h : Change S s t) (hs : StoreSound s) (hk : KeysOrdered s) : KeysOrdered t := by
  have hcontents {u v : State} (hu : KeysOrdered u) (h : ∃ c, v = { u with clips := c }) : KeysOrdered v := by
    obtain ⟨c, rfl⟩ := h
    exact hu.of_eq rfl rfl
  have hidle {u : State} (hu : KeysOrdered u) : KeysOrdered (idleEngine u) := hu.of_eq (idleEngine_streams u) (idleEngine_store u)
  have hstream (i : Fin 8) {f : Stream → Stream} (hf : (s.stream i).SameKeys (f (s.stream i))) : KeysOrdered (s.onStream i f) :=
    hk.of_same (sameKeys_onStream hf) fun _ => ⟨rfl, rfl⟩
  cases h with
  | reads => exact hk.of_same (fun _ => .refl _) fun _ => ⟨rfl, rfl⟩
  | errors => exact hk.of_same (fun _ => .refl _) fun _ => ⟨rfl, rfl⟩
  | streamCounters i a b c => exact hstream i ⟨rfl, rfl, rfl, fun b hb => ⟨rfl, b, hb, rfl⟩⟩
  | abandon i =>
    exact hk.of_same (fun j => abandon_sameKeys i j s) fun j => by rw [abandon_allotment]; exact ⟨rfl, rfl⟩
  | startFrame i key payload _ hen hkey hlive h => exact hk.startFrame hen hkey hlive h
  | continueFrame i a payload h => exact hk.continueFrame hs payload h
  | enable i l sourceId k _ _ _ hmult =>
    refine hk.onStream i fun hi => ?_
    obtain ⟨h1, h2, -⟩ := hi
    refine ⟨h1, fun live hlive => ?_, nofun⟩
    obtain rfl := hmult (by rw [show (s.stream i).lastKey = some live from hlive]; rfl)
    exact h2 live hlive
  | disable i h => exact hstream i (.waiting rfl rfl rfl h)
  | configureStore hS pairs h =>
    obtain ⟨hoff, -⟩ := idle_of_configureStoreCheck h
    intro i
    refine ⟨fun _ => ?_, fun live hlive => ?_, fun b hb => ?_⟩
    · rw [stream_configured (s := s) rfl]; rfl
    · rw [stream_configured (s := s) rfl] at hlive; cases hlive
    · rw [stream_configured (s := s) rfl] at hb
      have := ((hk i).2.2 b hb).1
      rw [hoff i] at this
      cases this
  | closeClips time =>
    obtain ⟨_, _, h, -⟩ := closeClips_eq time s
    exact hk.of_eq (by rw [h]) (by rw [h])
  | drop id c => exact (hk.releaseHolds hs c.heldSlots).of_eq (removeClip_streams _ _ _) (removeClip_store _ _ _)
  | completeWalk hS id => exact hidle (hcontents hk (onClip_eq id _ s))
  | holdEntered i key x t w c p l hw hc hp hl h => exact (hk.takeHold hs h).of_eq rfl rfl
  | unwind hS w => exact hidle (hcontents (hk.releaseHolds hs _) (onClip_eq _ _ _))
  | fragment hS i key x t w hw h =>
    exact hidle (hcontents ((hk.takeHold hs h).releaseHolds (hs.takeHold h) _) (onClip_eq _ _ _))
  | strayHold i key x t h => exact hk.takeHold hs h
  | release id c p => exact hcontents (hk.releaseHolds hs _) (onClip_eq _ _ _)
  | bind ch hS f b p => exact (hcontents (hcontents hk (leaveClip_eq _ s)) (joinClip_eq b _)).of_eq rfl rfl
  | resetChannel ch hS => exact (hcontents hk (leaveClip_eq _ s)).of_eq rfl rfl
  | runOn ch hS => exact (hcontents hk (leaveClip_eq _ s)).of_eq rfl rfl
  | clearCounters =>
    refine hk.of_same (fun i => ?_) fun _ => ⟨rfl, rfl⟩
    rw [stream_clearCounters]
    exact ⟨rfl, rfl, rfl, fun b hb => ⟨rfl, b, hb, rfl⟩⟩
  | reset hS id links held =>
    intro i
    have hi : ({ resetBlocks id links s with resetHeld := held } : State).stream i = {} := stream_resetBlocks id links s i
    refine ⟨fun _ => ?_, fun live hlive => ?_, fun b hb => ?_⟩
    · rw [hi]
    · rw [hi] at hlive; cases hlive
    · rw [hi] at hb; cases hb
  | _ => exact hk.of_eq rfl rfl

/-- The live edges rise, or no channel plays afterwards. -/
theorem Change.edgesRise (h : Change S s t) (hk : KeysOrdered s) : EdgesRise s t ∨ ∀ ch, (t.channel ch).playing = false := by
  have hstream (i : Fin 8) {f : Stream → Stream} (hf : (s.stream i).SameKeys (f (s.stream i))) : EdgesRise s (s.onStream i f) :=
    .of_same (sameKeys_onStream hf)
  have hclips {u v : State} (hu : u.streams = s.streams) (h : ∃ c, v = { u with clips := c }) : v.streams = s.streams := by
    obtain ⟨c, rfl⟩ := h
    exact hu
  cases h with
  | streamCounters i a b c => exact .inl (hstream i ⟨rfl, rfl, rfl, fun b hb => ⟨rfl, b, hb, rfl⟩⟩)
  | abandon i => exact .inl (.of_same fun j => abandon_sameKeys i j s)
  | startFrame i key payload t _ _ _ h =>
    refine .inl fun j edge he => ⟨edge, ?_, le_rfl⟩
    obtain ⟨x, hj⟩ := startFrame_stream h j
    unfold State.liveEdge State.period at he ⊢
    rw [hj]
    split
    · rename_i e; subst e; exact he
    · exact he
  | continueFrame i a payload h => exact .inl (.continueFrame hk payload h)
  | enable i l sourceId k _ _ _ hmult =>
    refine .inl fun j edge he => ⟨edge, ?_, le_rfl⟩
    unfold State.liveEdge State.period at he ⊢
    rw [State.stream_onStream]
    split
    · rename_i e
      subst e
      obtain ⟨live, hlive, rfl⟩ := Option.map_eq_some_iff.mp he
      have := hmult (by rw [hlive]; rfl)
      show (s.stream j).lastKey.map (· * nativePeriod k) = _
      rw [hlive, this]
      rfl
    · exact he
  | disable i h => exact .inl (hstream i (.waiting rfl rfl rfl h))
  | configureStore hS pairs h =>
    refine .inr fun ch => ?_
    have : (s.channel ch).playing = false := by rw [Channel.playing, (idle_of_configureStoreCheck h).2 ch]
    exact this
  | closeClips time =>
    obtain ⟨_, _, h, -⟩ := closeClips_eq time s
    exact .inl (.of_streams (by rw [h]))
  | drop id c => exact .inl (.of_streams ((removeClip_streams _ _ _).trans (releaseHolds_streams _ _)))
  | completeWalk hS id => exact .inl (.of_streams ((idleEngine_streams _).trans (onClip_streams _ _ _)))
  | holdEntered i key x t w c p l hw hc hp hl h =>
    have : t.streams = s.streams := takeHold_streams h
    exact .inl (.of_streams this)
  | unwind hS w =>
    exact .inl (.of_streams ((idleEngine_streams _).trans (hclips (releaseHolds_streams _ _) (onClip_eq _ _ _))))
  | fragment hS i key x t w hw h =>
    exact .inl (.of_streams ((idleEngine_streams _).trans
      (hclips ((releaseHolds_streams _ _).trans (takeHold_streams h)) (onClip_eq _ _ _))))
  | strayHold i key x t h => exact .inl (.of_streams (takeHold_streams h))
  | release id c p => exact .inl (.of_streams (hclips (releaseHolds_streams _ _) (onClip_eq _ _ _)))
  | bind ch hS f b p =>
    have : (joinClip b (leaveClip (s.channel ch).binding s)).streams = s.streams :=
      hclips (hclips rfl (leaveClip_eq _ s)) (joinClip_eq b _)
    exact .inl (.of_streams this)
  | resetChannel ch hS =>
    have : (leaveClip (s.channel ch).binding s).streams = s.streams := hclips rfl (leaveClip_eq _ s)
    exact .inl (.of_streams this)
  | runOn ch hS =>
    have : (leaveClip (s.channel ch).binding s).streams = s.streams := hclips rfl (leaveClip_eq _ s)
    exact .inl (.of_streams this)
  | clearCounters =>
    refine .inl (.of_same fun i => ?_)
    rw [stream_clearCounters]
    exact ⟨rfl, rfl, rfl, fun b hb => ⟨rfl, b, hb, rfl⟩⟩
  | reset hS id links held =>
    refine .inr fun ch => ?_
    have : ({ resetBlocks id links s with resetHeld := held } : State).channel ch = {} := channel_resetBlocks id links s ch
    rw [this]
    rfl
  | _ => exact .inl (.of_streams rfl)

/-- A group's open clip is OPEN (R54). -/
theorem HoldsMatchClips.opened (h : HoldsMatchClips s) {g : Fin 4} {id : Nat} {c : Clip} (hg : (s.group g).openClip = some id)
    (hc : s.clip id = some c) : c.state = .opened := by
  obtain ⟨k, hk, ho, -⟩ := h.2.1.1 g id hg
  rw [hc] at hk
  cases hk
  exact ho

theorem Clip.not_playable_of_opened {c : Clip} (h : c.state = .opened) : ¬ c.Playable := fun hp => hp.1 h

/-- The clip of a walk is closed again. -/
theorem ClipsFollow.unwound (hs : HoldsMatchClips s) {w : Walk} (hw : s.engine.walk = some w) (ht : t.clips = s.clips) :
    ClipsFollow s (t.onClip w.clip fun c => { c with state := .closed, protection := none }) := by
  obtain ⟨c, p, hc, hst, -⟩ := hs.2.2.1 w hw
  refine (ClipsFollow.of_clips ht).trans (.onClip _ fun c' hc' => ?_)
  rw [clip_of_clips ht, hc] at hc'
  cases hc'
  exact .closed rfl rfl (by rw [hst]; nofun) ⟨nofun, nofun⟩

theorem Change.clipsOrdered (h : Change S s t) (hs : HoldsMatchClips s) (hp : ClipPointsOrdered s) :
    ClipPointsOrdered t ∧ (PlayedClipsFollow s t ∨ ∀ ch, (t.channel ch).playing = false) := by
  have hfollow {u : State} (h : ClipsFollow s u) :
      ClipPointsOrdered u ∧ (PlayedClipsFollow s u ∨ ∀ ch, (u.channel ch).playing = false) := ⟨hp.follow h, .inl h.played⟩
  have hwrite {u : State} {id : Nat} {o : Option Clip} (hu : ∀ j, u.clip j = if j = id then o else s.clip j)
      (ho : ∀ c, o = some c → c.PointsOrdered) (hno : ∀ c, s.clip id = some c → c.Playable → c.useCount = 0) :
      ClipPointsOrdered u ∧ (PlayedClipsFollow s u ∨ ∀ ch, (u.channel ch).playing = false) :=
    ⟨hp.write hu ho, .inl (.write hu hno)⟩
  have hfree {id : Nat} {c : Clip} (hc : s.clip id = some c) (hu : c.useCount = 0) (c' : Clip) (hc' : s.clip id = some c')
      (_ : c'.Playable) : c'.useCount = 0 := by
    rw [hc] at hc'
    cases hc'
    exact hu
  have hopen {g : Fin 4} {id : Nat} (hg : (s.group g).openClip = some id) (c' : Clip) (hc' : s.clip id = some c')
      (hplay : c'.Playable) : c'.useCount = 0 := absurd hplay (Clip.not_playable_of_opened (hs.opened hg hc'))
  cases h with
  | abandon i =>
    obtain ⟨_, _, _, _, h⟩ := SameButContents.abandon i s
    exact hfollow (.of_clips (by rw [h]))
  | startFrame i key payload _ _ _ _ h =>
    obtain ⟨_, _, _, _, rfl⟩ := SameButContents.startFrame h
    exact hfollow (.of_clips rfl)
  | continueFrame i a payload =>
    obtain ⟨_, _, _, _, h⟩ := SameButContents.continueFrame i a payload s
    exact hfollow (.of_clips (by rw [h]))
  | clip id c c' hc hk hin =>
    exact hfollow (.insert hc ⟨hin, hk.outPoint, by rw [hk.state]; exact fun h => h,
      by unfold Clip.Playable; rw [hk.state]; exact fun h => h⟩)
  | remark g id time c hc hg ht =>
    refine hwrite (o := some { c with inPoint := time }) (fun j => clip_insert _ _ _ _) (fun c' hc' => ?_) (hopen hg)
    cases hc'
    exact ⟨ht, (hp id c hc).2.1, fun ho => absurd (hs.opened hg hc) ho⟩
  | closeOut g id time now c hc hg hin ht =>
    refine hwrite (o := some { c with outPoint := some time, state := closedBy time now }) (fun j => clip_insert _ _ _ _)
      (fun c' hc' => ?_) (hopen hg)
    cases hc'
    exact ⟨(hp id c hc).1, fun out ho => by cases ho; exact ht, fun _ => ⟨time, rfl, hin.le⟩⟩
  | create id c hid _ _ _ hin hout hord =>
    obtain ⟨-, hnone, -⟩ := lowestFree_some hid
    refine hwrite (o := some c) (fun j => clip_insert _ _ _ _) (fun c' hc' => ?_) fun c' hc' => ?_
    · cases hc'
      exact ⟨hin, hout, hord⟩
    · rw [show s.clip id = none from hnone] at hc'
      cases hc'
  | recycle id c hmem hrec =>
    refine hwrite (o := none) (fun j => Table.find_erase _ _ _) nofun (hfree (Table.find_of_mem hs.1 hmem) ?_)
    simp only [recyclable, Bool.and_eq_true, decide_eq_true_eq] at hrec
    exact hrec.1.2
  | closeClips time => exact hfollow (.closeClips hs.1 time)
  | drop id c hc hst huse =>
    refine hwrite (o := none) (fun j => ?_) nofun (hfree hc huse)
    rw [clip_removeClip, clip_of_clips (releaseHolds_clips _ _)]
  | protect id c hc hst => exact hfollow (.insert hc (.closed rfl rfl (by rw [hst]; nofun) ⟨nofun, nofun⟩))
  | completeWalk hS id h =>
    obtain ⟨c, hc, hst, -⟩ := h hs.2.2.1
    refine hfollow ((ClipsFollow.onClip id fun c' hc' => ?_).trans (.of_clips (idleEngine_clips _)))
    rw [hc] at hc'
    cases hc'
    exact .closed rfl rfl (by rw [hst]; nofun) ⟨nofun, nofun⟩
  | holdEntered i key x t w c p l hw hc hp' hl h =>
    refine hfollow ((ClipsFollow.of_clips (takeHold_clips h)).trans
      (.insert (c := c) ?_ ⟨rfl, rfl, fun h => h, fun h => h⟩))
    rw [clip_of_clips (takeHold_clips h)]
    exact hc
  | unwind hS w hw => exact hfollow ((ClipsFollow.unwound hs hw (releaseHolds_clips _ _)).trans (.of_clips (idleEngine_clips _)))
  | fragment hS i key x t w hw h =>
    exact hfollow ((ClipsFollow.unwound hs hw ((releaseHolds_clips _ _).trans (takeHold_clips h))).trans
      (.of_clips (idleEngine_clips _)))
  | strayHold i key x t h => exact hfollow (.of_clips (takeHold_clips h))
  | release id c p hc hst hp =>
    refine hfollow ((ClipsFollow.of_clips (releaseHolds_clips _ _)).trans (.onClip id fun c' hc' => ?_))
    rw [clip_of_clips (releaseHolds_clips _ _), hc] at hc'
    cases hc'
    exact .closed rfl rfl (by rw [hst]; nofun) ⟨nofun, nofun⟩
  | bind ch hS f b p =>
    exact hfollow (((ClipsFollow.leaveClip _ s).trans (.joinClip b _)).trans (.of_clips rfl))
  | resetChannel ch hS => exact hfollow ((ClipsFollow.leaveClip _ s).trans (.of_clips rfl))
  | runOn ch hS => exact hfollow ((ClipsFollow.leaveClip _ s).trans (.of_clips rfl))
  | reset hS id links held =>
    refine ⟨nofun, .inr fun ch => ?_⟩
    have : ({ resetBlocks id links s with resetHeld := held } : State).channel ch = {} := channel_resetBlocks id links s ch
    rw [this]
    rfl
  | _ => exact hfollow (.of_clips rfl)

theorem idleEngine_channels (s : State) : (idleEngine s).channels = s.channels := rfl

/-- A channel that leaves its clip, or joins one, stays placed while the others do. -/
theorem placed_rebound {ch : Fin 4} {b : Binding} {f : Channel → Channel} (hp : ∀ j, s.Placed (s.channel j))
    (hf : s.Placed (f (s.channel ch))) (j : Fin 4) :
    ((joinClip b (leaveClip (s.channel ch).binding s)).onChannel ch f).Placed
      (((joinClip b (leaveClip (s.channel ch).binding s)).onChannel ch f).channel j) := by
  have hfollow : ClipsFollow s (joinClip b (leaveClip (s.channel ch).binding s)) :=
    (ClipsFollow.leaveClip _ s).trans (.joinClip b _)
  obtain ⟨c, hc⟩ := leaveClip_eq (s.channel ch).binding s
  obtain ⟨d, hd⟩ := joinClip_eq b (leaveClip (s.channel ch).binding s)
  rw [hc] at hd
  rw [hc, hd] at hfollow ⊢
  rw [State.channel_onChannel]
  have hedges : EdgesRise s (({ s with clips := d } : State).onChannel ch f) := .of_streams rfl
  split
  · exact hf.follow hedges (hfollow.trans (.of_clips rfl))
  · exact (hp j).follow hedges (hfollow.trans (.of_clips rfl))

theorem Change.positionsInBounds (h : Change S s t) (hu : UseCountsMatch s) (hm : HoldsMatchClips s) (hs : StoreSound s)
    (hp : PositionsInBounds s) : PositionsInBounds t := by
  obtain ⟨hk, hc, hplaced⟩ := hp
  have hplaced : ∀ ch, s.Placed (s.channel ch) := hplaced
  obtain ⟨hct, hfollow⟩ := h.clipsOrdered hm hc
  have hedges := h.edgesRise hk
  refine ⟨h.keysOrdered hs hk, hct, ?_⟩
  have hstay (ch : Fin 4) (hch : t.channel ch = s.channel ch) : t.Placed (t.channel ch) := by
    rcases hedges with hedges | hno
    · rcases hfollow with hfollow | hno
      · rw [hch]
        exact hu.placed (hplaced ch) hedges hfollow
      · exact .of_not_playing (hno ch) (hch ▸ (hplaced ch).1)
    · exact .of_not_playing (hno ch) (hch ▸ (hplaced ch).1)
  have hchannels (h : t.channels = s.channels) : ∀ ch, t.Placed (t.channel ch) := fun ch =>
    hstay ch (by unfold State.channel; rw [h])
  have hclips {u v : State} (h : ∃ c, v = { u with clips := c }) : v.channels = u.channels := by
    obtain ⟨c, rfl⟩ := h
    rfl
  show ∀ ch, t.Placed (t.channel ch)
  cases h with
  | channel ch hS f h =>
    intro j
    rw [State.channel_onChannel]
    split
    · exact h.placed hk hc (hplaced ch)
    · exact hplaced j
  | bind ch hS f b p hb => exact placed_rebound hplaced (bindTo_placed hk hc hb rfl rfl rfl)
  | resetChannel ch hS => exact placed_rebound (b := .unbound) hplaced (.of_not_playing rfl (by show 0 < 2 ^ 52; norm_num))
  | runOn ch hS tin stream lo hi x hrun hb =>
    exact placed_rebound (b := .unbound) hplaced (.free hk hb x rfl (by show (s.channel ch).state ≠ _; rw [hrun]; nofun) rfl)
  | clearCounters =>
    intro ch
    have : (Machine.clearCounters s).channel ch = { s.channel ch with mixer := { (s.channel ch).mixer with slip := 0 } } :=
      channel_clearCounters s ch
    rw [this]
    exact (hplaced ch).follow (.of_same fun i => by
      rw [stream_clearCounters]; exact ⟨rfl, rfl, rfl, fun b hb => ⟨rfl, b, hb, rfl⟩⟩) (.of_clips rfl)
  | reset hS id links held =>
    intro ch
    have : ({ resetBlocks id links s with resetHeld := held } : State).channel ch = {} := channel_resetBlocks id links s ch
    rw [this]
    exact .of_not_playing rfl (by norm_num)
  | abandon i =>
    obtain ⟨_, _, _, _, h⟩ := SameButContents.abandon i s
    exact hchannels (by rw [h])
  | startFrame i key payload _ _ _ _ h =>
    obtain ⟨_, _, _, _, rfl⟩ := SameButContents.startFrame h
    exact hchannels rfl
  | continueFrame i a payload =>
    obtain ⟨_, _, _, _, h⟩ := SameButContents.continueFrame i a payload s
    exact hchannels (by rw [h])
  | closeClips time =>
    obtain ⟨_, _, h, -⟩ := closeClips_eq time s
    exact hchannels (by rw [h])
  | drop id c => exact hchannels ((removeClip_channels _ _ _).trans (releaseHolds_channels _ _))
  | completeWalk hS id => exact hchannels ((idleEngine_channels _).trans (hclips (u := s) (onClip_eq id _ s)))
  | holdEntered i key x t w c p l hw hc hp hl h =>
    obtain ⟨_, _, _, _, rfl⟩ := SameButContents.takeHold h
    exact hchannels rfl
  | unwind hS w =>
    exact hchannels ((idleEngine_channels _).trans ((hclips (onClip_eq _ _ _)).trans (releaseHolds_channels _ _)))
  | fragment hS i key x t w hw h =>
    obtain ⟨_, _, _, _, rfl⟩ := SameButContents.takeHold h
    exact hchannels ((idleEngine_channels _).trans ((hclips (onClip_eq _ _ _)).trans (releaseHolds_channels _ _)))
  | strayHold i key x t h =>
    obtain ⟨_, _, _, _, rfl⟩ := SameButContents.takeHold h
    exact hchannels rfl
  | release id c p => exact hchannels ((hclips (onClip_eq _ _ _)).trans (releaseHolds_channels _ _))
  | _ => exact hchannels rfl

end

end Sys2Proof.Machine

namespace Sys2Proof.Proofs

open Sys2Proof.Machine

/-- Settles O13: keys rise, a clip that a channel plays keeps its points, and a change of a channel places it within bounds. -/
theorem positionsStayInBounds : Obligations.PositionsStayInBounds := by
  intro s t hu hm hs hp h
  have hkeeps := step_keeps (P := fun s => (UseCountsMatch s ∧ HoldsMatchClips s) ∧ StoreSound s ∧ PositionsInBounds s)
    (fun _ _ h hs => ⟨⟨h.useCountsMatch hs.1.1, h.holdsMatchClips hs.1.2⟩, h.storeSound hs.2.1,
      h.positionsInBounds hs.1.1 hs.1.2 hs.2.1 hs.2.2⟩) fun _ _ h => h
  exact (hkeeps s t ⟨⟨hu, hm⟩, hs, hp⟩ h).2.2

end Sys2Proof.Proofs
end

section
/-! PROOFS. What every event keeps, every step keeps: an event is a request, a timer event round a boundary, or one of the
others. With it, the fault levels (R169). -/

namespace Sys2Proof.Machine

/-! ## Steps by their events -/

/-- The commands that are events of the Reference Timer, with the counters' last counts (R11). -/
def Instr.ofTimer : Instr → Bool
  | .referencePulse _ | .flywheelExpiry | .lostFreeRun | .pulseEnd _ | .shuttleLapse _ | .holdCountExpiry _
  | .breakTimerExpiry _ => true
  | _ => false

/-- A property that the endpoint, the ports, the timer and the queue of commands do not bear on, and that every boundary,
every request and every other event keeps. -/
structure KeptByEvents (P : State → Prop) : Prop where
  endpoint : ∀ f s, P s → P (s.onEndpoint f)
  port : ∀ l f s, P s → P (s.onPort l f)
  timer : ∀ f s, P s → P (s.onTimer f)
  freeIndex : ∀ n s, P s → P { s with freeIndex := n }
  pending : ∀ p s, P s → P { s with pending := p }
  boundary : ∀ s, P s → P (boundary s)
  request : ∀ i o kind run s, requestRun i = some (o, kind, run) → P s → P (run s).state
  event : ∀ i s t, requestRun i = none → Instr.ofTimer i = false → P s → exec i s = .next t → P t

namespace KeptByEvents

variable {P : State → Prop} (h : KeptByEvents P) {s t : State}
include h

theorem noteState (old : RefState) (hs : P s) : P (noteState old s) := by
  unfold Machine.noteState
  split
  · exact hs
  · exact h.endpoint _ _ hs

theorem retimePulse (c : Nat) (hs : P s) : P (retimePulse c s) := by
  unfold Machine.retimePulse
  dsimp only
  split
  · exact h.noteState _ (h.timer _ _ (h.boundary _ hs))
  · exact h.noteState _ (h.timer _ _ hs)

theorem takePulse (c : Nat) (hs : P s) : P (takePulse c s) := by
  have haccept : P (acceptPulse c s) := h.noteState _ (h.timer _ _ (h.boundary _ hs))
  unfold Machine.takePulse
  dsimp only
  split
  · exact h.noteState _ (h.timer _ _ hs)
  · split
    · exact haccept
    · exact h.timer _ _ hs
  · split
    · exact haccept
    · exact h.timer _ _ hs
  · split
    · exact haccept
    · exact h.retimePulse c hs
  · exact h.retimePulse c hs

theorem flywheelExpiry (hs : P s) (ht : execFlywheelExpiry s = .next t) : P t := by
  unfold execFlywheelExpiry at ht
  split at ht <;> cases ht
  · exact h.noteState _ (h.timer _ _ (h.boundary _ (h.timer _ _ hs)))
  · exact h.noteState _ (h.timer _ _ (h.boundary _ (h.timer _ _ hs)))
  · exact h.noteState _ (h.timer _ _ (h.boundary _ (h.timer _ _ hs)))
  · exact hs

theorem lostFreeRun (hs : P s) (ht : execLostFreeRun s = .next t) : P t := by
  unfold execLostFreeRun at ht
  split at ht <;> cases ht
  · exact h.timer _ _ (h.boundary _ (h.timer _ _ hs))
  · exact hs

theorem nextBoundary (hs : P s) (ht : nextBoundary s = .next t) : P t := by
  unfold Machine.nextBoundary at ht
  split at ht
  · cases ht; exact hs
  · exact h.lostFreeRun hs ht
  · exact h.flywheelExpiry hs ht

theorem boundaryIf (b : Bool) (hs : P s) (ht : (if b then Machine.nextBoundary s else .next s) = .next t) : P t := by
  cases b with
  | true => exact h.nextBoundary hs ht
  | false => cases ht; exact hs

theorem referencePulse (c : Nat) (hs : P s) (ht : execReferencePulse c s = .next t) : P t := by
  unfold execReferencePulse at ht
  dsimp only at ht
  split at ht
  · cases ht; exact h.takePulse 0 hs
  · split at ht <;> cases ht
    · exact h.takePulse c (h.timer _ _ hs)
    · exact hs

theorem clockTick (hs : P s) (ht : clockTick s = .next t) : P t := by
  unfold Machine.clockTick at ht
  dsimp only at ht
  split at ht
  · cases ht; exact hs
  · split at ht
    · cases ht; exact h.timer _ _ hs
    · exact h.lostFreeRun hs ht
  · split at ht
    · cases ht; exact h.timer _ _ hs
    · exact h.flywheelExpiry hs ht

theorem takeRequest {o : Origin} {kind : Nat} {run : State → Answer} (hrun : ∀ s, P s → P (run s).state) (hs : P s)
    (ht : takeRequest o kind run s = .next t) : P t := by
  unfold Machine.takeRequest at ht
  dsimp only at ht
  split at ht <;> cases ht
  · exact h.port _ _ _ (hrun _ (h.endpoint _ _ hs))
  · exact hs

theorem exec (i : Instr) (hs : P s) (ht : exec i s = .next t) : P t := by
  cases hreq : requestRun i with
  | some r =>
    obtain ⟨o, kind, run⟩ := r
    rw [exec_request hreq] at ht
    exact h.takeRequest (fun s => h.request i o kind run s hreq) hs ht
  | none =>
    cases htimer : Instr.ofTimer i with
    | false => exact h.event i s t hreq htimer hs ht
    | true =>
      cases i with
      | referencePulse c => exact h.referencePulse c hs ht
      | flywheelExpiry => exact h.flywheelExpiry hs ht
      | lostFreeRun => exact h.lostFreeRun hs ht
      | pulseEnd n => exact h.boundaryIf _ hs ht
      | shuttleLapse ch => exact h.boundaryIf _ hs ht
      | holdCountExpiry ch => exact h.boundaryIf _ hs ht
      | breakTimerExpiry ch => exact h.boundaryIf _ hs ht
      | _ => cases htimer

theorem takeOffered (l : Fin 2) (hs : P s) (ht : takeOffered l s = .next t) : P t := by
  unfold Machine.takeOffered at ht
  split at ht
  · cases ht; exact hs
  · rename_i r rest _
    have hpop : P (useFree r.payload (s.onPort l fun p => { p with control := rest })) := by
      unfold useFree
      split
      · exact h.freeIndex _ _ (h.port _ _ _ hs)
      · exact h.port _ _ _ hs
    dsimp only at ht
    split at ht
    · exact h.takeRequest (run := refuse .badArgument) (fun _ => id) hpop ht
    · unfold serveRequest at ht
      split at ht
      · exact h.exec _ hpop ht
      · exact h.takeRequest (run := refuse .badArgument) (fun _ => id) hpop ht

theorem step (hs : P s) (ht : step s = .next t) : P t := by
  unfold Machine.step at ht
  split at ht
  · exact h.exec _ (h.pending _ _ hs) ht
  · unfold idle at ht
    split at ht
    · exact h.takeOffered _ hs ht
    · exact h.clockTick hs ht

end KeptByEvents

/-! ## Fault levels (R169) -/

/-- A channel's fault level is the highest among its causes. -/
def Channel.Settled (c : Channel) : Prop := c.level = c.faultLevel

/-- No channel that is settled stops being so. -/
def LevelsKept (s t : State) : Prop := ∀ ch, (s.channel ch).Settled → (t.channel ch).Settled

/-- The scope of what leaves the channels alone. -/
def Scope.noChannels : Scope := ⟨fun _ => False, True, True⟩

theorem Channel.faultLevel_eq (c : Channel) : c.faultLevel =
    if c.haltCause.isSome then 3
    else if c.conditions.degraded || c.conditions.cueFault then 2
    else if c.conditions.late || c.warnings.any then 1
    else 0 := by
  unfold Channel.faultLevel Channel.haltCause
  cases c.state <;> rfl

/-- A channel with the causes of another has its fault level. -/
theorem Channel.Settled.same {c c' : Channel} (h : c.Settled) (hst : c'.haltCause.isSome = c.haltCause.isSome)
    (hc : c'.conditions = c.conditions := by rfl) (hw : c'.warnings = c.warnings := by rfl) (hl : c'.level = c.level := by rfl) :
    c'.Settled := by
  unfold Channel.Settled at h ⊢
  rw [hl, h, Channel.faultLevel_eq, Channel.faultLevel_eq, hst, hc, hw]

namespace LevelsKept

variable {s t u : State}

theorem refl (s : State) : LevelsKept s s := fun _ => id

theorem trans (h : LevelsKept s t) (k : LevelsKept t u) : LevelsKept s u := fun ch => k ch ∘ h ch

theorem of_channels (h : t.channels = s.channels) : LevelsKept s t := fun ch => by
  unfold State.channel
  rw [h]
  exact id

theorem of_changes (h : Changes .noChannels s t) : LevelsKept s t := fun ch => by
  rw [h.outOfScope.channels ch id]
  exact id

/-- An event of one channel that ends with its fault level settled. -/
theorem settled {ch : Fin 4} (h : Changes (.one ch) s t) (time : Nat) : LevelsKept s (settleFault ch time t) := by
  intro j hj
  rw [channel_settleFault]
  split
  · rfl
  · rename_i hne
    rw [h.channel_ne hne]
    exact hj

theorem onChannel {ch : Fin 4} {f : Channel → Channel} (h : (s.channel ch).Settled → (f (s.channel ch)).Settled) :
    LevelsKept s (s.onChannel ch f) := by
  intro j hj
  rw [State.channel_onChannel]
  split
  · rename_i e; subst e; exact h hj
  · exact hj

theorem foldl {α : Type} {f : State → α → State} (hf : ∀ s a, LevelsKept s (f s a)) (l : List α) (s : State) :
    LevelsKept s (l.foldl f s) := by
  induction l generalizing s with
  | nil => exact refl s
  | cons a l ih => exact (hf s a).trans (ih _)

theorem onChannelNo {no : Nat} {run : Fin 4 → State → Answer} (hrun : ∀ ch, LevelsKept s (run ch s).state) :
    LevelsKept s (onChannelNo no run s).state := by
  unfold Machine.onChannelNo
  split
  · exact refl s
  · exact hrun _

theorem withFlag {n : Nat} {run : Bool → State → Answer} (hrun : ∀ b, LevelsKept s (run b s).state) :
    LevelsKept s (withFlag n run s).state := by
  unfold Machine.withFlag
  split
  · exact refl s
  · exact hrun _

theorem channelStep (h : Nat) (s : State) (ch : Fin 4) : LevelsKept s (channelStep h s ch) := by
  have hchange : Changes (.one ch) s (Machine.channelStep h s ch) := .channelStep rfl trivial h s
  intro j hj
  by_cases hne : j = ch
  · subst hne
    unfold Machine.channelStep
    rw [channel_settleFault, if_pos rfl]
    rfl
  · rw [hchange.channel_ne hne]
    exact hj

theorem boundary (s : State) : LevelsKept s (boundary s) := by
  unfold Machine.boundary
  dsimp only
  exact (((of_channels rfl).trans (foldl (channelStep _) _ (s.onTimer _))).trans
    (of_changes (Change.closeClips _).changes)).trans (of_changes (.countPulses _ _))

/-! ### Channel requests -/

theorem sampleBreak (ch : Fin 4) (time : Nat) (s : State) : LevelsKept s (sampleBreak ch time s) := by
  unfold Machine.sampleBreak
  refine (onChannel fun h => ?_).trans (of_changes (.raiseAhead _ _ _))
  unfold Channel.announce
  split
  · exact h.same rfl
  · exact h

theorem play (target : Int) (immediate : Bool) (ch : Fin 4) (s : State) : LevelsKept s (play target immediate ch s).state := by
  unfold Machine.play
  dsimp only
  split
  · exact refl s
  · split
    · exact refl s
    · have hset : LevelsKept s (s.onChannel ch (Channel.play (clampSpeed target) immediate)) := onChannel fun h => h.same rfl
      dsimp only [accept]
      split
      · rename_i hcued
        refine (hset.trans (onChannel fun h => h.same ?_)).trans (sampleBreak _ _ _)
        rw [State.channel_onChannel_self]
        show _ = (Channel.haltCause { s.channel ch with state := (s.channel ch).state }).isSome
        rw [hcued]
        rfl
      · exact hset

theorem stopPlay (immediate : Bool) (ch : Fin 4) (s : State) : LevelsKept s (stopPlay immediate ch s).state := by
  unfold Machine.stopPlay
  split
  · exact refl s
  · exact onChannel fun h => h.same rfl

theorem shuttle (speed : Int) (ch : Fin 4) (s : State) : LevelsKept s (shuttle speed ch s).state := by
  unfold Machine.shuttle
  dsimp only
  split
  · exact refl s
  · rename_i hst
    split
    · exact refl s
    · refine onChannel fun h => h.same ?_
      unfold Channel.haltCause
      rcases not_not.mp hst with h | h <;> rw [h]

theorem jog (n : Int) (ch : Fin 4) (s : State) : LevelsKept s (jog n ch s).state := by
  unfold Machine.jog
  dsimp only
  split
  · exact onChannel fun h => h.same rfl
  · exact refl s

theorem seek (f : SeekForm) (ch : Fin 4) (s : State) : LevelsKept s (seek f ch s).state := by
  unfold Machine.seek
  dsimp only
  split
  · exact onChannel fun h => h.same rfl
  · exact refl s

theorem angle (n : Nat) (ch : Fin 4) (s : State) : LevelsKept s (angle n ch s).state := by
  unfold Machine.angle
  dsimp only
  split
  · exact refl s
  · split
    · split
      · exact onChannel fun h => h.same rfl
      · exact refl s
    · split
      · exact refl s
      · split
        · exact refl s
        · exact onChannel fun h => h.same rfl
    · exact refl s

theorem requestBreak (ch : Fin 4) (s : State) : LevelsKept s (requestBreak ch s).state := by
  unfold Machine.requestBreak
  split
  · exact onChannel fun h => h.same rfl
  · exact refl s

theorem endBreak {ch : Fin 4} (hbr : (s.channel ch).state = .inBreak) (cause : BreakCause) :
    LevelsKept s (endBreak ch cause s) := settled (.wrap rfl (.inl hbr) _ _) _

theorem continueBreak (ch : Fin 4) (s : State) : LevelsKept s (continueBreak ch s).state := by
  unfold Machine.continueBreak
  dsimp only
  split
  · exact refl s
  · rename_i hbr
    exact endBreak hbr _
  · split
    · exact onChannel fun h => h.same rfl
    · exact refl s
  · exact refl s

theorem halt (ch : Fin 4) (s : State) : LevelsKept s (halt ch s).state :=
  settled (.haltChannel rfl trivial _ s) _

theorem configureChannel (a : ChannelArgs) (ch : Fin 4) (s : State) : LevelsKept s (configureChannel a ch s).state := by
  intro j hj
  unfold Machine.configureChannel
  split
  · exact hj
  · dsimp only
    split
    · exact hj
    · dsimp only [accept]
      by_cases hne : j = ch
      · subst hne
        rw [channel_settleFault, if_pos rfl]
        rfl
      · rw [channel_settleFault, if_neg hne]
        have hconf (k : ChannelConfig) : (s.onChannel ch (Channel.configure k)).channel j = s.channel j := by
          rw [State.channel_onChannel, if_neg hne]
        split
        · rw [haltChannel_eq, State.channel_onStore, State.channel_onChannel, if_neg hne, hconf]
          exact hj
        · rw [hconf]
          exact hj

theorem bindChannel (f : BindForm) (ch : Fin 4) (s : State) : LevelsKept s (bindChannel f ch s).state := by
  unfold Machine.bindChannel
  dsimp only
  split
  · exact refl s
  · split
    · exact refl s
    · rename_i hup
      split
      · exact refl s
      · rename_i b p hb
        exact settled (Change.bind ch rfl f b p hb (by simpa using hup)).changes _

theorem resetChannel (ch : Fin 4) (s : State) : LevelsKept s (resetChannel ch s).state :=
  settled ((Change.resetChannel ch rfl).changes.trans (.onStoreReads trivial rfl)) _

theorem clearWarnings (ch : Fin 4) (s : State) : LevelsKept s (clearWarnings ch s).state :=
  settled (.onChannel rfl (.same fun _ h => h)) _

theorem bindCues (first count : Nat) (ch : Fin 4) (s : State) : LevelsKept s (bindCues first count ch s).state := by
  intro j hj
  unfold Machine.bindCues
  split
  · exact hj
  · split
    · exact hj
    · dsimp only [accept]
      rw [channel_settleFault]
      split
      · rfl
      · rename_i hne
        rw [State.channel_onChannel, if_neg hne]
        exact hj

theorem clearStatus (s : State) : LevelsKept s (clearStatus s).state := by
  intro ch hch
  show ((clearCounters s).channel ch).Settled
  rw [channel_clearCounters]
  exact hch

theorem request {i : Instr} {o : Origin} {kind : Nat} {run : State → Answer} (hi : requestRun i = some (o, kind, run))
    (s : State) : LevelsKept s (run s).state := by
  cases hof : Instr.ofChannel i with
  | false =>
    by_cases h : i = .clearStatus o
    · subst h
      cases hi
      exact clearStatus s
    · exact of_changes (requestRun_scoped (S := .noChannels) (fun hc => by rw [hof] at hc; cases hc) (fun _ => trivial) hi h s)
  | true =>
    cases i with
    | configureChannel => cases hi; exact onChannelNo fun ch => configureChannel _ ch s
    | bindChannel => cases hi; exact onChannelNo fun ch => bindChannel _ ch s
    | play => cases hi; exact onChannelNo fun ch => withFlag fun b => play _ b ch s
    | stop => cases hi; exact onChannelNo fun ch => withFlag fun b => stopPlay b ch s
    | shuttle => cases hi; exact onChannelNo fun ch => shuttle _ ch s
    | jog => cases hi; exact onChannelNo fun ch => jog _ ch s
    | seek => cases hi; exact onChannelNo fun ch => seek _ ch s
    | angle => cases hi; exact onChannelNo fun ch => angle _ ch s
    | halt => cases hi; exact onChannelNo fun ch => halt ch s
    | resetChannel => cases hi; exact onChannelNo fun ch => resetChannel ch s
    | clearWarnings => cases hi; exact onChannelNo fun ch => clearWarnings ch s
    | bindCues => cases hi; exact onChannelNo fun ch => bindCues _ _ ch s
    | requestBreak => cases hi; exact onChannelNo fun ch => requestBreak ch s
    | continue_ => cases hi; exact onChannelNo fun ch => continueBreak ch s
    | _ => cases hof

/-! ### Other events -/

theorem fetchDone (ch : Fin 4) (slot gen : Nat) (role : Role) (current superseded error : Bool) (s : State) :
    LevelsKept s (fetchDone ch slot gen role current superseded error s) := by
  have hcomplete (s : State) : LevelsKept s (completeFetch ch slot gen role error s) := by
    have hchange : Changes (.one ch) s (completeFetch ch slot gen role error s) := .completeFetch rfl _ _ _ _ s
    intro j hj
    by_cases hne : j = ch
    · subst hne
      unfold completeFetch
      dsimp only
      rw [channel_settleFault, if_pos rfl]
      rfl
    · rw [hchange.channel_ne hne]
      exact hj
  unfold Machine.fetchDone
  dsimp only
  split
  · exact LevelsKept.trans (t := completeFetch ch slot gen role error _) (hcomplete (s.onStore _)) (of_channels rfl)
  · exact of_channels rfl

theorem completeCommit (page : Nat) (s : State) : LevelsKept s (completeCommit page s) := by
  unfold Machine.completeCommit
  dsimp only
  split
  · exact of_channels rfl
  · have hcommitted (t : State) (ch : Fin 4) : LevelsKept t (channelCommitted page s.houseTime t ch) :=
      settled (.onChannel rfl (.sent (Channel.pageReplaced_sent page _))) _
    exact foldl hcommitted _ (raise _ _ (s.onCues _))

theorem reset (h : t.channels = Four.fill {}) : LevelsKept s t := fun ch _ => by
  have hch : t.channel ch = {} := by
    unfold State.channel
    rw [h]
    fin_cases ch <;> rfl
  rw [hch]
  rfl

theorem channelDown (l : Fin 2) (s : State) (ch : Fin 4) : LevelsKept s (channelDown l s ch) := by
  have hdrop : Changes (.one ch) s (s.onChannel ch (Channel.dropEmission l)) := .onChannel rfl (.sent (.emission _))
  unfold Machine.channelDown
  dsimp only
  split
  · exact settled (hdrop.trans (.haltChannel rfl trivial _ _)) _
  · exact onChannel fun h => h.same rfl

theorem linkGoesDown (l : Fin 2) (s : State) : LevelsKept s (linkGoesDown l s) := by
  have hdown : LevelsKept s (allFour.foldl (Machine.channelDown l) (allEight.foldl (streamDown l) (s.onPort l Link.goDown))) := by
    refine ((of_channels (t := s.onPort l Link.goDown) rfl).trans (foldl (fun s i => ?_) _ _)).trans (foldl (channelDown l) _ _)
    refine of_changes ?_
    unfold streamDown
    split
    · exact (Change.abandon i).changes
    · exact .refl s
  unfold Machine.linkGoesDown
  dsimp only
  split
  · exact reset rfl
  · exact hdown

theorem chooseNext (l : Fin 2) (s : State) : LevelsKept s (chooseNext l s) := by
  unfold Machine.chooseNext
  split
  · rename_i ch e _
    exact onChannel (ch := ch) (f := fun c => { c with mixer := { c.mixer with emission := e.after } }) fun h => h.same rfl
  · split
    · exact of_channels rfl
    · split
      · unfold sendReply
        dsimp only
        split <;> exact of_channels rfl
      · unfold sendNotice
        split
        · split
          · exact of_channels rfl
          · exact refl s
        · exact refl s

theorem judgePin (n : Fin 8) (s : State) : LevelsKept s (judgePin n s) := by
  have hdeliver (s : State) : LevelsKept s (deliverEdge n s) := by
    unfold deliverEdge
    dsimp only
    split
    · exact of_changes (.latchEdge n s)
    · unfold breakEndEdge
      split
      · exact endBreak ‹_› _
      · exact refl s
    · exact refl s
  unfold Machine.judgePin
  dsimp only
  split
  · exact hdeliver (raiseEdge n (s.onLine n _))
  · exact of_channels rfl

theorem event {i : Instr} (hi : requestRun i = none) (htimer : Instr.ofTimer i = false) (h : exec i s = .next t) :
    LevelsKept s t := by
  have hquiet {o : Host.Outcome State Fault Refusal} (ho : o = .next t) (hc : ∃ u, o = .next u ∧ Changes .noChannels s u) :
      LevelsKept s t := by
    obtain ⟨u, hu, hc⟩ := hc
    rw [hu] at ho
    cases ho
    exact of_changes hc
  cases i with
  | fetchCompletion error =>
    have h : execFetchCompletion error s = .next t := h
    unfold execFetchCompletion at h
    split at h <;> cases h
    · exact fetchDone _ _ _ _ _ _ _ s
    · exact refl s
  | protectLookupServed => exact hquiet h (Changes.execProtectLookupServed trivial s)
  | withdrawnLookupEnd => exact hquiet h (Changes.execWithdrawnLookupEnd trivial s)
  | cueCommitComplete =>
    have h : execCueCommitComplete s = .next t := h
    unfold execCueCommitComplete at h
    split at h <;> cases h
    · exact completeCommit _ s
    · exact refl s
  | linkUp l => exact hquiet h (Changes.execLinkUp trivial l s)
  | linkDown l =>
    have h : execLinkDown l s = .next t := h
    unfold execLinkDown at h
    split at h <;> cases h
    · exact linkGoesDown l s
    · exact refl s
  | packetReceive l bytes =>
    obtain ⟨u, hu, hc⟩ | ⟨hf, -⟩ := Changes.execPacketReceive (S := .noChannels) trivial l bytes s
    · exact hquiet h ⟨u, hu, hc⟩
    · cases hf.symm.trans h
  | transmitChoose l =>
    have h : execTransmitChoose l s = .next t := h
    unfold execTransmitChoose at h
    dsimp only at h
    split at h <;> cases h
    · exact chooseNext l s
    · exact refl s
  | transmitEnd l =>
    have h : execTransmitEnd l s = .next t := h
    unfold execTransmitEnd at h
    dsimp only at h
    split at h <;> cases h
    · exact reset rfl
    · exact of_channels rfl
  | linePinChange n high =>
    have h : execLinePinChange n high s = .next t := h
    unfold execLinePinChange at h
    dsimp only at h
    split at h <;> cases h
    · exact judgePin n (s.onLine n _)
    · exact of_channels rfl
  | resetPartActs =>
    have h : execResetPartActs s = .next t := h
    unfold execResetPartActs at h
    split at h <;> cases h
    · exact reset rfl
    · exact refl s
  | lineReset a b => cases h; exact reset rfl
  | powerOnReset a b => cases h; exact reset rfl
  | resetNHeldLow =>
    cases h
    refine foldl (fun t l => ?_) allLinks { s with resetHeld := true }
    split
    · exact linkGoesDown l t
    · exact refl t
  | unknownRequest o kind =>
    rw [requestRun_unknown] at hi
    split at hi
    · rename_i hk
      have h : execUnknownRequest o kind s = .next t := h
      unfold execUnknownRequest at h
      rw [if_pos hk] at h
      cases h
      exact refl s
    · cases hi
  | referencePulse | flywheelExpiry | lostFreeRun | pulseEnd | shuttleLapse | holdCountExpiry | breakTimerExpiry =>
    cases htimer
  | _ => cases hi

end LevelsKept

end Sys2Proof.Machine

namespace Sys2Proof.Proofs

open Sys2Proof.Machine

/-- Settles O7: every event that gives a channel a cause, or takes one, ends by settling its fault level. -/
theorem faultLevelsStaySettled : Obligations.FaultLevelsStaySettled := by
  have hkeeps {s t : State} (h : LevelsKept s t) (hs : LevelsSettled s) : LevelsSettled t := fun ch => h ch (hs ch)
  have hevents : KeptByEvents LevelsSettled :=
    { endpoint := fun _ _ h => h
      port := fun _ _ _ h => h
      timer := fun _ _ h => h
      freeIndex := fun _ _ h => h
      pending := fun _ _ h => h
      boundary := fun s => hkeeps (.boundary s)
      request := fun _ _ _ _ s hi => hkeeps (.request hi s)
      event := fun _ _ _ hi ht hs h => hkeeps (.event hi ht h) hs }
  exact fun _ _ => hevents.step

end Sys2Proof.Proofs
end

section
/-! PROOFS. The queues of chapter 12 and the read service stay within their bounds (R48, R178, R183, R185, R188). -/

namespace Sys2Proof.Machine

/-! ## What is in flight (R48) -/

/-- What the read service may have in flight, by the store and the engine: `ReadsBounded`. -/
def ReadsFit (st : Store) (e : Engine) : Prop :=
  (∀ ch, st.fetchesOf ch ≤ 2) ∧ st.lookupsInFlight ≤ 1 ∧
    (0 < st.lookupsInFlight → e.lookup = .pending ∨ e.withdrawn = true) ∧
    (e.withdrawn = true → st.servingLookup = true ∧ e.lookup ≠ .pending) ∧ (e.walk = none → e.lookup = .none)

theorem readsBounded_iff (s : State) : ReadsBounded s ↔ ReadsFit s.store s.engine := Iff.rfl

namespace Store

variable (st : Store)

theorem serve_of_some {e : ReadEntry} (h : st.service = some e) : st.serve = st := by
  unfold serve
  rw [h]

theorem inFlight_serve : st.serve.inFlight = st.inFlight := by
  unfold serve
  split
  · rename_i e q hs hq
    simp [inFlight, hs, hq]
  · rfl

theorem inFlight_enqueue (e : ReadEntry) : (st.enqueue e).inFlight = st.inFlight ++ [e] := by
  unfold enqueue
  rw [inFlight_serve]
  simp [inFlight]

theorem servingLookup_iff : st.servingLookup = true ↔ ∃ i key, st.service = some (.lookup i key) := by
  unfold servingLookup
  split
  · rename_i h
    simp [h]
  · rename_i h
    refine ⟨nofun, fun ⟨i, key, hs⟩ => absurd hs (h i key)⟩

theorem servingLookup_serve (h : st.servingLookup = true) : st.serve.servingLookup = true := by
  obtain ⟨i, key, hs⟩ := st.servingLookup_iff.mp h
  rw [serve_of_some _ hs]
  exact h

theorem servingLookup_enqueue (e : ReadEntry) (h : st.servingLookup = true) : (st.enqueue e).servingLookup = true :=
  servingLookup_serve _ h

/-- A lookup in service is in flight. -/
theorem lookups_pos_of_serving (h : st.servingLookup = true) : 0 < st.lookupsInFlight := by
  obtain ⟨i, key, hs⟩ := st.servingLookup_iff.mp h
  simp [lookupsInFlight, inFlight, hs, ReadEntry.isFetch]

theorem inFlight_discardFetches (ch : Fin 4) : (st.discardFetches ch).inFlight = st.inFlight.map (ReadEntry.discard ch) := by
  unfold discardFetches inFlight
  cases st.service <;> simp

theorem fetchesOf_discardFetches (ch k : Fin 4) : (st.discardFetches ch).fetchesOf k = st.fetchesOf k := by
  unfold fetchesOf
  rw [inFlight_discardFetches, List.filter_map, List.length_map]
  congr 2
  funext e
  cases e <;> rfl

theorem lookups_discardFetches (ch : Fin 4) : (st.discardFetches ch).lookupsInFlight = st.lookupsInFlight := by
  unfold lookupsInFlight
  rw [inFlight_discardFetches, List.filter_map, List.length_map]
  congr 2
  funext e
  cases e <;> rfl

theorem servingLookup_discardFetches (ch : Fin 4) : (st.discardFetches ch).servingLookup = st.servingLookup := by
  unfold discardFetches servingLookup
  cases st.service with
  | none => rfl
  | some e => cases e <;> rfl

theorem inFlight_withdrawFetches_sublist (ch : Fin 4) : (st.withdrawFetches ch).inFlight.Sublist st.inFlight :=
  List.Sublist.append_left List.filter_sublist _

/-- A channel's fetches once its waiting ones are withdrawn: the one in service, if any. -/
theorem fetchesOf_withdrawFetches (ch : Fin 4) :
    (st.withdrawFetches ch).fetchesOf ch = if st.servingChannel ch then 1 else 0 := by
  have hqueue : ((st.queue.filter fun e => !e.ofChannel ch).filter (ReadEntry.ofChannel ch)) = [] := by
    rw [List.filter_filter, List.filter_eq_nil_iff]
    intro e _
    cases e.ofChannel ch <;> simp
  unfold fetchesOf inFlight withdrawFetches servingChannel
  rw [List.filter_append, hqueue]
  cases st.service with
  | none => rfl
  | some e => cases h : e.ofChannel ch <;> simp [h]

/-- Every entry in flight is a lookup or a fetch of one channel. -/
theorem inFlight_length : st.inFlight.length =
    st.lookupsInFlight + (st.fetchesOf 0 + st.fetchesOf 1 + st.fetchesOf 2 + st.fetchesOf 3) := by
  unfold lookupsInFlight fetchesOf
  induction st.inFlight with
  | nil => rfl
  | cons e l ih =>
    cases e with
    | lookup i key =>
      simp only [List.length_cons, ih, List.filter_cons, ReadEntry.isFetch, ReadEntry.ofChannel, Bool.not_false, if_true]
      simp only [Bool.false_eq_true, if_false]
      omega
    | fetch ch slot gen role current superseded =>
      fin_cases ch <;> simp [ih, ReadEntry.isFetch, ReadEntry.ofChannel] <;> omega

end Store

namespace ReadsFit

variable {st st' : Store} {e : Engine}

/-- Fewer entries in flight, with a lookup in service kept. -/
theorem fewer (h : ReadsFit st e) (hf : ∀ ch, st'.fetchesOf ch ≤ st.fetchesOf ch)
    (hl : st'.lookupsInFlight ≤ st.lookupsInFlight) (hs : st.servingLookup = true → st'.servingLookup = true) :
    ReadsFit st' e := by
  obtain ⟨h1, h2, h3, h4, h5⟩ := h
  exact ⟨fun ch => (hf ch).trans (h1 ch), hl.trans h2, fun hp => h3 (hp.trans_le hl), fun hw => ⟨hs (h4 hw).1, (h4 hw).2⟩, h5⟩

theorem serve (h : ReadsFit st e) : ReadsFit st.serve e := by
  refine h.fewer (fun ch => ?_) ?_ (Store.servingLookup_serve st)
  · unfold Store.fetchesOf; rw [Store.inFlight_serve]
  · unfold Store.lookupsInFlight; rw [Store.inFlight_serve]

theorem discardFetches (h : ReadsFit st e) (ch : Fin 4) : ReadsFit (st.discardFetches ch) e :=
  h.fewer (fun k => (st.fetchesOf_discardFetches ch k).le) (st.lookups_discardFetches ch).le
    (st.servingLookup_discardFetches ch ▸ id)

theorem withdrawFetches (h : ReadsFit st e) (ch : Fin 4) : ReadsFit (st.withdrawFetches ch) e :=
  h.fewer (fun _ => ((st.inFlight_withdrawFetches_sublist ch).filter _).length_le)
    ((st.inFlight_withdrawFetches_sublist ch).filter _).length_le id

/-- A fetch joins the read queue. -/
theorem enqueueFetch (h : ReadsFit st e) {ch : Fin 4} (hroom : st.fetchesOf ch < 2) (slot gen : Nat) (role : Role)
    (current superseded : Bool) : ReadsFit (st.enqueue (.fetch ch slot gen role current superseded)) e := by
  obtain ⟨h1, h2, h3, h4, h5⟩ := h
  have hlook : (st.enqueue (.fetch ch slot gen role current superseded)).lookupsInFlight = st.lookupsInFlight := by
    unfold Store.lookupsInFlight
    rw [Store.inFlight_enqueue]
    simp [ReadEntry.isFetch]
  refine ⟨fun k => ?_, hlook ▸ h2, hlook ▸ h3, fun hw => ⟨st.servingLookup_enqueue _ (h4 hw).1, (h4 hw).2⟩, h5⟩
  have hk : (st.enqueue (.fetch ch slot gen role current superseded)).fetchesOf k =
      st.fetchesOf k + if ch = k then 1 else 0 := by
    unfold Store.fetchesOf
    rw [Store.inFlight_enqueue, List.filter_append, List.length_append]
    by_cases hck : ch = k <;> simp [ReadEntry.ofChannel, hck]
  rw [hk]
  split
  · rename_i hck
    subst hck
    omega
  · exact h1 k

/-- A lookup joins the read queue when none is in flight, and is PENDING (R78, R80). -/
theorem issueLookup (h : ReadsFit st e) (hnone : st.lookupsInFlight = 0) (hwalk : e.walk ≠ none) (i : Fin 8) (key : Nat) :
    ReadsFit (st.enqueue (.lookup i key)) { e with lookup := .pending } := by
  obtain ⟨h1, h2, h3, h4, h5⟩ := h
  refine ⟨fun k => ?_, ?_, fun _ => .inl rfl, fun hw => ?_, fun hn => absurd hn hwalk⟩
  · have : (st.enqueue (.lookup i key)).fetchesOf k = st.fetchesOf k := by
      unfold Store.fetchesOf
      rw [Store.inFlight_enqueue]
      simp [ReadEntry.ofChannel]
    rw [this]
    exact h1 k
  · have : (st.enqueue (.lookup i key)).lookupsInFlight = st.lookupsInFlight + 1 := by
      unfold Store.lookupsInFlight
      rw [Store.inFlight_enqueue]
      simp [ReadEntry.isFetch]
    omega
  · have := st.lookups_pos_of_serving (h4 hw).1
    omega

/-- With no lookup in flight the engine may be in any state that has one only with a walk. -/
theorem engine {e' : Engine} (h : ReadsFit st e) (hnone : st.lookupsInFlight = 0) (hw : e'.withdrawn = false)
    (hwalk : e'.walk = none → e'.lookup = .none) : ReadsFit st e' := by
  obtain ⟨h1, h2, -, -, -⟩ := h
  exact ⟨h1, h2, fun hp => absurd hp (by rw [hnone]; exact lt_irrefl 0), fun h => absurd h (by rw [hw]; nofun), hwalk⟩

end ReadsFit

namespace ReadsBounded

variable {s t : State}

theorem of_same (h : ReadsBounded s) (hservice : t.store.service = s.store.service) (hqueue : t.store.queue = s.store.queue)
    (hengine : t.engine = s.engine) : ReadsBounded t := by
  have hin : t.store.inFlight = s.store.inFlight := by unfold Store.inFlight; rw [hservice, hqueue]
  have hserv : t.store.servingLookup = s.store.servingLookup := by unfold Store.servingLookup; rw [hservice]
  rw [readsBounded_iff, hengine]
  refine ReadsFit.fewer (st := s.store) h (fun ch => ?_) ?_ (hserv ▸ id)
  · unfold Store.fetchesOf; rw [hin]
  · unfold Store.lookupsInFlight; rw [hin]

/-- The scope of what leaves the read service and the engine alone. -/
def quiet : Scope := ⟨fun _ => True, False, True⟩

theorem of_changes (h : ReadsBounded s) (hc : Changes quiet s t) : ReadsBounded t := by
  obtain ⟨h1, h2, h3⟩ := hc.outOfScope.reads id
  exact h.of_same h1 h2 h3

/-- The engine's walk and lookup state; nothing else of the engine matters but the withdrawn mark. -/
theorem withEngine (h : ReadsBounded s) {e : Engine} (hnone : s.store.lookupsInFlight = 0) (hw : e.withdrawn = false)
    (hwalk : e.walk = none → e.lookup = .none) : ReadsBounded { s with engine := e } := ReadsFit.engine h hnone hw hwalk

/-- A withdrawn lookup is in flight (R89). -/
theorem not_withdrawn (h : ReadsBounded s) (hnone : s.store.lookupsInFlight = 0) : s.engine.withdrawn = false := by
  obtain ⟨-, -, -, h4, -⟩ := h
  cases hw : s.engine.withdrawn with
  | false => rfl
  | true =>
    have := s.store.lookups_pos_of_serving (h4 hw).1
    omega

/-! ## A channel's step -/

theorem outputStep (h : ReadsBounded s) (ch : Fin 4) (n : Nat) : ReadsBounded (outputStep ch n s) :=
  ReadsFit.discardFetches h ch

theorem foldl_issueFetch {ch : Fin 4} (l : List Source) (h : ReadsBounded s) (hroom : s.store.fetchesOf ch + l.length ≤ 2) :
    ReadsBounded (l.foldl (issueFetch ch) s) := by
  induction l generalizing s with
  | nil => exact h
  | cons x l ih =>
    rw [List.length_cons] at hroom
    refine ih (s := issueFetch ch s x) (ReadsFit.enqueueFetch h (by omega) _ _ _ _ _) ?_
    have : (issueFetch ch s x).store.fetchesOf ch = s.store.fetchesOf ch + 1 := by
      show (s.store.enqueue _).fetchesOf ch = _
      unfold Store.fetchesOf
      rw [Store.inFlight_enqueue]
      simp [ReadEntry.ofChannel]
    omega

theorem foundSources_length_le (s : State) (ch : Fin 4) (i : Fin 8) (key w : Nat) : (foundSources s ch i key w).length ≤ 2 := by
  have hopt (o : Option Source) : o.toList.length ≤ 1 := by cases o <;> simp
  unfold foundSources
  dsimp only
  rw [List.length_append]
  exact Nat.add_le_add (hopt _) (hopt _)

/-- With a fetch of the channel still in service at most one more is issued (R125). -/
theorem fetchedSources_length_le (busy : Bool) (w : Nat) {found : List Source} (h : found.length ≤ 2) :
    (if busy then 1 else 0) + (fetchedSources busy w found).length ≤ 2 := by
  rcases found with _ | ⟨e, _ | ⟨l, _ | ⟨x, r⟩⟩⟩
  · cases busy <;> exact Nat.le_of_ble_eq_true rfl
  · cases busy <;> exact Nat.le_of_ble_eq_true rfl
  · cases busy with
    | false => exact le_rfl
    | true =>
      show 1 + (if w < 8 then [e] else [l]).length ≤ 2
      split <;> exact le_rfl
  · simp only [List.length_cons] at h
    omega

theorem selectSources (h : ReadsBounded s) (ch : Fin 4) : ReadsBounded (selectSources ch s) := by
  have hw : ReadsBounded (s.onStore (Store.withdrawFetches ch)) := ReadsFit.withdrawFetches h ch
  unfold Machine.selectSources
  dsimp only
  split
  · exact hw.of_same rfl rfl rfl
  · refine foldl_issueFetch _ (hw.of_same rfl rfl rfl) ?_
    rw [State.onChannel_store]
    exact (congrArg (· + _) (s.store.fetchesOf_withdrawFetches ch)).le.trans
      (fetchedSources_length_le _ _ (foundSources_length_le _ _ _ _ _))

theorem channelStep (n : Nat) (h : ReadsBounded s) (ch : Fin 4) : ReadsBounded (channelStep n s ch) := by
  have hst : ((Machine.outputStep ch n s).channel ch).state = (s.channel ch).state :=
    onChannel_state s (Channel.SentFrom.output _ _ _ _).1
  unfold Machine.channelStep
  dsimp only
  have hB : ReadsBounded (stepPartB ch (n * 2880) (s.channel ch).state (Machine.outputStep ch n s)) := by
    have ho := h.outputStep ch n
    unfold stepPartB
    split
    · rename_i hrun
      refine ho.of_changes ((Changes.shuttleStep (S := quiet) trivial _ _).trans (.motion trivial ?_ _))
      rw [shuttleStep_state, hst, hrun]
    · rename_i hbr
      exact ho.of_changes (.breakTimerStep trivial (by rw [hst, hbr]) _)
    · exact ho
  refine ReadsBounded.of_changes ?_ (.settleFault (S := quiet) trivial _ _)
  unfold stepPartC
  split
  · exact hB.selectSources ch
  · exact hB

theorem foldl {α : Type} {f : State → α → State} (hf : ∀ s a, ReadsBounded s → ReadsBounded (f s a)) (l : List α)
    (h : ReadsBounded s) : ReadsBounded (l.foldl f s) := by
  induction l generalizing s with
  | nil => exact h
  | cons a l ih => exact ih (hf s a h)

theorem boundary (h : ReadsBounded s) : ReadsBounded (boundary s) := by
  unfold Machine.boundary
  dsimp only
  refine ReadsBounded.of_changes ?_ ((Change.closeClips _).changes.trans (.countPulses _ _) : Changes quiet _ _)
  exact foldl (fun s ch h => h.channelStep _ ch) allFour (h.of_same (t := s.onTimer _) rfl rfl rfl)

/-! ## Halts and resets -/

theorem haltChannel (h : ReadsBounded s) (ch : Fin 4) (cause : HaltCause) : ReadsBounded (haltChannel ch cause s) :=
  ReadsFit.discardFetches h ch

theorem settleFault (h : ReadsBounded s) (ch : Fin 4) (time : Nat) : ReadsBounded (settleFault ch time s) :=
  h.of_changes (.settleFault trivial _ _)

theorem reset (hs : t.store.service = none ∧ t.store.queue = []) (he : t.engine = {}) : ReadsBounded t := by
  have hin : t.store.inFlight = [] := by unfold Store.inFlight; rw [hs.1, hs.2]; rfl
  rw [readsBounded_iff, he]
  refine ⟨fun ch => ?_, ?_, ?_, nofun, fun _ => rfl⟩
  · unfold Store.fetchesOf; rw [hin]; exact Nat.zero_le _
  · unfold Store.lookupsInFlight; rw [hin]; exact Nat.zero_le _
  · unfold Store.lookupsInFlight; rw [hin]; nofun

theorem channelDown (l : Fin 2) (h : ReadsBounded s) (ch : Fin 4) : ReadsBounded (channelDown l s ch) := by
  unfold Machine.channelDown
  dsimp only
  split
  · exact (haltChannel (s := s.onChannel ch _) (h.of_same rfl rfl rfl) ch _).settleFault ch _
  · exact h.of_same rfl rfl rfl

theorem linkGoesDown (l : Fin 2) (h : ReadsBounded s) : ReadsBounded (linkGoesDown l s) := by
  have hdown : ReadsBounded (allFour.foldl (Machine.channelDown l) (allEight.foldl (streamDown l) (s.onPort l Link.goDown))) := by
    refine foldl (fun s ch h => h.channelDown l ch) _ (foldl (fun s i h => ?_) _ (h.of_same (t := s.onPort l _) rfl rfl rfl))
    unfold streamDown
    split
    · exact h.of_changes (Change.abandon i).changes
    · exact h
  unfold Machine.linkGoesDown
  dsimp only
  split
  · exact reset ⟨rfl, rfl⟩ rfl
  · exact hdown

/-! ## Completions and walks (chapters 3 and 5) -/

/-- The entry in service leaves the read service. -/
theorem ReadsFit_endService {st : Store} {e : Engine} {x : ReadEntry} (h : ReadsFit st e) (hx : st.service = some x)
    (hw : e.withdrawn = false) : ReadsFit { st with service := none } e := by
  obtain ⟨h1, h2, h3, -, h5⟩ := h
  have hsub : ({ st with service := none } : Store).inFlight.Sublist st.inFlight := by
    unfold Store.inFlight
    rw [hx]
    exact List.sublist_cons_self _ _
  exact ⟨fun ch => (hsub.filter _).length_le.trans (h1 ch), (hsub.filter _).length_le.trans h2,
    fun hp => h3 (hp.trans_le (hsub.filter _).length_le), fun h => (by rw [hw] at h; cases h), h5⟩

theorem endService (h : ReadsBounded s) {x : ReadEntry} (hx : s.store.service = some x) (hw : s.engine.withdrawn = false) :
    ReadsBounded (endService s) := ReadsFit_endService h hx hw

/-- When the lookup in service ends, none is in flight. -/
theorem lookups_endService (h : ReadsBounded s) (hs : s.store.servingLookup = true) :
    (Machine.endService s).store.lookupsInFlight = 0 := by
  obtain ⟨i, key, hx⟩ := s.store.servingLookup_iff.mp hs
  obtain ⟨-, h2, -⟩ := h
  unfold Store.lookupsInFlight Store.inFlight at h2
  rw [hx] at h2
  have h2 : ((ReadEntry.lookup i key :: s.store.queue).filter fun e => !e.isFetch).length ≤ 1 := h2
  rw [List.filter_cons_of_pos rfl, List.length_cons] at h2
  show (s.store.queue.filter _).length = 0
  omega

theorem serveNext (h : ReadsBounded s) : ReadsBounded (serveNext s) := ReadsFit.serve h

theorem fetchDone (h : ReadsBounded s) {ch : Fin 4} {slot gen : Nat} {role : Role} {current superseded : Bool} (error : Bool)
    (hx : s.store.service = some (.fetch ch slot gen role current superseded)) :
    ReadsBounded (fetchDone ch slot gen role current superseded error s) := by
  have hw : s.engine.withdrawn = false := by
    obtain ⟨-, -, -, h4, -⟩ := h
    cases hw : s.engine.withdrawn with
    | false => rfl
    | true =>
      obtain ⟨i, key, hs⟩ := s.store.servingLookup_iff.mp (h4 hw).1
      rw [hx] at hs
      cases hs
  have hend := (h.endService hx hw).of_same (t := s.onStore fun st =>
    { st with service := none, errors := if error then bump st.errors else st.errors }) rfl rfl rfl
  unfold Machine.fetchDone
  dsimp only
  refine ReadsBounded.serveNext ?_
  split
  · exact hend.of_changes (.completeFetch (S := quiet) trivial _ _ _ _ _)
  · exact hend

theorem issueLookup (h : ReadsBounded s) (hnone : s.store.lookupsInFlight = 0) (hwalk : s.engine.walk ≠ none) (i : Fin 8)
    (key : Nat) : ReadsBounded (issueLookup i key s) := ReadsFit.issueLookup h hnone hwalk i key

theorem idle (h : ReadsBounded s) (hnone : s.store.lookupsInFlight = 0) : ReadsBounded (idleEngine s) :=
  h.withEngine hnone (h.not_withdrawn hnone) fun _ => rfl

/-- The engine becomes IDLE at a lookup that is not PENDING, or when none is in flight. -/
theorem idle_of_not_pending (h : ReadsBounded s) (hp : s.engine.lookup ≠ .pending) : ReadsBounded (idleEngine s) := by
  obtain ⟨h1, h2, h3, h4, -⟩ := h
  exact ⟨h1, h2, fun hpos => .inr ((h3 hpos).resolve_left hp), fun hw => ⟨(h4 hw).1, nofun⟩, fun _ => rfl⟩

theorem lookups_of_same (hservice : t.store.service = s.store.service) (hqueue : t.store.queue = s.store.queue) :
    t.store.lookupsInFlight = s.store.lookupsInFlight := by
  unfold Store.lookupsInFlight Store.inFlight
  rw [hservice, hqueue]

theorem completeWalk (h : ReadsBounded s) (w : Walk) (hnone : s.store.lookupsInFlight = 0) : ReadsBounded (completeWalk w s) := by
  obtain ⟨c, hc⟩ := onClip_eq w.clip (fun c => { c with state := .protected_ }) s
  have hclip : ReadsBounded (s.onClip w.clip fun c => { c with state := .protected_ }) := by
    rw [hc]
    exact h.of_same rfl rfl rfl
  exact (hclip.idle (by rw [hc]; exact hnone)).of_same rfl rfl rfl

theorem releaseHolds_reads (slots : List Nat) (s : State) :
    (releaseHolds slots s).store.service = s.store.service ∧ (releaseHolds slots s).store.queue = s.store.queue := by
  obtain ⟨_, _, _, _, h⟩ := SameButContents.releaseHolds slots s
  rw [h]
  exact ⟨rfl, rfl⟩

/-- A walk ends without success, its lookup served, removed or withdrawn before. -/
theorem unwindWalk (w : Walk) (result : WalkResult) (failure : Option (Nat × Nat)) (extra : List Nat)
    (h : ReadsBounded (idleEngine s)) : ReadsBounded (unwindWalk w result failure extra s) := by
  unfold Machine.unwindWalk
  dsimp only
  obtain ⟨h1, h2⟩ := releaseHolds_reads (((s.clip w.clip).bind Clip.protection).elim [] Protection.slots ++ extra) s
  have h3 := releaseHolds_engine (((s.clip w.clip).bind Clip.protection).elim [] Protection.slots ++ extra) s
  generalize releaseHolds (((s.clip w.clip).bind Clip.protection).elim [] Protection.slots ++ extra) s = u at h1 h2 h3
  obtain ⟨c, hc⟩ := onClip_eq w.clip (fun c => { c with state := .closed, protection := none }) u
  rw [hc]
  refine h.of_same h1 h2 ?_
  show { u.engine with walk := none, lookup := LookupState.none } = { s.engine with walk := none, lookup := LookupState.none }
  rw [h3]

/-- A walk goes on to a lookup when none is in flight (R80). -/
theorem nextLookup (h : ReadsBounded s) (hnone : s.store.lookupsInFlight = 0) (w : Walk) (i : Fin 8) (key : Nat) :
    ReadsBounded (Machine.issueLookup i key (s.onEngine fun e => { e with walk := some w })) := by
  have hw : ReadsBounded { s with engine := { s.engine with walk := some w } } :=
    h.withEngine hnone (h.not_withdrawn hnone) nofun
  exact ReadsBounded.issueLookup hw hnone (Option.some_ne_none w) i key

theorem advanceWalk (h : ReadsBounded s) (w : Walk) (hnone : s.store.lookupsInFlight = 0) : ReadsBounded (advanceWalk w s) := by
  unfold Machine.advanceWalk
  split
  · exact h.idle hnone
  · split
    · exact h.nextLookup hnone _ _ _
    · split
      · exact h.nextLookup hnone _ _ _
      · exact h.completeWalk w hnone

theorem serveLookup (h : ReadsBounded s) (w : Walk) (i : Fin 8) (key : Nat) (hnone : s.store.lookupsInFlight = 0) :
    ReadsBounded (serveLookup w i key s) := by
  have hclip {u : State} (hu : ReadsBounded u) (hn : u.store.lookupsInFlight = 0) (id : Nat) (f : Clip → Clip) :
      ReadsBounded (u.onClip id f) ∧ (u.onClip id f).store.lookupsInFlight = 0 := by
    obtain ⟨c, hc⟩ := onClip_eq id f u
    rw [hc]
    exact ⟨hu.of_same rfl rfl rfl, hn⟩
  have hhold {r : HoldResult} {u : State} (hu : takeHold i key s = (r, u)) :
      ReadsBounded u ∧ u.store.lookupsInFlight = 0 := by
    obtain ⟨_, _, _, _, rfl⟩ := SameButContents.takeHold hu
    exact ⟨h.of_same rfl rfl rfl, hnone⟩
  unfold Machine.serveLookup
  split
  · rename_i u hu
    obtain ⟨h1, h2⟩ := hhold hu
    obtain ⟨h3, h4⟩ := hclip h1 h2 w.clip fun c =>
      { c with protection := c.protection.map fun p => { p with holes := p.holes + 1 } }
    exact h3.advanceWalk w h4
  · rename_i slot u hu
    obtain ⟨h1, h2⟩ := hhold hu
    unfold walkHeld
    dsimp only
    split
    · exact h1.idle h2
    · split
      · exact unwindWalk _ _ _ _ (h1.idle h2)
      · rename_i p _ _ l _
        obtain ⟨h3, h4⟩ := hclip h1 h2 w.clip fun c =>
          { c with protection := some { p with extents := p.extents.set w.angle l } }
        exact h3.advanceWalk _ h4
  · rename_i u hu
    obtain ⟨h1, h2⟩ := hhold hu
    exact unwindWalk _ _ _ _ (h1.idle h2)
  · rename_i u hu
    obtain ⟨h1, h2⟩ := hhold hu
    exact unwindWalk _ _ _ _ (h1.idle h2)

theorem withdrawnEnd (h : ReadsBounded s) (hs : s.store.servingLookup = true) : ReadsBounded (withdrawnEnd s) := by
  have hnone := h.lookups_endService hs
  obtain ⟨h1, -, -, -, h5⟩ := id h
  have hend : ReadsBounded ((Machine.endService s).onEngine fun e => { e with withdrawn := false }) := by
    refine ⟨fun ch => ?_, hnone.le.trans (Nat.zero_le 1), fun hp => absurd hp (by rw [show
      ((Machine.endService s).onEngine _).store = (Machine.endService s).store from rfl, hnone]; exact lt_irrefl 0),
      nofun, h5⟩
    refine le_trans ?_ (h1 ch)
    obtain ⟨i, key, hx⟩ := s.store.servingLookup_iff.mp hs
    refine List.Sublist.length_le (List.Sublist.filter _ ?_)
    unfold Store.inFlight
    rw [hx]
    exact List.sublist_cons_self _ _
  unfold Machine.withdrawnEnd
  dsimp only
  split
  · rename_i w _ hw
    split
    · refine (hend.issueLookup hnone (fun h => ?_) _ _).serveNext
      rw [show ((Machine.endService s).onEngine _).engine.walk = s.engine.walk from rfl, hw] at h
      cases h
    · exact hend.serveNext
  · exact hend.serveNext

/-! ## Requests that write the read service or the engine -/

theorem configureStore (h : ReadsBounded s) (pairs : Eight (Nat × Nat)) : ReadsBounded (configureStore pairs s).state := by
  unfold Machine.configureStore
  split
  · exact h
  · obtain ⟨h1, -, -, -, h5⟩ := h
    have hnone : (s.store.configure pairs).lookupsInFlight = 0 := by
      show (((s.store.service.bind supersede).toList ++ []).filter _).length = 0
      cases s.store.service with
      | none => rfl
      | some e => cases e <;> rfl
    refine ⟨fun ch => le_trans ?_ (h1 ch), hnone.le.trans (Nat.zero_le 1), fun hp => absurd hp (by
      show ¬ 0 < (s.store.configure pairs).lookupsInFlight; rw [hnone]; exact lt_irrefl 0), nofun, h5⟩
    show (((s.store.service.bind supersede).toList ++ []).filter _).length ≤ ((s.store.service.toList ++ s.store.queue).filter _).length
    rw [List.append_nil, List.filter_append, List.length_append]
    refine le_trans ?_ (Nat.le_add_right _ _)
    cases s.store.service with
    | none => exact le_rfl
    | some e =>
      cases e with
      | fetch c slot gen role current superseded =>
        by_cases hc : c = ch
        · simp [supersede, ReadEntry.ofChannel, hc]
        · simp [supersede, ReadEntry.ofChannel, hc]
      | lookup => exact Nat.zero_le _

/-- Without a walk in flight a lookup in flight is a withdrawn one (R77, R89). -/
theorem none_or_withdrawn (h : ReadsBounded s) (hwalk : s.engine.walk = none) :
    s.engine.withdrawn = true ∨ s.store.lookupsInFlight = 0 := by
  obtain ⟨-, -, h3, -, h5⟩ := h
  rcases Nat.eq_zero_or_pos s.store.lookupsInFlight with h0 | hpos
  · exact .inr h0
  · refine .inl ((h3 hpos).resolve_left ?_)
    rw [h5 hwalk]
    nofun

theorem startWalk (h : ReadsBounded s) (hwalk : s.engine.walk = none) (id : Nat) (c : Clip) :
    ReadsBounded (startWalk id c s).1 := by
  obtain ⟨t, ht⟩ := onClip_eq id (fun c : Clip =>
    { c with state := .protecting, protection := some { extents := c.angles.map fun _ => [] } }) s
  unfold Machine.startWalk
  dsimp only
  rw [ht]
  obtain ⟨u, hu⟩ : ∃ u, u = ({ s with clips := t } : State) := ⟨_, rfl⟩
  rw [← hu]
  have hs : ReadsBounded u := by rw [hu]; exact h.of_same rfl rfl rfl
  have hwalk' : u.engine.walk = none := by rw [hu]; exact hwalk
  split
  · unfold firstLookup
    dsimp only
    split
    · rename_i hw
      have hw : u.engine.withdrawn = true := hw
      obtain ⟨h1, h2, h3, h4, -⟩ := hs
      exact ⟨h1, h2, fun _ => .inr hw, fun _ => ⟨(h4 hw).1, nofun⟩, nofun⟩
    · rename_i hw
      have hw : ¬ u.engine.withdrawn = true := hw
      have hnone := (hs.none_or_withdrawn hwalk').resolve_left hw
      exact hs.nextLookup hnone _ _ _
  · have hidle : ReadsBounded (idleEngine u) := hs.idle_of_not_pending (by
      obtain ⟨-, -, -, -, h5⟩ := hs
      rw [h5 hwalk']
      nofun)
    obtain ⟨v, hv⟩ := onClip_eq id (fun c : Clip => { c with state := .protected_ }) u
    unfold Machine.completeWalk
    dsimp only
    rw [hv]
    exact hidle.of_same rfl rfl rfl

theorem onClipNo {id : Nat} {run : Clip → State → Answer} (h : ReadsBounded s) (hrun : ∀ c, ReadsBounded (run c s).state) :
    ReadsBounded (onClipNo id run s).state := by
  unfold Machine.onClipNo
  split
  · exact h
  · split
    · exact h
    · exact hrun _

theorem protectClip (h : ReadsBounded s) (id : Nat) : ReadsBounded (protectClip id s).state := by
  refine h.onClipNo fun c => ?_
  split
  · exact h
  · split
    · exact h
    · rename_i hw
      exact h.startWalk (Option.not_isSome_iff_eq_none.mp hw) id c

/-- A walk that is stopped has its lookup removed, withdrawn or discarded, and the engine becomes IDLE (R89). -/
theorem idle_stopLookup (h : ReadsBounded s) : ReadsBounded (idleEngine (stopLookup s)) := by
  unfold stopLookup
  split
  · rename_i hp
    obtain ⟨h1, h2, h3, h4, -⟩ := id h
    split
    · rename_i hserv
      exact ⟨h1, h2, fun _ => .inr rfl, fun _ => ⟨hserv, nofun⟩, fun _ => rfl⟩
    · rename_i hserv
      have hnone : (s.store.withdrawLookup).lookupsInFlight = 0 := by
        have hqueue : ((s.store.queue.filter ReadEntry.isFetch).filter fun e => !e.isFetch) = [] := by
          rw [List.filter_filter, List.filter_eq_nil_iff]
          intro e _
          cases e.isFetch <;> simp
        unfold Store.lookupsInFlight Store.withdrawLookup Store.inFlight
        rw [List.filter_append, hqueue]
        cases hx : s.store.service with
        | none => rfl
        | some e =>
          cases e with
          | fetch => rfl
          | lookup i key => exact absurd (s.store.servingLookup_iff.mpr ⟨i, key, hx⟩) hserv
      have hsub : (s.store.withdrawLookup).inFlight.Sublist s.store.inFlight :=
        List.Sublist.append_left List.filter_sublist _
      refine ReadsBounded.idle (s := s.onStore Store.withdrawLookup) ?_ hnone
      exact ReadsFit.fewer h (fun ch => (hsub.filter _).length_le) (hsub.filter _).length_le id
  · rename_i hp
    exact h.idle_of_not_pending hp

theorem releaseProtected (h : ReadsBounded s) (id : Nat) (p : Protection) : ReadsBounded (releaseProtected id p s).state := by
  obtain ⟨h1, h2⟩ := releaseHolds_reads p.slots s
  have h3 := releaseHolds_engine p.slots s
  dsimp only [Machine.releaseProtected, accept]
  generalize releaseHolds p.slots s = u at h1 h2 h3
  obtain ⟨t, ht⟩ := onClip_eq id (fun c : Clip => { c with state := .closed, protection := none }) u
  rw [ht]
  exact h.of_same h1 h2 h3

theorem releaseClip (h : ReadsBounded s) (id : Nat) : ReadsBounded (releaseClip id s).state := by
  refine h.onClipNo fun c => ?_
  split
  · exact h
  · split
    · exact h.releaseProtected id _
    · exact unwindWalk _ _ _ _ h.idle_stopLookup
    · exact h

theorem onChannelNo {no : Nat} {run : Fin 4 → State → Answer} (h : ReadsBounded s) (hrun : ∀ ch, ReadsBounded (run ch s).state) :
    ReadsBounded (onChannelNo no run s).state := by
  unfold Machine.onChannelNo
  split
  · exact h
  · exact hrun _

theorem configureChannel (h : ReadsBounded s) (a : ChannelArgs) (ch : Fin 4) : ReadsBounded (configureChannel a ch s).state := by
  unfold Machine.configureChannel
  split
  · exact h
  · dsimp only
    split
    · exact h
    · refine ReadsBounded.settleFault ?_ ch _
      split
      · exact haltChannel (s := s.onChannel ch _) (h.of_same rfl rfl rfl) ch _
      · exact h.of_same rfl rfl rfl

theorem halt (h : ReadsBounded s) (ch : Fin 4) : ReadsBounded (halt ch s).state := (h.haltChannel ch _).settleFault ch _

theorem resetChannel (h : ReadsBounded s) (ch : Fin 4) : ReadsBounded (resetChannel ch s).state := by
  have hleft : ReadsBounded ((leaveClip (s.channel ch).binding s).onChannel ch Channel.reset) :=
    h.of_changes (Change.resetChannel ch trivial).changes
  exact settleFault (s := State.onStore _ _) (ReadsFit.discardFetches hleft ch) ch _

theorem request (h : ReadsBounded s) {i : Instr} {o : Origin} {kind : Nat} {run : State → Answer}
    (hi : requestRun i = some (o, kind, run)) : ReadsBounded (run s).state := by
  cases hof : Instr.ofReads i with
  | false =>
    by_cases hclear : i = .clearStatus o
    · subst hclear
      cases hi
      exact h.of_same rfl rfl rfl
    · exact h.of_changes (requestRun_scoped (S := quiet) (fun _ _ => trivial) (fun hr => by rw [hof] at hr; cases hr) hi hclear s)
  | true =>
    cases i with
    | configureStore => cases hi; exact h.configureStore _
    | protectClip => cases hi; exact h.protectClip _
    | releaseClip => cases hi; exact h.releaseClip _
    | configureChannel => cases hi; exact h.onChannelNo fun ch => h.configureChannel _ ch
    | halt => cases hi; exact h.onChannelNo fun ch => h.halt ch
    | resetChannel => cases hi; exact h.onChannelNo fun ch => h.resetChannel ch
    | _ => cases hof

theorem event (hs : ReadsBounded s) {i : Instr} (hi : requestRun i = none) (htimer : Instr.ofTimer i = false)
    (h : exec i s = .next t) : ReadsBounded t := by
  have hquiet {o : Host.Outcome State Fault Refusal} (ho : o = .next t) (hc : ∃ u, o = .next u ∧ Changes quiet s u) :
      ReadsBounded t := by
    obtain ⟨u, hu, hc⟩ := hc
    rw [hu] at ho
    cases ho
    exact hs.of_changes hc
  cases i with
  | fetchCompletion error =>
    have h : execFetchCompletion error s = .next t := h
    unfold execFetchCompletion at h
    split at h <;> cases h
    · exact hs.fetchDone error ‹_›
    · exact hs
  | protectLookupServed =>
    have h : execProtectLookupServed s = .next t := h
    unfold execProtectLookupServed at h
    split at h
    · rename_i hx hw
      split at h <;> cases h
      · exact hs
      · rename_i hnot
        have hserv : s.store.servingLookup = true := s.store.servingLookup_iff.mpr ⟨_, _, hx⟩
        exact ((hs.endService hx (Bool.eq_false_iff.mpr hnot)).serveLookup _ _ _ (hs.lookups_endService hserv)).serveNext
    · cases h; exact hs
  | withdrawnLookupEnd =>
    have h : execWithdrawnLookupEnd s = .next t := h
    unfold execWithdrawnLookupEnd at h
    split at h <;> cases h
    · rename_i hw
      exact hs.withdrawnEnd (Bool.and_eq_true_iff.mp hw).2
    · exact hs
  | cueCommitComplete => exact hquiet h (Changes.execCueCommitComplete (fun _ => trivial) s)
  | linkUp l => exact hquiet h (Changes.execLinkUp trivial l s)
  | linkDown l =>
    have h : execLinkDown l s = .next t := h
    unfold execLinkDown at h
    split at h <;> cases h
    · exact hs.linkGoesDown l
    · exact hs
  | packetReceive l bytes =>
    obtain ⟨u, hu, hc⟩ | ⟨hf, -⟩ := Changes.execPacketReceive (S := quiet) trivial l bytes s
    · exact hquiet h ⟨u, hu, hc⟩
    · cases hf.symm.trans h
  | transmitChoose l => exact hquiet h (Changes.execTransmitChoose trivial (fun _ => trivial) l s)
  | transmitEnd l =>
    have h : execTransmitEnd l s = .next t := h
    unfold execTransmitEnd at h
    dsimp only at h
    split at h <;> cases h
    · exact reset ⟨rfl, rfl⟩ rfl
    · exact hs.of_same rfl rfl rfl
  | linePinChange n high => exact hquiet h (Changes.execLinePinChange (fun _ => trivial) n high s)
  | resetPartActs =>
    have h : execResetPartActs s = .next t := h
    unfold execResetPartActs at h
    split at h <;> cases h
    · exact reset ⟨rfl, rfl⟩ rfl
    · exact hs
  | lineReset a b => cases h; exact reset ⟨rfl, rfl⟩ rfl
  | powerOnReset a b => cases h; exact reset ⟨rfl, rfl⟩ rfl
  | resetNHeldLow =>
    cases h
    refine foldl (fun t l ht => ?_) allLinks (hs.of_same (t := { s with resetHeld := true }) rfl rfl rfl)
    split
    · exact ht.linkGoesDown l
    · exact ht
  | unknownRequest o kind =>
    rw [requestRun_unknown] at hi
    split at hi
    · rename_i hk
      have h : execUnknownRequest o kind s = .next t := h
      unfold execUnknownRequest at h
      rw [if_pos hk] at h
      cases h
      exact hs
    · cases hi
  | referencePulse | flywheelExpiry | lostFreeRun | pulseEnd | shuttleLapse | holdCountExpiry | breakTimerExpiry =>
    cases htimer
  | _ => cases hi

end ReadsBounded

end Sys2Proof.Machine

namespace Sys2Proof.Proofs

open Sys2Proof.Machine

/-- Settles O5: every change keeps the queues of chapter 12, and every event what is in flight at the read service. -/
theorem queuesKeepTheirBounds : Obligations.QueuesKeepTheirBounds := by
  have hreads : KeptByEvents ReadsBounded :=
    { endpoint := fun _ _ h => h
      port := fun _ _ _ h => h
      timer := fun _ _ h => h
      freeIndex := fun _ _ h => h
      pending := fun _ _ h => h
      boundary := fun _ h => h.boundary
      request := fun _ _ _ _ _ hi h => h.request hi
      event := fun _ _ _ hi ht hs h => hs.event hi ht h }
  refine ⟨step_keeps (fun s t h hs => ?_) fun _ _ h => h, fun _ _ => hreads.step, fun s hs => ?_⟩
  · exact ⟨fun l => (h.recordsKept.ports l).1 (hs.1 l), h.recordsKept.endpoint hs.2⟩
  · obtain ⟨h1, h2, -⟩ := hs
    have h3 := s.store.inFlight_length
    have := h1 0
    have := h1 1
    have := h1 2
    have := h1 3
    omega

end Sys2Proof.Proofs
end

section
/-! PROOFS. One step (log entry 1), and how a notice is raised and a fault level settled (R169, R187, R188). -/

namespace Sys2Proof.Machine

theorem step_of_pending {s : State} {c : Instr} {rest : List Instr} (h : s.pending = c :: rest) :
    step s = exec c { s with pending := rest } := by
  unfold step
  rw [h]

theorem step_of_idle {s : State} (h : s.pending = []) : step s = idle s := by
  unfold step
  rw [h]

theorem otherLink_eq_iff (l m : Fin 2) : otherLink l = m ↔ m ≠ l := by
  revert l m
  decide

/-- The link served next is one that offers, and not the one served last when both offer (R185). -/
theorem nextServed_of_offers {s : State} {l : Fin 2} (hl : s.offers l = true)
    (hlast : s.offers (otherLink l) = true → s.endpoint.lastServed ≠ l) : s.nextServed = some l := by
  unfold State.nextServed
  by_cases h : s.endpoint.lastServed = l
  · subst h
    have hother : s.offers (otherLink s.endpoint.lastServed) ≠ true := fun h1 => hlast h1 rfl
    simp only [if_neg hother, if_pos hl]
  · have hother : otherLink s.endpoint.lastServed = l := (otherLink_eq_iff _ _).2 (Ne.symm h)
    simp [hother, hl]

theorem nextServed_of_none {s : State} (h : ∀ l, s.offers l = false) : s.nextServed = none := by
  simp [State.nextServed, h]

theorem clockTick_of_unlocked {s : State} (h : s.timer.state = .unlocked) : clockTick s = .next s := by
  simp [clockTick, h]

theorem clockTick_of_lt {s : State} (h : s.timer.state ≠ .unlocked) (hc : s.timer.count < s.timer.due) :
    clockTick s = .next (s.onTimer fun t => { t with count := t.count + 1 }) := by
  unfold clockTick
  dsimp only
  split
  · contradiction
  · exact if_pos hc
  · exact if_pos hc

theorem clockTick_of_due {s : State} (h : s.timer.state ≠ .unlocked) (hc : s.timer.due ≤ s.timer.count) :
    clockTick s = exec (if s.timer.state = .lost then .lostFreeRun else .flywheelExpiry) s := by
  unfold clockTick
  dsimp only
  split
  · contradiction
  · rename_i hlost
    rw [if_neg (Nat.not_lt.2 hc), if_pos hlost]
    rfl
  · rename_i hlost
    rw [if_neg (Nat.not_lt.2 hc), if_neg hlost]
    rfl

theorem raise_eq (time : Nat) (body : NoticeBody) (s : State) :
    raise time body s =
      if s.endpoint.enables.getLsbD (body.noticeClass.code - 1) = true ∧ s.endpoint.route ≠ none then
        if s.endpoint.notices.length < 32 then
          { s with endpoint := { s.endpoint with notices := s.endpoint.notices ++ [⟨time, body⟩] } }
        else { s with endpoint := { s.endpoint with noticeLoss := true } }
      else s := by
  unfold raise State.onEndpoint Endpoint.raise Endpoint.enabled
  simp only [Bool.and_eq_true, Option.isSome_iff_ne_none]
  split_ifs <;> rfl

end Sys2Proof.Machine

namespace Sys2Proof.Proofs

open Sys2Proof.Machine

/-- Settles O1, by the command in front and, with none, by the link the arbiter serves next. -/
theorem stepRunsFrontCommand : Obligations.StepRunsFrontCommand := by
  intro s
  refine ⟨fun c => rfl, fun c rest h => step_of_pending h, fun hidle => ?_⟩
  have hstep : step s = idle s := step_of_idle hidle
  refine ⟨fun l hl hlast => ?_, fun hnone => ?_⟩
  · rw [hstep, idle, nextServed_of_offers hl hlast]
  · have htick : step s = clockTick s := by rw [hstep, idle, nextServed_of_none hnone]
    exact ⟨fun h => htick.trans (clockTick_of_unlocked h), fun h hc => htick.trans (clockTick_of_lt h hc),
      fun h hc => htick.trans (clockTick_of_due h hc)⟩

/-- Settles O15: `raise_eq`, and the level that a channel's flags give. -/
theorem noticeJoinsOrIsLost : Obligations.NoticeJoinsOrIsLost := by
  refine ⟨raise_eq, fun ch time s => ?_⟩
  have hlevel := (s.channel ch).faultLevel_eq
  unfold settleFault
  dsimp only
  simp only [hlevel, Warnings.any, Option.isSome_iff_ne_none, Bool.or_eq_true, or_assoc]

end Sys2Proof.Proofs
end

section
/-! PROOFS. The resets (R191, R192) and a link going DOWN (R178), with what the reset state has. -/

namespace Sys2Proof.Machine

/-! ## After a reset -/

theorem group_resetBlocks (id : Nat) (links : Two Link) (s : State) (g : Fin 4) :
    (resetBlocks id links s).group g = {} := by fin_cases g <;> rfl

theorem line_resetBlocks (id : Nat) (links : Two Link) (s : State) (n : Fin 8) :
    (resetBlocks id links s).line n = (s.line n).afterReset := by fin_cases n <;> rfl

/-- A link port as a reset leaves it: nothing but its state and the packet in transmission. -/
def Link.Cleared (p : Link) : Prop := p = { up := p.up, sending := p.sending }

theorem owner_resetBlocks (id : Nat) (links : Two Link) (s : State) (x : Nat) :
    (resetBlocks id links s).store.owner x = none := rfl

theorem nominal_tolerance : ({} : Timer).tolerance = 15625 := by decide

theorem afterReset_resetBlocks (id : Nat) {links : Two Link} (s : State) (held : Bool) (h : ∀ l, (links.get l).Cleared) :
    AfterReset id (fun n => (s.line n).pinHigh) { resetBlocks id links s with resetHeld := held } where
  timer := rfl
  rate := ⟨rfl, nominal_tolerance⟩
  streams := stream_resetBlocks id links s
  allotments := allotment_resetBlocks id links s
  slots := ⟨rfl, fun x => ⟨rfl, owner_resetBlocks id links s x⟩⟩
  store := ⟨rfl, rfl, rfl, rfl⟩
  groups := group_resetBlocks id links s
  clips := rfl
  latches := latch_resetBlocks id links s
  engine := rfl
  channels := channel_resetBlocks id links s
  mix ch := (channel_resetBlocks id links s ch).symm ▸ rfl
  cues := rfl
  lines := line_resetBlocks id links s
  links := h
  endpoint := rfl

theorem links_get_cleared (s : State) (l : Fin 2) :
    (Two.mk s.links.z0.afterResetPart s.links.z1.afterResetPart).get l = (s.port l).afterResetPart := by
  fin_cases l <;> rfl

theorem port_actResetPart (s : State) (l : Fin 2) : (actResetPart s).port l = (s.port l).afterResetPart :=
  links_get_cleared s l

theorem afterReset_actResetPart (s : State) :
    AfterReset s.endpoint.id (fun n => (s.line n).pinHigh) (actResetPart s) :=
  afterReset_resetBlocks _ s _ fun l => (links_get_cleared s l).symm ▸ rfl

theorem afterReset_lineReset (a b : Bool) (s : State) :
    AfterReset (strapId a b) (fun n => (s.line n).pinHigh) (lineReset a b s) :=
  afterReset_resetBlocks _ s _ fun l => (Two.get_fill l _).symm ▸ rfl

theorem reset_eq_lineReset : State.reset = lineReset false false State.reset := rfl

theorem afterReset_reset : AfterReset 224 (fun _ => false) State.reset := by
  have h := afterReset_lineReset false false State.reset
  rw [← reset_eq_lineReset] at h
  have hpin : (fun n => (State.reset.line n).pinHigh) = fun _ => false := by
    funext n
    fin_cases n <;> rfl
  exact hpin ▸ h

/-! ## Folds over the records of a bank -/

/-- A fold of operations that each change one record of a bank changes each record it comes to once. -/
theorem get_foldl {σ ι β : Type} [DecidableEq ι] (get : σ → ι → β) {f : σ → ι → σ} (g : ι → β → β)
    (hf : ∀ s i j, get (f s i) j = if j = i then g i (get s i) else get s j) {l : List ι} (hl : l.Nodup) (s : σ) (j : ι) :
    get (l.foldl f s) j = if j ∈ l then g j (get s j) else get s j := by
  induction l generalizing s with
  | nil => simp
  | cons i l ih =>
    obtain ⟨hi, hl⟩ := List.nodup_cons.mp hl
    rw [List.foldl_cons, ih hl, hf]
    by_cases hj : j = i
    · subst hj
      simp [hi]
    · simp [hj]

theorem nodup_allFour : allFour.Nodup := by decide

theorem nodup_allEight : allEight.Nodup := by decide

/-! ## Fetches discarded (R160) -/

theorem ReadEntry.currentOf_discard (ch k : Fin 4) (e : ReadEntry) :
    (e.discard ch).currentOf k = (decide (k ≠ ch) && e.currentOf k) := by
  cases e with
  | lookup => simp [ReadEntry.discard, ReadEntry.currentOf]
  | fetch c x g role cur sup =>
    by_cases hk : c = k
    · subst hk
      by_cases hc : c = ch <;> simp [ReadEntry.discard, ReadEntry.currentOf, hc]
    · simp [ReadEntry.discard, ReadEntry.currentOf, hk]

theorem Store.awaits_discardFetches (st : Store) (ch k : Fin 4) :
    (st.discardFetches ch).awaits k = (decide (k ≠ ch) && st.awaits k) := by
  unfold Store.awaits
  rw [Store.inFlight_discardFetches]
  by_cases hk : k = ch <;> simp [List.any_map, Function.comp_def, ReadEntry.currentOf_discard, hk]

/-! ## A link going DOWN (R178) -/

/-- Whether a link going DOWN halts a channel (R178). -/
def Channel.haltsAt (l : Fin 2) (c : Channel) : Bool := c.playing && c.config.route.any fun r => decide (r.link = l)

theorem channelDown_eq (l : Fin 2) (s : State) (ch : Fin 4) :
    channelDown l s ch =
      if (s.channel ch).haltsAt l then
        settleFault ch s.houseTime (haltChannel ch .linkDown (s.onChannel ch (Channel.dropEmission l)))
      else s.onChannel ch (Channel.dropEmission l) := by
  unfold channelDown
  dsimp only
  rw [State.channel_onChannel_self]
  rfl

/-- What the streams and channels do at a link going DOWN leaves all this as it was. -/
structure DownFrame (s t : State) : Prop where
  timer : t.timer = s.timer
  clips : t.clips = s.clips
  groups : t.groups = s.groups
  latches : t.latches = s.latches
  engine : t.engine = s.engine
  cues : t.cues = s.cues
  lines : t.lines = s.lines
  links : t.links = s.links
  store : t.store.dram = s.store.dram ∧ t.store.allotments = s.store.allotments
  endpoint : t.endpoint.id = s.endpoint.id ∧ t.endpoint.reset = s.endpoint.reset
  rest : t.resetHeld = s.resetHeld ∧ t.freeIndex = s.freeIndex ∧ t.pending = s.pending

namespace DownFrame

variable {s t u : State}

theorem refl (s : State) : DownFrame s s := ⟨rfl, rfl, rfl, rfl, rfl, rfl, rfl, rfl, ⟨rfl, rfl⟩, ⟨rfl, rfl⟩, rfl, rfl, rfl⟩

theorem trans (h : DownFrame s t) (k : DownFrame t u) : DownFrame s u where
  timer := k.timer.trans h.timer
  clips := k.clips.trans h.clips
  groups := k.groups.trans h.groups
  latches := k.latches.trans h.latches
  engine := k.engine.trans h.engine
  cues := k.cues.trans h.cues
  lines := k.lines.trans h.lines
  links := k.links.trans h.links
  store := ⟨k.store.1.trans h.store.1, k.store.2.trans h.store.2⟩
  endpoint := ⟨k.endpoint.1.trans h.endpoint.1, k.endpoint.2.trans h.endpoint.2⟩
  rest := ⟨k.rest.1.trans h.rest.1, k.rest.2.1.trans h.rest.2.1, k.rest.2.2.trans h.rest.2.2⟩

theorem foldl {α : Type} {f : State → α → State} (hf : ∀ s a, DownFrame s (f s a)) (l : List α) (s : State) :
    DownFrame s (l.foldl f s) := by
  induction l generalizing s with
  | nil => exact refl s
  | cons a l ih => exact (hf s a).trans (ih _)

theorem abandon (i : Fin 8) (s : State) : DownFrame s (abandon i s) := by
  unfold Machine.abandon
  split
  · exact refl s
  · exact { refl s with }

theorem streamDown (l : Fin 2) (s : State) (i : Fin 8) : DownFrame s (streamDown l s i) := by
  unfold Machine.streamDown
  split
  · exact abandon i s
  · exact refl s

theorem onChannel (ch : Fin 4) (f : Channel → Channel) (s : State) : DownFrame s (s.onChannel ch f) := { refl s with }

theorem raise (time : Nat) (body : NoticeBody) (s : State) : DownFrame s (raise time body s) := by
  have hep : (s.endpoint.raise ⟨time, body⟩).id = s.endpoint.id ∧
      (s.endpoint.raise ⟨time, body⟩).reset = s.endpoint.reset := by
    obtain ⟨-, -, -, h⟩ | ⟨-, -, -, h⟩ | ⟨-, h⟩ := s.endpoint.raise_cases ⟨time, body⟩ <;> rw [h] <;> exact ⟨rfl, rfl⟩
  exact { refl s with endpoint := hep }

theorem settleFault (ch : Fin 4) (time : Nat) (s : State) : DownFrame s (settleFault ch time s) := by
  obtain ⟨-, h⟩ | ⟨-, h⟩ := settleFault_cases s ch time <;> rw [h]
  · exact refl s
  · exact (onChannel ch _ s).trans (raise _ _ _)

theorem haltChannel (ch : Fin 4) (cause : HaltCause) (s : State) : DownFrame s (haltChannel ch cause s) := { refl s with }

theorem channelDown (l : Fin 2) (s : State) (ch : Fin 4) : DownFrame s (channelDown l s ch) := by
  rw [channelDown_eq]
  split
  · exact ((onChannel ch _ s).trans (haltChannel ch _ _)).trans (settleFault ch _ _)
  · exact onChannel ch _ s

end DownFrame

/-- The streams and channels at a link going DOWN, before a RESET PART acts (R178). -/
def allDown (l : Fin 2) (s : State) : State :=
  allFour.foldl (channelDown l) (allEight.foldl (streamDown l) (s.onPort l Link.goDown))

theorem linkGoesDown_eq (l : Fin 2) (s : State) :
    linkGoesDown l s = if (allDown l s).endpoint.reset.onLink l then actResetPart (allDown l s) else allDown l s := by
  unfold linkGoesDown allDown
  rfl

theorem allDown_frame (l : Fin 2) (s : State) : DownFrame (s.onPort l Link.goDown) (allDown l s) :=
  (DownFrame.foldl (DownFrame.streamDown l) _ _).trans (DownFrame.foldl (DownFrame.channelDown l) _ _)

theorem allDown_port (l k : Fin 2) (s : State) :
    (allDown l s).port k = if k = l then (s.port l).goDown else s.port k := by
  unfold State.port
  rw [(allDown_frame l s).links]
  exact Two.get_set _ _ _ _

/-- A stream at a link going DOWN (R26). -/
def Stream.down (l : Fin 2) (r : Stream) : Stream :=
  if r.enabled = true ∧ r.link = l ∧ r.assembly ≠ none then { r with assembly := none, torn := bump r.torn } else r

theorem stream_streamDown (l : Fin 2) (s : State) (i j : Fin 8) :
    (streamDown l s i).stream j = if j = i then (s.stream i).down l else s.stream j := by
  unfold streamDown abandon Stream.down
  by_cases hl : (s.stream i).enabled = true ∧ (s.stream i).link = l
  · rw [if_pos hl]
    cases ha : (s.stream i).assembly with
    | none =>
      by_cases hj : j = i
      · subst hj; simp
      · simp [hj]
    | some a =>
      by_cases hj : j = i
      · subst hj; simp [hl]
      · simp [hj]
  · rw [if_neg hl]
    by_cases hj : j = i
    · subst hj
      rw [if_pos rfl, if_neg fun h => hl ⟨h.1, h.2.1⟩]
    · simp [hj]

/-- A stream at a link going DOWN empties no slot but the one it assembles in, and keeps every generation (R20). -/
theorem slot_streamDown (l : Fin 2) (s : State) (i : Fin 8) (x : Nat) :
    ((streamDown l s i).store.slot x).generation = (s.store.slot x).generation ∧
      ((s.store.slot x).occupant = .empty → ((streamDown l s i).store.slot x).occupant = .empty) ∧
      ∀ a, (s.stream i).enabled = true → (s.stream i).link = l → (s.stream i).assembly = some a → a.slot = x →
        ((streamDown l s i).store.slot x).occupant = .empty := by
  unfold streamDown abandon
  by_cases hl : (s.stream i).enabled = true ∧ (s.stream i).link = l
  · rw [if_pos hl]
    cases ha : (s.stream i).assembly with
    | none => exact ⟨rfl, id, fun a _ _ h => nomatch h⟩
    | some a =>
      simp only [State.onStream_store, State.onStore_store, Store.slot_setSlot]
      refine ⟨?_, fun h => ?_, fun b _ _ hb hx => ?_⟩
      · split_ifs with h
        · rw [h]
        · rfl
      · split_ifs
        · rfl
        · exact h
      · cases hb
        rw [if_pos hx.symm]
  · rw [if_neg hl]
    exact ⟨rfl, id, fun a h1 h2 => absurd ⟨h1, h2⟩ hl⟩

/-- The streams at a link going DOWN keep every generation, and the slots of the frames torn are empty. -/
theorem slot_allStreams (l : Fin 2) {is : List (Fin 8)} (his : is.Nodup) (s : State) (x : Nat) :
    let t := is.foldl (streamDown l) s
    (t.store.slot x).generation = (s.store.slot x).generation ∧
      ((s.store.slot x).occupant = .empty → (t.store.slot x).occupant = .empty) ∧
      ∀ i ∈ is, ∀ a, (s.stream i).enabled = true → (s.stream i).link = l → (s.stream i).assembly = some a → a.slot = x →
        (t.store.slot x).occupant = .empty := by
  induction is generalizing s with
  | nil => exact ⟨rfl, id, fun i hi => absurd hi List.not_mem_nil⟩
  | cons i is ih =>
    obtain ⟨hi, his⟩ := List.nodup_cons.mp his
    obtain ⟨g1, e1, a1⟩ := slot_streamDown l s i x
    obtain ⟨g2, e2, a2⟩ := ih his (streamDown l s i)
    refine ⟨g2.trans g1, fun h => e2 (e1 h), fun j hj a h1 h2 h3 h4 => ?_⟩
    obtain rfl | hj := List.mem_cons.mp hj
    · exact e2 (a1 a h1 h2 h3 h4)
    · have hne : j ≠ i := fun h => hi (h ▸ hj)
      have hsame : (streamDown l s i).stream j = s.stream j := by rw [stream_streamDown, if_neg hne]
      exact a2 j hj a (hsame ▸ h1) (hsame ▸ h2) (hsame ▸ h3) h4

/-- A channel record at a link going DOWN (R166, R178). -/
def Channel.down (l : Fin 2) (c : Channel) : Channel :=
  if c.haltsAt l then { c.dropEmission l with state := .halted .linkDown, level := 3 } else c.dropEmission l

theorem Channel.haltsAt_iff (l : Fin 2) (c : Channel) : c.haltsAt l = true ↔
    (c.state = .cued ∨ c.state = .running ∨ c.state = .inBreak) ∧ ∃ r, c.config.route = some r ∧ r.link = l := by
  unfold Channel.haltsAt
  simp [Channel.playing_iff, Option.any_eq_true]

theorem Channel.halted_of_playing {c : Channel} (h : c.playing = true) (cause : HaltCause) :
    c.halted cause = { c with state := .halted cause } := by
  unfold Channel.halted
  split
  · rename_i hs
    simp [Channel.playing, hs] at h
  · rfl

theorem channel_channelDown (l : Fin 2) (s : State) (ch j : Fin 4) :
    (channelDown l s ch).channel j = if j = ch then (s.channel ch).down l else s.channel j := by
  rw [channelDown_eq]
  unfold Channel.down
  by_cases h : (s.channel ch).haltsAt l = true
  · have hplay : ((s.channel ch).dropEmission l).playing = true := (Bool.and_eq_true_iff.mp h).1
    rw [if_pos h, if_pos h, channel_settleFault, haltChannel_eq, State.channel_onStore,
      State.channel_onChannel_self, State.channel_onChannel_self, Channel.halted_of_playing hplay]
    by_cases hj : j = ch
    · rw [if_pos hj, if_pos hj]
      rfl
    · rw [if_neg hj, if_neg hj, State.channel_onStore, State.channel_onChannel, if_neg hj, State.channel_onChannel,
        if_neg hj]
  · rw [if_neg h, if_neg h, State.channel_onChannel]

theorem awaits_channelDown (l : Fin 2) (s : State) (ch j : Fin 4) :
    (channelDown l s ch).store.awaits j =
      if j = ch then !(s.channel ch).haltsAt l && s.store.awaits ch else s.store.awaits j := by
  rw [channelDown_eq]
  by_cases h : (s.channel ch).haltsAt l = true
  · rw [if_pos h, settleFault_store, haltChannel_eq, State.onStore_store, Store.awaits_discardFetches,
      h]
    by_cases hj : j = ch <;> simp [hj]
  · rw [if_neg h, (Bool.not_eq_true _).mp h]
    by_cases hj : j = ch <;> simp [hj]

theorem channelDown_streams (l : Fin 2) (s : State) (ch : Fin 4) :
    (channelDown l s ch).streams = s.streams ∧ (channelDown l s ch).store.slots = s.store.slots := by
  rw [channelDown_eq]
  split
  · rw [settleFault_streams, settleFault_store]
    exact ⟨rfl, rfl⟩
  · exact ⟨rfl, rfl⟩

theorem allChannels_streams (l : Fin 2) (cs : List (Fin 4)) (s : State) :
    (cs.foldl (channelDown l) s).streams = s.streams ∧ (cs.foldl (channelDown l) s).store.slots = s.store.slots := by
  induction cs generalizing s with
  | nil => exact ⟨rfl, rfl⟩
  | cons ch cs ih =>
    obtain ⟨h1, h2⟩ := channelDown_streams l s ch
    obtain ⟨k1, k2⟩ := ih (channelDown l s ch)
    exact ⟨k1.trans h1, k2.trans h2⟩

theorem abandon_channels (i : Fin 8) (s : State) :
    (abandon i s).channels = s.channels ∧ (abandon i s).store.inFlight = s.store.inFlight := by
  unfold abandon
  split <;> exact ⟨rfl, rfl⟩

theorem allStreams_channels (l : Fin 2) (is : List (Fin 8)) (s : State) :
    (is.foldl (streamDown l) s).channels = s.channels ∧
      (is.foldl (streamDown l) s).store.inFlight = s.store.inFlight := by
  induction is generalizing s with
  | nil => exact ⟨rfl, rfl⟩
  | cons i is ih =>
    obtain ⟨k1, k2⟩ := ih (streamDown l s i)
    have h : (streamDown l s i).channels = s.channels ∧ (streamDown l s i).store.inFlight = s.store.inFlight := by
      unfold streamDown
      split
      · exact abandon_channels i s
      · exact ⟨rfl, rfl⟩
    exact ⟨k1.trans h.1, k2.trans h.2⟩

theorem allDown_stream (l : Fin 2) (s : State) (i : Fin 8) : (allDown l s).stream i = (s.stream i).down l := by
  unfold State.stream allDown
  rw [(allChannels_streams l _ _).1]
  have h := get_foldl State.stream (fun _ => Stream.down l) (stream_streamDown l) nodup_allEight (s.onPort l Link.goDown) i
  rw [if_pos (mem_allEight i)] at h
  exact h

theorem allDown_slot (l : Fin 2) (s : State) (x : Nat) :
    ((allDown l s).store.slot x).generation = (s.store.slot x).generation ∧
      ∀ i a, (s.stream i).enabled = true → (s.stream i).link = l → (s.stream i).assembly = some a → a.slot = x →
        ((allDown l s).store.slot x).occupant = .empty := by
  have hslot : (allDown l s).store.slot x = ((allEight.foldl (streamDown l) (s.onPort l Link.goDown)).store.slot x) := by
    unfold Store.slot allDown
    rw [(allChannels_streams l _ _).2]
  obtain ⟨hg, -, he⟩ := slot_allStreams l nodup_allEight (s.onPort l Link.goDown) x
  rw [hslot]
  exact ⟨hg, fun i => he i (mem_allEight i)⟩

theorem allDown_channel (l : Fin 2) (s : State) (ch : Fin 4) : (allDown l s).channel ch = (s.channel ch).down l := by
  have h := get_foldl State.channel (fun _ => Channel.down l) (channel_channelDown l) nodup_allFour
    (allEight.foldl (streamDown l) (s.onPort l Link.goDown)) ch
  rw [if_pos (mem_allFour ch)] at h
  unfold allDown
  rw [h]
  unfold State.channel
  rw [(allStreams_channels l _ _).1]
  rfl

theorem allDown_awaits (l : Fin 2) (s : State) (ch : Fin 4) (h : (s.channel ch).haltsAt l = true) :
    (allDown l s).store.awaits ch = false := by
  have hf := get_foldl (fun (s : State) ch => (s.channel ch, s.store.awaits ch))
    (fun _ p => (p.1.down l, !p.1.haltsAt l && p.2))
    (fun s i j => by
      dsimp only
      rw [channel_channelDown, awaits_channelDown]
      by_cases hj : j = i
      · rw [if_pos hj, if_pos hj, if_pos hj]
      · rw [if_neg hj, if_neg hj, if_neg hj])
    nodup_allFour (allEight.foldl (streamDown l) (s.onPort l Link.goDown)) ch
  rw [if_pos (mem_allFour ch)] at hf
  have hch : (allEight.foldl (streamDown l) (s.onPort l Link.goDown)).channel ch = s.channel ch := by
    unfold State.channel
    rw [(allStreams_channels l _ _).1]
    rfl
  rw [hch, h] at hf
  exact (Prod.ext_iff.mp hf).2

theorem ResetProgress.onLink_iff (r : ResetProgress) (l : Fin 2) : r.onLink l = true ↔ r = .queued l ∨ r = .sending l := by
  cases r <;> simp [ResetProgress.onLink]

theorem linkGoesDown_up (l : Fin 2) (s : State) :
    (linkGoesDown l s).resetHeld = s.resetHeld ∧
      ∀ k, ((linkGoesDown l s).port k).up = if k = l then false else (s.port k).up := by
  have hup : ∀ k, ((allDown l s).port k).up = if k = l then false else (s.port k).up := fun k => by
    rw [allDown_port]
    split <;> rfl
  rw [linkGoesDown_eq]
  split
  · exact ⟨(allDown_frame l s).rest.1, fun k => by rw [port_actResetPart, ← hup]; rfl⟩
  · exact ⟨(allDown_frame l s).rest.1, hup⟩

/-- A link taken DOWN unless it is so already (R192). -/
def downUnless (s : State) (l : Fin 2) : State := if (s.port l).up then linkGoesDown l s else s

theorem downUnless_up (l : Fin 2) (s : State) :
    (downUnless s l).resetHeld = s.resetHeld ∧
      ∀ k, ((downUnless s l).port k).up = if k = l then false else (s.port k).up := by
  unfold downUnless
  split
  · exact linkGoesDown_up l s
  · rename_i h
    refine ⟨rfl, fun k => ?_⟩
    split
    · rename_i hk
      exact hk ▸ (Bool.not_eq_true _).mp h
    · rfl

theorem downUnless_of_down {s : State} {l : Fin 2} (h : (s.port l).up = false) : downUnless s l = s :=
  if_neg (h ▸ Bool.false_ne_true)

theorem execResetNHeldLow_eq (s : State) :
    execResetNHeldLow s = .next (downUnless (downUnless { s with resetHeld := true } 0) 1) := rfl

/-! ## The reset state -/

theorem storeSound_reset : StoreSound State.reset := storeSound_resetBlocks 224 (Two.fill {}) State.reset

theorem reset_channel (ch : Fin 4) : State.reset.channel ch = {} := afterReset_reset.channels ch

theorem reset_port (l : Fin 2) : State.reset.port l = {} := by fin_cases l <;> rfl

theorem reset_not_playing (ch : Fin 4) : (State.reset.channel ch).playing = false := (reset_channel ch).symm ▸ rfl

theorem reset_unbound (ch : Fin 4) : (State.reset.channel ch).binding = .unbound := (reset_channel ch).symm ▸ rfl

theorem initial_inRange : ({} : Channel).inRange := by
  refine ⟨by decide, by decide, by decide, by decide, ⟨by decide, by decide, by decide, by decide, by decide, by decide⟩,
    by decide, by decide, nofun, by decide, by decide, nofun, by decide, by decide⟩

theorem keysOrdered_reset : KeysOrdered State.reset := by
  intro i
  rw [afterReset_reset.streams i]
  exact ⟨fun _ => rfl, nofun, nofun⟩

theorem positionsInBounds_reset : PositionsInBounds State.reset := by
  refine ⟨keysOrdered_reset, nofun, fun ch => ?_⟩
  rw [reset_channel ch]
  exact ⟨by decide, nofun, nofun, nofun⟩

theorem clipsSound_reset : ClipsSound State.reset := by
  refine ⟨fun g id h => ?_, nofun⟩
  rw [afterReset_reset.groups g] at h
  cases h

theorem blankCue_ok : cueOk blankCue = true := by decide

theorem pages_reset_ok : State.reset.PagesOk := by
  intro page hpage q hq
  obtain rfl := List.eq_of_mem_replicate hpage
  obtain rfl := List.eq_of_mem_replicate hq
  exact blankCue_ok

end Sys2Proof.Machine

namespace Sys2Proof.Proofs

open Sys2Proof.Machine

/-- Settles O57: a link going DOWN is `allDown`, after which a RESET PART that waits on the link acts. -/
theorem linkUpAndDown : Obligations.LinkUpAndDown := by
  intro l s
  dsimp only
  have hframe := allDown_frame l s
  have hdown : (s.port l).up = true → exec (.linkDown l) s = .next (linkGoesDown l s) := fun hup => if_pos hup
  refine ⟨rfl, fun hup => if_neg (hup ▸ Bool.false_ne_true), fun hup hres => ?_, fun hup hres => ?_⟩
  · have hstay : linkGoesDown l s = allDown l s := by
      rw [linkGoesDown_eq, hframe.endpoint.2, if_neg]
      exact fun h => hres ((ResetProgress.onLink_iff _ _).1 h)
    refine ⟨allDown l s, (hdown hup).trans (congrArg _ hstay), ?_, ?_, hframe.endpoint.2, allDown_stream l s,
      fun i a h1 h2 h3 => ⟨(allDown_slot l s a.slot).2 i a h1 h2 h3 rfl, (allDown_slot l s a.slot).1⟩, fun ch => ?_,
      hframe.timer, hframe.clips, hframe.groups, hframe.latches, hframe.engine, hframe.cues, hframe.lines,
      hframe.store.1, hframe.store.2⟩
    · rw [allDown_port, if_pos rfl]
      rfl
    · rw [allDown_port, if_neg ((otherLink_eq_iff _ _).1 rfl)]
    · rw [allDown_channel]
      unfold Channel.down
      by_cases h : (s.channel ch).haltsAt l = true
      · rw [if_pos h, if_pos ((Channel.haltsAt_iff _ _).1 h)]
        exact ⟨rfl, allDown_awaits l s ch h⟩
      · rw [if_neg h, if_neg (mt (Channel.haltsAt_iff _ _).2 h)]
        rfl
  · have hact : linkGoesDown l s = actResetPart (allDown l s) := by
      rw [linkGoesDown_eq, hframe.endpoint.2, if_pos]
      exact (ResetProgress.onLink_iff _ _).2 hres
    have hafter := afterReset_actResetPart (allDown l s)
    have hpins : (fun n => ((allDown l s).line n).pinHigh) = fun n => (s.line n).pinHigh := by
      unfold State.line
      rw [hframe.lines]
      rfl
    rw [hframe.endpoint.1, hpins] at hafter
    refine ⟨_, (hdown hup).trans (congrArg _ hact), hafter, ?_, ?_, hframe.store.1, hframe.rest⟩
    · rw [port_actResetPart, allDown_port, if_pos rfl]
      exact ⟨rfl, rfl⟩
    · rw [port_actResetPart, allDown_port, if_neg ((otherLink_eq_iff _ _).1 rfl)]
      exact ⟨rfl, rfl⟩

/-- Settles O60: every reset is `resetBlocks`, and holding RESET_N low takes one link DOWN after the other. -/
theorem resets : Obligations.Resets := by
  intro s
  refine ⟨fun h => ?_, fun l h => ?_, fun a b i hi => ?_, ?_, fun h => ?_⟩
  · show execResetPartActs s = _
    unfold execResetPartActs
    split
    · rename_i l hl
      exact absurd hl (h l)
    · rfl
  · refine ⟨actResetPart (s.onPort l fun p => { p with sending := none }), ?_,
      ⟨afterReset_actResetPart (s.onPort l fun p => { p with sending := none }), rfl, rfl, rfl⟩, rfl, ?_, ?_⟩
    · show execResetPartActs s = _
      unfold execResetPartActs
      rw [h]
    · rw [port_actResetPart, State.port_onPort, if_pos rfl]
      exact ⟨rfl, rfl⟩
    · rw [port_actResetPart, State.port_onPort, if_neg ((otherLink_eq_iff _ _).1 rfl)]
      exact ⟨rfl, rfl⟩
  · have hexec : exec i s = .next (lineReset a b s) := by obtain rfl | rfl := hi <;> rfl
    have hport : ∀ l, (lineReset a b s).port l = {} := fun l => Two.get_fill l _
    refine ⟨_, hexec, ⟨afterReset_lineReset a b s, rfl, rfl, rfl⟩, rfl, fun l => ?_⟩
    rw [hport l]
    exact ⟨rfl, rfl⟩
  · obtain ⟨h0, k0⟩ := downUnless_up 0 { s with resetHeld := true }
    obtain ⟨h1, k1⟩ := downUnless_up 1 (downUnless { s with resetHeld := true } 0)
    refine ⟨_, execResetNHeldLow_eq s, h1.trans h0, fun l => ?_⟩
    rw [k1, k0]
    fin_cases l <;> rfl
  · have h0 : downUnless { s with resetHeld := true } 0 = { s with resetHeld := true } := downUnless_of_down (h 0)
    have h1 : downUnless { s with resetHeld := true } 1 = { s with resetHeld := true } := downUnless_of_down (h 1)
    exact (execResetNHeldLow_eq s).trans (by rw [h0, h1])

/-- Settles O14, from the After reset values of every record. -/
theorem resetMeetsInvariants : Obligations.ResetMeetsInvariants := by
  have hr := afterReset_reset
  refine ⟨⟨fun l => ?_, by decide, fun _ => rfl⟩, ⟨by decide, nofun, by decide, by decide, fun i => ?_⟩, fun ch => ?_,
    ⟨fun ch => ?_, pages_reset_ok⟩, ?_, storeSound_reset, ⟨fun i => ?_, fun l => ?_, fun n => ?_, by decide⟩, fun ch h => ?_,
    ⟨by decide, fun ch id h => ?_, nofun⟩, ⟨by decide, clipsSound_reset, nofun, fun x => ?_⟩, positionsInBounds_reset, ?_,
    ⟨fun i => ?_, fun i j h => ?_, by decide⟩, ⟨fun x => ?_, nofun⟩, hr, fun l => ?_, rfl, rfl, rfl⟩
  · rw [reset_port]
    exact ⟨by decide, by decide, by decide, fun _ => ⟨rfl, rfl, rfl, rfl⟩⟩
  · rw [hr.allotments i]
    decide
  · rw [reset_channel]
    rfl
  · exact (reset_channel ch).symm ▸ initial_inRange
  · exact ⟨rfl, by decide, by decide, fun _ => rfl, by decide, by decide, fun _ => ⟨rfl, .inl rfl⟩⟩
  · rw [hr.streams i]
    exact ⟨by decide, by decide, by decide⟩
  · rw [reset_port]
    exact ⟨by decide, by decide, by decide, by decide⟩
  · rw [hr.latches n]
    exact ⟨by decide, by decide⟩
  · exact absurd h (by rw [reset_not_playing]; exact Bool.false_ne_true)
  · rw [reset_unbound] at h
    cases h
  · rw [(hr.slots.2 x).1]
    rfl
  · exact ⟨by decide, by decide, by decide, nofun, fun _ => rfl⟩
  · rw [hr.streams i]
    exact ⟨by decide, by decide⟩
  · rw [hr.streams i] at h
    cases h
  · rw [(hr.slots.2 x).1]
    exact Nat.zero_le _
  · rw [reset_port]
    exact ⟨rfl, rfl⟩

end Sys2Proof.Proofs
end

section
/-! PROOFS. The Reference Timer's events and house time (chapter 1), with SET HOUSE TIME (R14). -/

namespace Sys2Proof.Machine

theorem Timer.nominal_eq (t : Timer) : t.nominal = if t.rate = .hz50 then 4000000 else 3336667 := by
  unfold Timer.nominal
  cases t.rate <;> rfl

theorem Timer.tolerance_eq (t : Timer) : t.tolerance = if t.rate = .hz50 then 15625 else 13033 := by
  unfold Timer.tolerance Timer.nominal
  cases t.rate <;> decide

theorem distance_le_iff (a b n : Nat) : distance a b ≤ n ↔ b ≤ a + n ∧ a ≤ b + n := by
  unfold distance
  omega

theorem Timer.due_of_lost {t : Timer} (h : t.state = .lost) : t.due = t.period := by
  unfold Timer.due
  rw [h]

theorem Timer.due_of_awaiting {t : Timer} (h : t.state = .locking ∨ t.state = .locked ∨ t.state = .flywheel) :
    t.due = t.period + t.tolerance := by
  unfold Timer.due
  obtain h | h | h := h <;> rw [h]

theorem Timer.phase_eq (t : Timer) :
    t.phase = if t.state = .unlocked ∨ t.state = .locking ∧ t.fresh = true then 0
      else min 2879 (t.count * 2880 / t.period) := by
  unfold Timer.phase
  cases t.state <;> simp

theorem State.onTimer_congr {s : State} {f g : Timer → Timer} (h : f s.timer = g s.timer) : s.onTimer f = s.onTimer g := by
  unfold State.onTimer
  rw [h]

/-! ## Pulses (R4, R5, R7, R8) -/

theorem exec_pulse_of_unlocked {s : State} (h : s.timer.state = .unlocked) (c : Nat) :
    exec (.referencePulse c) s = .next (takePulse 0 s) := if_pos h

theorem exec_pulse {s : State} {c : Nat} (h : s.timer.state ≠ .unlocked) (hc : s.timer.count ≤ c) (hd : c ≤ s.timer.due) :
    exec (.referencePulse c) s = .next (takePulse c (s.onTimer fun t => { t with count := c })) :=
  (if_neg h).trans (if_pos ⟨hc, hd⟩)

theorem takePulse_of_unlocked {s : State} (h : s.timer.state = .unlocked) (c : Nat) :
    takePulse c s = noteState .unlocked (s.onTimer fun t => { t with count := 0, missing := 0, state := .locking }) := by
  unfold takePulse
  simp only [h]

theorem takePulse_of_near {s : State} {c : Nat}
    (h : s.timer.state = .locked ∨ s.timer.state = .flywheel ∨ s.timer.state = .locking)
    (hc : distance c s.timer.period ≤ s.timer.tolerance) : takePulse c s = acceptPulse c s := by
  unfold takePulse
  obtain h | h | h := h <;> simp only [h, if_pos hc]

theorem takePulse_of_far {s : State} {c : Nat} (h : s.timer.state = .locked ∨ s.timer.state = .flywheel)
    (hc : ¬distance c s.timer.period ≤ s.timer.tolerance) :
    takePulse c s = s.onTimer fun t => { t with count := c, offRate := bump t.offRate } := by
  unfold takePulse
  obtain h | h := h <;> simp only [h, if_neg hc]

theorem takePulse_of_retime {s : State} {c : Nat}
    (h : s.timer.state = .locking ∧ ¬distance c s.timer.period ≤ s.timer.tolerance ∨ s.timer.state = .lost) :
    takePulse c s = retimePulse c s := by
  unfold takePulse
  obtain ⟨h, hc⟩ | h := h
  · simp only [h, if_neg hc]
  · simp only [h]

/-- The period after an accepted pulse: the count when it lies within the tolerance of the nominal period (R5, R8). -/
theorem acceptPulse_eq (c : Nat) (s : State) :
    acceptPulse c s = noteState s.timer.state ((boundary s).onTimer fun t =>
      { t with
        period := if s.timer.nominal ≤ c + s.timer.tolerance ∧ c ≤ s.timer.nominal + s.timer.tolerance then c
          else s.timer.period
        count := 0, missing := 0, state := .locked }) := by
  unfold acceptPulse
  refine congrArg _ (State.onTimer_congr ?_)
  rw [boundary_timer]
  simp only [Timer.measured, distance_le_iff]
  rfl

/-! ## Expiries (R6 to R8) -/

theorem exec_flywheelExpiry {s : State}
    (h : s.timer.state = .locking ∨ s.timer.state = .locked ∨ s.timer.state = .flywheel) :
    exec .flywheelExpiry s = .next (noteState s.timer.state
      ((boundary (s.onTimer fun t => { t with count := t.period + s.timer.tolerance })).onTimer Timer.expired)) := by
  have hdue := Timer.due_of_awaiting h
  have hcount : (s.onTimer fun t => { t with count := t.due }) =
      s.onTimer fun t => { t with count := t.period + s.timer.tolerance } :=
    State.onTimer_congr (by rw [hdue])
  rw [← hcount]
  show execFlywheelExpiry s = _
  unfold execFlywheelExpiry
  obtain h | h | h := h <;> simp only [h]

theorem exec_flywheelExpiry_of_other {s : State}
    (h : ¬(s.timer.state = .locking ∨ s.timer.state = .locked ∨ s.timer.state = .flywheel)) :
    exec .flywheelExpiry s = .next s := by
  show execFlywheelExpiry s = _
  unfold execFlywheelExpiry
  split
  · exact absurd (.inl ‹_›) h
  · exact absurd (.inr (.inl ‹_›)) h
  · exact absurd (.inr (.inr ‹_›)) h
  · rfl

theorem exec_lostFreeRun (s : State) :
    exec .lostFreeRun s =
      if s.timer.state = .lost then
        .next ((boundary (s.onTimer fun t => { t with count := t.period })).onTimer fun t => { t with count := 0 })
      else .next s := by
  show execLostFreeRun s = _
  unfold execLostFreeRun
  split
  · rename_i h
    have hcount : (s.onTimer fun t => { t with count := t.due }) = s.onTimer fun t => { t with count := t.period } :=
      State.onTimer_congr (by rw [Timer.due_of_lost h])
    rw [if_pos h, hcount]
  · rename_i h
    rw [if_neg h]

/-- The timer after an expiry: three missing pulses are LOST, and LOCKING goes there at once (R6, R8). -/
theorem Timer.expired_eq (t : Timer) :
    let m := if t.state = .locking then 3 else t.missing + 1
    t.expired = { t with count := t.tolerance, missing := m, state := if m < 3 then .flywheel else .lost } := by
  dsimp only
  unfold Timer.expired
  split
  · rename_i h
    rw [if_pos h]
    rfl
  · rename_i h
    rw [if_neg h]

/-! ## SET HOUSE TIME (R14) -/

theorem HouseRate.ofCode_none {n : Nat} (h : n ≠ 1 ∧ n ≠ 2) : HouseRate.ofCode n = none := by
  obtain ⟨h1, h2⟩ := h
  unfold HouseRate.ofCode
  split
  · exact absurd rfl h1
  · exact absurd rfl h2
  · rfl

theorem HouseRate.ofCode_some {n : Nat} (h : ¬(n ≠ 1 ∧ n ≠ 2)) :
    HouseRate.ofCode n = some (if n = 1 then .hz50 else .hz5994) := by
  obtain rfl | rfl : n = 1 ∨ n = 2 := by omega
  · rfl
  · rfl

/-- The timer that SET HOUSE TIME starts (R14). -/
def Timer.restarted (rate : HouseRate) (count offRate : Nat) : Timer :=
  { state := .unlocked, rate := rate, period := Timer.nominal { rate := rate }, count := 0, missing := 0, frames := count,
    offRate := offRate, fresh := false }

theorem houseTime_restarted (rate : HouseRate) (count offRate : Nat) (s : State) :
    ({ s with timer := Timer.restarted rate count offRate } : State).houseTime = count * 2880 := by
  have hphase : (Timer.restarted rate count offRate).phase = 0 := rfl
  show count * 2880 + (Timer.restarted rate count offRate).phase = count * 2880
  rw [hphase, Nat.add_zero]

theorem setHouseTime_accepted {s : State} {rate count : Nat} {r : HouseRate} (hr : HouseRate.ofCode rate = some r)
    (hc : ¬2 ^ 40 ≤ count) (hen : ¬∃ i, (s.stream i).enabled = true) :
    setHouseTime rate count s = accept (be 7 (count * 2880))
      (noteState s.timer.state { s with timer := Timer.restarted r count s.timer.offRate }) := by
  have hany : ¬allEight.any (fun i => (s.stream i).enabled) = true := fun h => by
    obtain ⟨i, -, hi⟩ := List.any_eq_true.mp h
    exact hen ⟨i, hi⟩
  rw [← houseTime_restarted r count s.timer.offRate s]
  unfold setHouseTime
  rw [hr]
  dsimp only
  rw [if_neg hc, if_neg hany]
  rfl

/-- The restart is a change of state unless the timer was in UNLOCKED already (R9, R14). -/
theorem noteState_restarted (old : RefState) (r : HouseRate) (count offRate : Nat) (s : State) :
    noteState old { s with timer := Timer.restarted r count offRate } =
      if old = .unlocked then { s with timer := Timer.restarted r count offRate }
      else raise (count * 2880) (.referenceState old .unlocked (if r = .hz50 then 4000000 else 3336667) count)
        { s with timer := Timer.restarted r count offRate } := by
  have hperiod : (Timer.restarted r count offRate).period = if r = .hz50 then 4000000 else 3336667 := Timer.nominal_eq _
  rw [← hperiod, ← houseTime_restarted r count offRate s]
  unfold noteState
  by_cases h : old = .unlocked
  · rw [if_pos h, h]
    rfl
  · rw [if_neg h]
    exact if_neg (Ne.symm h)

end Sys2Proof.Machine

namespace Sys2Proof.Proofs

open Sys2Proof.Machine

/-- Settles O16, by the state of the timer at the pulse or the expiry. -/
theorem referenceTimerEvents : Obligations.ReferenceTimerEvents := by
  refine ⟨fun c s => ?_, fun s => ?_, fun s => congrArg _ s.timer.phase_eq⟩
  · rw [← Timer.nominal_eq, ← Timer.tolerance_eq]
    intro old note s1 L N T
    refine ⟨fun h => ?_, fun hc hd hL h => ?_, fun hc hL h => ?_, fun hc h => ?_⟩
    · rw [exec_pulse_of_unlocked h, takePulse_of_unlocked h, ← h]
      rfl
    · have hnear : distance c L ≤ T := (distance_le_iff _ _ _).2 ⟨hL, hd⟩
      have hstate : s.timer.state ≠ .unlocked := fun hu => by
        obtain h | h | h := h <;> cases hu.symm.trans h
      have hdue : s.timer.due = L + T := Timer.due_of_awaiting (by tauto)
      rw [exec_pulse hstate hc (hdue ▸ hd), takePulse_of_near (s := s1) h hnear, acceptPulse_eq]
      rfl
    · have hfar : ¬distance c L ≤ T := fun h => by
        have hle : L ≤ c + T := ((distance_le_iff _ _ _).1 h).1
        omega
      have hstate : s.timer.state ≠ .unlocked := fun hu => by
        obtain h | h := h <;> cases hu.symm.trans h
      have hdue : s.timer.due = L + T := Timer.due_of_awaiting (by tauto)
      rw [exec_pulse hstate hc (by omega), takePulse_of_far (s := s1) h hfar]
      rfl
    · have hstate : s.timer.state ≠ .unlocked := fun hu => by
        obtain ⟨h, -⟩ | ⟨h, -⟩ := h <;> cases hu.symm.trans h
      have hdue : c ≤ s.timer.due := by
        obtain ⟨h, hL⟩ | ⟨h, hL⟩ := h
        · rw [Timer.due_of_awaiting (.inl h)]
          omega
        · rw [Timer.due_of_lost h]
          exact hL
      have hretime : takePulse c s1 = retimePulse c s1 := takePulse_of_retime <| h.imp
        (fun ⟨hs, hL⟩ => ⟨hs, fun hn => by
          have hle : L ≤ c + T := ((distance_le_iff _ _ _).1 hn).1
          omega⟩) And.left
      have hold : (if L ≤ 2 * c then boundary s1 else s1).timer.state = old := by split <;> simp [s1, old]
      rw [exec_pulse hstate hc hdue, hretime]
      rfl
  · rw [← Timer.tolerance_eq]
    intro old T m t1
    refine ⟨?_, exec_lostFreeRun s⟩
    by_cases h : old = .locking ∨ old = .locked ∨ old = .flywheel
    · rw [exec_flywheelExpiry h, if_pos h]
      have ht1 : (boundary (s.onTimer fun t => { t with count := t.period + T })).onTimer Timer.expired = t1 := by
        refine State.onTimer_congr ?_
        rw [Timer.expired_eq, boundary_timer]
        rfl
      rw [ht1]
      rfl
    · rw [exec_flywheelExpiry_of_other h, if_neg h]

/-- Settles O18, by the checks in their order. -/
theorem setHouseTime : Obligations.SetHouseTime := by
  intro o rate count s htake
  dsimp only
  show takeRequest o 1 (Machine.setHouseTime rate count) s = _
  by_cases hrate : rate ≠ 1 ∧ rate ≠ 2
  · rw [if_pos (.inl hrate)]
    exact takeRequest_refused htake (by unfold Machine.setHouseTime; rw [HouseRate.ofCode_none hrate])
  have hr := HouseRate.ofCode_some hrate
  by_cases hcount : 2 ^ 40 ≤ count
  · rw [if_pos (.inr hcount)]
    exact takeRequest_refused htake (by unfold Machine.setHouseTime; rw [hr]; exact if_pos hcount)
  rw [if_neg (not_or.mpr ⟨hrate, hcount⟩)]
  by_cases hen : ∃ i, (s.stream i).enabled = true
  · rw [if_pos hen]
    refine takeRequest_refused htake ?_
    have hany : allEight.any (fun i => ((s.served o).stream i).enabled) = true := by
      obtain ⟨i, hi⟩ := hen
      exact List.any_eq_true.mpr ⟨i, mem_allEight i, hi⟩
    unfold Machine.setHouseTime
    rw [hr]
    dsimp only
    rw [if_neg hcount, if_pos hany]
  · rw [if_neg hen, takeRequest_accepted htake (setHouseTime_accepted hr hcount hen), noteState_restarted]
    obtain rfl | rfl : rate = 1 ∨ rate = 2 := by omega
    · rfl
    · rfl

end Sys2Proof.Proofs
end

section
/-! PROOFS. Numbers out of range (R93), the endpoint's own requests (sections 12.6 and 12.7), mark groups (R55), and the
clip list (R57, R70). -/

namespace Sys2Proof.Machine

/-! ## Numbers and flags that are refused -/

theorem recordNo_of_le {k n : Nat} (h : k ≤ n) : recordNo k n = none := dif_neg (Nat.not_lt.2 h)

theorem onChannelNo_of_le {n : Nat} (h : 4 ≤ n) (run : Fin 4 → State → Answer) (s : State) :
    onChannelNo n run s = refuse .badArgument s := by
  rw [onChannelNo, recordNo_of_le h]

theorem flagArg_of_lt {n : Nat} (h : 1 < n) : flagArg n = none := by
  unfold flagArg
  rw [if_neg (by omega), if_neg (by omega)]

theorem withFlag_of_lt {n : Nat} (h : 1 < n) (run : Bool → State → Answer) (s : State) :
    withFlag n run s = refuse .badArgument s := by
  rw [withFlag, flagArg_of_lt h]

theorem flagArg_ite (b : Bool) : flagArg (if b then 1 else 0) = some b := by cases b <;> rfl

/-- A channel request with a number out of range is refused (R93). -/
theorem takeRequest_channelNo {o : Origin} {kind n : Nat} {s : State} (htake : s.canTake o.link = true) (hn : 4 ≤ n)
    (run : Fin 4 → State → Answer) :
    takeRequest o kind (onChannelNo n run) s = .next (s.refused o kind .badArgument) :=
  takeRequest_refused htake (onChannelNo_of_le hn run _)

/-- A channel request with a yes-or-no byte other than 0 and 1 is refused, whatever its channel number (log entry 11). -/
theorem takeRequest_flag {o : Origin} {kind n f : Nat} {s : State} (htake : s.canTake o.link = true) (hf : 1 < f)
    (run : Fin 4 → Bool → State → Answer) :
    takeRequest o kind (onChannelNo n fun ch => withFlag f (run ch)) s = .next (s.refused o kind .badArgument) := by
  refine takeRequest_refused htake ?_
  unfold onChannelNo
  split
  · rfl
  · exact withFlag_of_lt hf _ _

/-! ## Mark groups (R55) -/

theorem mapM_recordNo_val {k : Nat} (l : List (Fin k)) : (l.map Fin.val).mapM (recordNo k) = some l := by
  induction l with
  | nil => rfl
  | cons i l ih => simp [recordNo_val, ih]

theorem mapM_recordNo_of_le {k : Nat} {l : List Nat} (h : ∃ x ∈ l, k ≤ x) : l.mapM (recordNo k) = none := by
  induction l with
  | nil =>
    obtain ⟨x, hx, -⟩ := h
    exact absurd hx List.not_mem_nil
  | cons y l ih =>
    obtain ⟨x, hx, hk⟩ := h
    rw [List.mapM_cons]
    obtain rfl | hx := List.mem_cons.mp hx
    · rw [recordNo_of_le hk]
      rfl
    · rw [ih ⟨x, hx, hk⟩]
      cases recordNo k y <;> rfl

theorem anglesArg_val {l : List (Fin 8)} (h1 : 1 ≤ l.length) (h8 : l.length ≤ 8) (hd : l.Nodup) :
    anglesArg (l.map Fin.val) = some l := by
  have hlen : (l.map Fin.val).length = l.length := List.length_map _
  have hdup : (l.map Fin.val).Nodup := hd.map Fin.val_injective
  unfold anglesArg
  rw [if_pos ⟨hlen ▸ h1, hlen ▸ h8, hdup⟩, mapM_recordNo_val]

theorem anglesArg_none {l : List Nat} (h : l.length = 0 ∨ 8 < l.length ∨ (∃ x ∈ l, 8 ≤ x) ∨ ¬l.Nodup) :
    anglesArg l = none := by
  unfold anglesArg
  split
  · rename_i hl
    obtain ⟨h1, h8, hd⟩ := hl
    have hx : ∃ x ∈ l, 8 ≤ x := by
      obtain h | h | h | h := h
      · omega
      · omega
      · exact h
      · exact absurd hd h
    exact mapM_recordNo_of_le hx
  · rfl

theorem setMarkGroup_none {g d pre post r : Nat} {l : List Nat} (s : State)
    (h : recordNo 4 g = none ∨ anglesArg l = none ∨ flagArg r = none) :
    setMarkGroup g l d pre post r s = refuse .badArgument s := by
  unfold setMarkGroup
  split
  · rename_i h1 h2 h3
    rw [h1, h2, h3] at h
    obtain h | h | h := h <;> cases h
  · rfl

theorem setMarkGroup_lengths {g d pre post r : Nat} {l : List Nat} (s : State)
    (h : d < 1 ∨ 3000 < d ∨ pre < 1 ∨ 3000 < pre ∨ 3000 < post) :
    setMarkGroup g l d pre post r s = refuse .badArgument s := by
  unfold setMarkGroup
  split
  · exact if_neg fun ⟨h1, h2, h3, h4, h5⟩ => by omega
  · rfl

theorem flag_eq (b : Bool) : flag b = be 1 (if b then 1 else 0) := by cases b <;> rfl

/-! ## The clip list (R57, R70) -/

/-- The order of the clip list (R57). -/
def ClipOrder (a b : Nat × Clip) : Prop := a.2.inPoint < b.2.inPoint ∨ (a.2.inPoint = b.2.inPoint ∧ a.1 < b.1)

theorem clipBefore_iff (a b : Nat × Clip) : clipBefore a b = true ↔ ClipOrder a b := decide_eq_true_iff

theorem ClipOrder.trans {a b c : Nat × Clip} (h : ClipOrder a b) (k : ClipOrder b c) : ClipOrder a c := by
  unfold ClipOrder at *
  omega

theorem ClipOrder.of_not {a b : Nat × Clip} (hne : a.1 ≠ b.1) (h : ¬ClipOrder a b) : ClipOrder b a := by
  unfold ClipOrder at *
  omega

/-- A clip with an id of its own joins an ordered list in order. -/
theorem joinList_pairwise {e : Nat × Clip} {l : List (Nat × Clip)} (hl : l.Pairwise ClipOrder) (hne : ∀ f ∈ l, e.1 ≠ f.1) :
    (joinList e l).Pairwise ClipOrder := by
  induction l with
  | nil => exact List.pairwise_singleton _ _
  | cons f l ih =>
    obtain ⟨hf, hl'⟩ := List.pairwise_cons.mp hl
    unfold joinList
    split
    · rename_i hb
      have hef : ClipOrder e f := (clipBefore_iff _ _).1 hb
      refine List.pairwise_cons.mpr ⟨fun x hx => ?_, hl⟩
      obtain rfl | hx := List.mem_cons.mp hx
      · exact hef
      · exact hef.trans (hf x hx)
    · rename_i hb
      have hfe : ClipOrder f e := .of_not (hne f List.mem_cons_self) (mt (clipBefore_iff _ _).2 hb)
      refine List.pairwise_cons.mpr ⟨fun x hx => ?_, ih hl' fun x hx => hne x (List.mem_cons_of_mem _ hx)⟩
      obtain rfl | hx := List.mem_cons.mp ((joinList_perm e l).mem_iff.mp hx)
      · exact hfe
      · exact hf x hx

theorem clipList_pairwise {t : Table Clip} (h : t.wf) : (clipList t).Pairwise ClipOrder := by
  induction t with
  | nil => exact List.Pairwise.nil
  | cons e t ih =>
    obtain ⟨he, ht⟩ := Table.wf_cons.mp h
    exact joinList_pairwise (ih ht) fun f hf => (he f ((clipList_perm t).mem_iff.mp hf)).ne

/-! ## Routes as arguments (R94, R187) -/

theorem routeArg_none {top : Nat} {r : RouteArg} (h : 2 ≤ r.link ∨ top < r.endpoint) : routeArg top (some r) = none := by
  unfold routeArg
  dsimp only
  split
  · rfl
  · rename_i l hl
    refine if_neg fun hx => ?_
    obtain h | h := h
    · rw [recordNo_of_le h] at hl
      cases hl
    · omega

theorem routeArg_some {top : Nat} (r : Route) (h : r.endpoint ≤ top) :
    routeArg top (some ⟨r.link.val, r.endpoint⟩) = some (some r) := by
  unfold routeArg
  dsimp only
  rw [recordNo_val]
  exact if_pos h

end Sys2Proof.Machine

namespace Sys2Proof.Proofs

open Sys2Proof.Machine

/-- Settles O37: every channel request reads its channel number before anything else. -/
theorem badNumbersAndFlags : Obligations.BadNumbersAndFlags := by
  refine ⟨fun o ch f v s htake hf => ⟨takeRequest_flag htake hf _, takeRequest_flag htake hf _, fun g l d pre post => ?_⟩,
    fun o ch s htake hch => ?_⟩
  · exact takeRequest_refused htake (setMarkGroup_none _ (.inr (.inr (flagArg_of_lt hf))))
  · have refused : ∀ kind run, takeRequest o kind (onChannelNo ch run) s = .next (s.refused o kind .badArgument) :=
      fun _ run => takeRequest_channelNo htake hch run
    exact ⟨fun _ => refused _ _, fun _ => refused _ _, fun _ _ => refused _ _, fun _ => refused _ _, fun _ => refused _ _,
      fun _ => refused _ _, fun _ => refused _ _, fun _ => refused _ _, refused _ _, refused _ _, refused _ _, refused _ _,
      fun _ _ => refused _ _, refused _ _, refused _ _⟩

/-- Settles O31, by the arguments of SET MARK GROUP. -/
theorem markGroupRequests : Obligations.MarkGroupRequests := by
  intro o s htake
  refine ⟨fun g l d pre post r hbad => ?_, fun g l d pre post r h1 h8 hd hd1 hd2 hp1 hp2 hpost => ?_, fun g hg => ?_,
    fun g => ?_⟩
  · refine takeRequest_refused htake ?_
    obtain h | h | h | h | h | h := hbad
    · exact setMarkGroup_none _ (.inl (recordNo_of_le h))
    · exact setMarkGroup_none _ (.inr (.inl (anglesArg_none (.inl h))))
    · exact setMarkGroup_none _ (.inr (.inl (anglesArg_none (.inr (.inl h)))))
    · exact setMarkGroup_none _ (.inr (.inl (anglesArg_none (.inr (.inr (.inl h))))))
    · exact setMarkGroup_none _ (.inr (.inl (anglesArg_none (.inr (.inr (.inr h))))))
    · exact setMarkGroup_lengths _ h
  · refine takeRequest_accepted htake ?_
    unfold setMarkGroup
    rw [recordNo_val, anglesArg_val h1 h8 hd, flagArg_ite]
    exact if_pos ⟨hd1, hd2, hp1, hp2, hpost⟩
  · exact takeRequest_refused htake (by rw [readMarkGroup, recordNo_of_le hg])
  · refine takeRequest_accepted htake ?_
    rw [readMarkGroup, recordNo_val, ← flag_eq]
    rfl

/-- Settles O36: the range of the arguments, and the clip list as an insertion sort. -/
theorem listClips : Obligations.ListClips := by
  refine ⟨fun o start count s htake => ?_, fun t => ⟨clipList_perm t, clipList_pairwise⟩⟩
  split
  · rename_i hbad
    refine takeRequest_refused htake (if_pos ?_)
    unfold maxClips
    omega
  · rename_i hok
    have hin : ¬(maxClips ≤ start ∨ count = 0 ∨ 16 < count) := by
      unfold maxClips
      omega
    exact takeRequest_accepted htake ((if_neg hin).trans (by rw [counted, ← List.append_assoc]; rfl))

/-- Settles O59, request by request. -/
theorem endpointRequests : Obligations.EndpointRequests := by
  intro o s htake
  refine ⟨fun n hn => ?_, fun r hr => ?_, fun l x hx => ?_, ?_, ?_, ?_, fun kind hk => ?_⟩
  · refine takeRequest_accepted htake ((if_neg (Nat.not_lt.2 (Nat.le_of_lt_succ hn))).trans ?_)
    refine congrArg (fun bytes => accept (be 1 (BitVec.ofNat 8 n).toNat ++ bytes) _) ?_
    show optional routeBytes (s.served o).endpoint.route = _
    cases (s.served o).endpoint.route <;> rfl
  · exact takeRequest_refused htake (by rw [setNoticeRoute, routeArg_none hr])
  · refine takeRequest_accepted htake ?_
    rw [setNoticeRoute, routeArg_some ⟨l, x⟩ hx]
    rfl
  · exact takeRequest_accepted htake rfl
  · refine ⟨_, _, _, _, takeRequest_accepted htake rfl, fun i => ?_, fun n => ?_, fun ch => ?_, fun l => ?_⟩
    · exact stream_clearCounters (s.served o) i
    · exact latch_clearCounters (s.served o) n
    · exact channel_clearCounters (s.served o) ch
    · exact port_clearCounters (s.served o) l
  · exact takeRequest_accepted htake rfl
  · have hout : ¬(1 ≤ kind ∧ kind ≤ 46) := by omega
    exact (if_neg hout).trans (takeRequest_refused htake rfl)

end Sys2Proof.Proofs
end

section
/-! PROOFS. Channel requests: CONFIGURE CHANNEL, BIND CHANNEL, JOG, SEEK, ANGLE, HALT, RESET CHANNEL and CLEAR WARNINGS
(chapter 6). -/

namespace Sys2Proof.Machine

/-! ## A channel request that is taken -/

section
variable {o : Origin} {kind : Nat} {ch : Fin 4} {run : Fin 4 → State → Answer} {s : State} (htake : s.canTake o.link = true)
include htake

theorem channelRequest_refused {st : Status} (h : run ch (s.served o) = refuse st (s.served o)) :
    takeRequest o kind (onChannelNo ch.val run) s = .next (s.refused o kind st) := by
  rw [onChannelNo_val]
  exact takeRequest_refused htake h

theorem channelRequest_accepted {results : List Byte} {t : State} (h : run ch (s.served o) = accept results t) :
    takeRequest o kind (onChannelNo ch.val run) s = .next (queueReply o kind .ok results t) := by
  rw [onChannelNo_val]
  exact takeRequest_accepted htake h

end

/-! ## States and bounds of a channel -/

theorem Channel.playing_false_iff (c : Channel) :
    c.playing = false ↔ ¬(c.state = .cued ∨ c.state = .running ∨ c.state = .inBreak) := by
  rw [← Channel.playing_iff, Bool.not_eq_true]

theorem Channel.onAir_iff (c : Channel) : c.onAir = true ↔ c.state = .running ∨ c.state = .inBreak := by
  unfold Channel.onAir
  cases c.state <;> simp

theorem Channel.haltCause_none_iff (c : Channel) : c.haltCause = none ↔ ∀ k, c.state ≠ .halted k := by
  unfold Channel.haltCause
  cases c.state <;> simp

theorem haltChannel_of_playing {ch : Fin 4} {s : State} (h : (s.channel ch).playing = true) (cause : HaltCause) :
    haltChannel ch cause s =
      (s.onChannel ch fun c => { c with state := .halted cause }).onStore (Store.discardFetches ch) := by
  rw [haltChannel_eq,
    State.onChannel_congr (g := fun c => { c with state := .halted cause }) (Channel.halted_of_playing h cause)]

/-- A clamp between bounds in order (R101). -/
theorem clampPos_eq_within {lo hi : Nat} (h : lo ≤ hi) (x : Int) : clampPos lo hi x = within lo hi x := by
  unfold clampPos clampInt within
  split
  · omega
  · split <;> omega

theorem streamBounds_of {s : State} {i : Fin 8} {lo hi : Nat} (hlo : s.recallStart i = some lo)
    (hhi : s.liveEdge i = some hi) : s.streamBounds i = some (lo, hi) := by
  rw [State.streamBounds, hlo, hhi]

theorem streamBounds_of_none {s : State} {i : Fin 8} (h : (s.stream i).lastKey = none) : s.streamBounds i = none := by
  have hedge : s.liveEdge i = none := by rw [State.liveEdge, h, Option.map_none]
  rw [State.streamBounds, hedge]
  cases s.recallStart i <;> rfl

theorem bounds_of_boundedBy {s : State} {ch : Fin 4} {lo hi : Nat} (h : s.boundedBy ch lo hi) :
    s.bounds ch = some (lo, hi) := by
  unfold State.bounds
  obtain ⟨id, a, c, hb, hc, rfl, hout⟩ | ⟨origin, i, hb, hlo, hhi⟩ := h
  · rw [hb]
    dsimp only
    rw [hc, Option.bind_some, hout, Option.map_some]
  · rw [hb]
    exact streamBounds_of hlo hhi

theorem clampTo_of_boundedBy {s : State} {ch : Fin 4} {lo hi : Nat} (h : s.boundedBy ch lo hi) (hle : lo ≤ hi) (x : Int) :
    clampTo (s.bounds ch) x = within lo hi x := by
  rw [bounds_of_boundedBy h]
  exact clampPos_eq_within hle x

/-! ## Masks (R180) -/

theorem ite_one_eq (b : Bool) (n : Nat) : (if b then n else 0) = n * b.toNat := by cases b <;> simp

theorem Warnings.mask_eq (w : Warnings) :
    w.mask = (if w.gap then 1 else 0) + (if w.overtaken then 2 else 0) + (if w.stackOverflow then 4 else 0) +
      (if w.returnEmpty then 8 else 0) + (if w.cueRange then 16 else 0) + (if w.storeError then 32 else 0) := by
  simp only [Warnings.mask, maskOf, List.foldr_cons, List.foldr_nil, ite_one_eq, one_mul]
  omega

theorem Conditions.mask_eq (c : Conditions) :
    c.mask = (if c.late then 1 else 0) + (if c.degraded then 2 else 0) + (if c.cueFault then 4 else 0) := by
  simp only [Conditions.mask, maskOf, List.foldr_cons, List.foldr_nil, ite_one_eq, one_mul]
  omega

/-! ## CONFIGURE CHANNEL (R94) -/

theorem EndAction.ofCode_none {n : Nat} (h : n < 1 ∨ 3 < n) : EndAction.ofCode n = none := by
  unfold EndAction.ofCode
  split
  · omega
  · omega
  · omega
  · rfl

theorem MixMode.ofCode_none {n : Nat} (h : n < 1 ∨ 3 < n) : MixMode.ofCode n = none := by
  unfold MixMode.ofCode
  split
  · omega
  · omega
  · omega
  · rfl

theorem Fill.ofCode_none {n : Nat} (h : n < 1 ∨ 2 < n) : Fill.ofCode n = none := by
  unfold Fill.ofCode
  split
  · omega
  · omega
  · rfl

theorem EndAction.ofCode_of_mem {n : Nat} {e : EndAction} (h : (n, e) ∈ [(1, EndAction.stop), (2, .loop), (3, .runOn)]) :
    EndAction.ofCode n = some e := by
  simp only [List.mem_cons, Prod.mk.injEq, List.not_mem_nil, or_false] at h
  obtain ⟨rfl, rfl⟩ | ⟨rfl, rfl⟩ | ⟨rfl, rfl⟩ := h <;> rfl

theorem MixMode.ofCode_of_mem {n : Nat} {m : MixMode} (h : (n, m) ∈ [(1, MixMode.blend), (2, .nearest), (3, .hold)]) :
    MixMode.ofCode n = some m := by
  simp only [List.mem_cons, Prod.mk.injEq, List.not_mem_nil, or_false] at h
  obtain ⟨rfl, rfl⟩ | ⟨rfl, rfl⟩ | ⟨rfl, rfl⟩ := h <;> rfl

theorem Fill.ofCode_of_mem {n : Nat} {f : Fill} (h : (n, f) ∈ [(1, Fill.black), (2, .last)]) : Fill.ofCode n = some f := by
  simp only [List.mem_cons, Prod.mk.injEq, List.not_mem_nil, or_false] at h
  obtain ⟨rfl, rfl⟩ | ⟨rfl, rfl⟩ := h <;> rfl

/-- The arguments of CONFIGURE CHANNEL are refused when one of the four coded fields is. -/
theorem channelArgs_none {a : ChannelArgs}
    (h : EndAction.ofCode a.endAction = none ∨ MixMode.ofCode a.mixMode = none ∨ Fill.ofCode a.fill = none ∨
      routeArg 255 a.route = none) : channelArgs a = none := by
  unfold channelArgs
  split
  · rename_i h1 h2 h3 h4
    rw [h1, h2, h3, h4] at h
    obtain h | h | h | h := h <;> cases h
  · rfl

theorem channelArgs_ranges {a : ChannelArgs}
    (h : ¬(1 ≤ a.shuttleHoldOff ∧ a.shuttleHoldOff ≤ 250 ∧ periodOk a.passPeriod ∧ a.breakLimit ≤ 15000)) :
    channelArgs a = none := by
  unfold channelArgs
  split
  · exact if_neg h
  · rfl

theorem routeUp_iff (s : State) (r : Option Route) : routeUp s r = true ↔ ∃ x, r = some x ∧ (s.port x.link).up = true := by
  cases r <;> simp [routeUp]

/-! ## The use counts of the clips bound (R59) -/

/-- The angle list of a clip stays when a channel leaves a clip and joins one. -/
theorem angles_joinClip_leaveClip (b b' : Binding) (s : State) (id : Nat) :
    ((joinClip b (leaveClip b' s)).clip id).map Clip.angles = (s.clip id).map Clip.angles := by
  have hmap : ∀ (x : Option Clip) (f : Clip → Nat),
      (x.map fun c => c.withUse (f c)).map Clip.angles = x.map Clip.angles := fun x f => by cases x <;> rfl
  have hleave : ((leaveClip b' s).clip id).map Clip.angles = (s.clip id).map Clip.angles := by
    rw [clip_leaveClip]
    split
    · exact hmap _ _
    · rfl
  rw [clip_joinClip]
  split
  · exact (hmap _ _).trans hleave
  · exact hleave

/-! ## BIND CHANNEL (R95, R96) -/

theorem bindChannel_of_halted {f : BindForm} {ch : Fin 4} {s : State} {k : HaltCause}
    (h : (s.channel ch).state = .halted k) : bindChannel f ch s = refuse .refusedState s := by
  unfold bindChannel
  dsimp only
  rw [h]

theorem bindChannel_of_routeless {f : BindForm} {ch : Fin 4} {s : State} (h : (s.channel ch).haltCause = none)
    (hr : ∀ r, (s.channel ch).config.route = some r → (s.port r.link).up = false) :
    bindChannel f ch s = refuse .notConfigured s := by
  have hroute : routeUp s (s.channel ch).config.route = false := by
    rw [← Bool.not_eq_true, routeUp_iff]
    rintro ⟨r, hs, hup⟩
    rw [hr r hs] at hup
    cases hup
  unfold bindChannel
  dsimp only
  split
  · rename_i k hk
    exact absurd hk ((Channel.haltCause_none_iff _).1 h k)
  · rw [hroute]
    rfl

section
variable {f : BindForm} {ch : Fin 4} {s : State} {r : Route} (h : (s.channel ch).haltCause = none)
    (hr : (s.channel ch).config.route = some r) (hup : (s.port r.link).up = true)
include h hr hup

theorem bindChannel_of_routed : bindChannel f ch s =
    match bindTo f s with
    | .error e => refuse e s
    | .ok (b, p) =>
      let s1 := (joinClip b (leaveClip (s.channel ch).binding s)).onChannel ch (Channel.bindAt b p)
      accept (be 7 p ++ (s1.playedStream ch).elim (be 1 0) streamByte) (settleFault ch s.houseTime s1) := by
  have hroute : routeUp s (s.channel ch).config.route = true := (routeUp_iff _ _).2 ⟨r, hr, hup⟩
  unfold bindChannel
  dsimp only
  rw [hroute]
  split
  · rename_i k hk
    exact absurd hk ((Channel.haltCause_none_iff _).1 h k)
  · rfl

theorem bindChannel_refused {st : Status} (hbind : bindTo f s = .error st) : bindChannel f ch s = refuse st s := by
  rw [bindChannel_of_routed h hr hup, hbind]

/-- A channel that binds plays the stream of its binding; its clip keeps its angle list. -/
theorem bindChannel_accepted {b : Binding} {p : Nat} {i : Fin 8} (hbind : bindTo f s = .ok (b, p))
    (hplay : (∃ id a k, b = .clip id a ∧ s.clip id = some k ∧ k.angles[a]? = some i) ∨ ∃ origin, b = .free origin i) :
    bindChannel f ch s = accept (be 7 p ++ be 1 i.val)
      (settleFault ch s.houseTime ((joinClip b (leaveClip (s.channel ch).binding s)).onChannel ch (Channel.bindAt b p))) := by
  have hstream : State.playedStream
      ((joinClip b (leaveClip (s.channel ch).binding s)).onChannel ch (Channel.bindAt b p)) ch = some i := by
    unfold State.playedStream
    rw [State.channel_onChannel_self]
    dsimp only [Channel.bindAt]
    obtain ⟨id, a, k, rfl, hk, ha⟩ | ⟨origin, rfl⟩ := hplay
    · have hangles := angles_joinClip_leaveClip (.clip id a) (s.channel ch).binding s id
      rw [hk] at hangles
      obtain ⟨k', hk', hka⟩ := Option.map_eq_some_iff.mp hangles
      show ((joinClip (.clip id a) (leaveClip (s.channel ch).binding s)).clip id).bind _ = some i
      rw [hk', Option.bind_some, hka, ha]
    · rfl
  rw [bindChannel_of_routed h hr hup, hbind]
  dsimp only
  rw [hstream]
  rfl

end

theorem bindTo_clip_ok {s : State} {id a off : Nat} {k : Clip} {out : Nat} {i : Fin 8} (hid : id < 512) (hk : s.clip id = some k)
    (hst : k.state = .closed ∨ k.state = .protecting ∨ k.state = .protected_) (hout : k.outPoint = some out)
    (ha : k.angles[a]? = some i) : bindTo (.clip id a off) s = .ok (.clip id a, min (k.inPoint + off) out) := by
  have hlt : a < k.angles.length := (List.getElem?_eq_some_iff.mp ha).1
  unfold bindTo
  dsimp only
  rw [if_neg (show ¬maxClips ≤ id from Nat.not_le.2 hid), hk]
  dsimp only
  rw [if_neg (not_not_intro hst), if_neg (Nat.not_le.2 hlt), hout]
  rfl

section
variable {s : State} {i : Fin 8} {lo hi : Nat} (hb : s.streamBounds i = some (lo, hi)) (hle : lo ≤ hi)
include hb hle

theorem bindTo_absolute (t : Nat) :
    bindTo (.free i.val (.absolute t)) s = .ok (.free (within lo hi t) i, within lo hi t) := by
  unfold bindTo
  dsimp only
  rw [recordNo_val]
  dsimp only
  rw [if_neg (by decide), hb]
  dsimp only
  rw [clampPos_eq_within hle]

theorem bindTo_liveMinus {n : Nat} (hn : n ≤ 1048575) :
    bindTo (.free i.val (.liveMinus n)) s =
      .ok (.free (within lo hi ((hi : Int) - 2880 * n)) i, within lo hi ((hi : Int) - 2880 * n)) := by
  unfold bindTo
  dsimp only
  rw [recordNo_val]
  dsimp only
  rw [if_neg (by simpa using hn), hb]
  dsimp only
  rw [clampPos_eq_within hle, mul_comm]

end

end Sys2Proof.Machine

namespace Sys2Proof.Proofs

open Sys2Proof.Machine

/-- Settles O38: the arguments that `channelArgs` refuses, then the channel with its new fields. -/
theorem configureChannel : Obligations.ConfigureChannel := by
  intro o ch a s htake
  dsimp only
  refine ⟨fun hbad => ?_, fun e m f r h1 h2 hp hl he hm hf hr hx => ?_⟩
  · have hnone : channelArgs a = none := by
      have hper := periodOk_iff a.passPeriod
      obtain h | h | h | h | h | h | h | h | h | h | ⟨r, hr, h⟩ := hbad
      · exact channelArgs_ranges fun hk => by omega
      · exact channelArgs_ranges fun hk => by omega
      · exact channelArgs_none (.inl (EndAction.ofCode_none (.inl h)))
      · exact channelArgs_none (.inl (EndAction.ofCode_none (.inr h)))
      · exact channelArgs_ranges fun hk => h (hper.1 hk.2.2.1)
      · exact channelArgs_ranges fun hk => by omega
      · exact channelArgs_none (.inr (.inl (MixMode.ofCode_none (.inl h))))
      · exact channelArgs_none (.inr (.inl (MixMode.ofCode_none (.inr h))))
      · exact channelArgs_none (.inr (.inr (.inl (Fill.ofCode_none (.inl h)))))
      · exact channelArgs_none (.inr (.inr (.inl (Fill.ofCode_none (.inr h)))))
      · exact channelArgs_none (.inr (.inr (.inr (hr ▸ routeArg_none h))))
    exact channelRequest_refused htake (by rw [Machine.configureChannel, hnone])
  · have hroute : routeArg 255 a.route = some r := by
      rw [hr]
      cases r with
      | none => rfl
      | some x => exact routeArg_some x (hx x rfl)
    have hargs : channelArgs a =
        some ⟨min a.programRamp 3072, min a.shuttleRamp 3072, a.shuttleHoldOff, e, a.passPeriod, a.breakLimit, m, f, r⟩ := by
      unfold channelArgs
      rw [EndAction.ofCode_of_mem he, MixMode.ofCode_of_mem hm, Fill.ofCode_of_mem hf, hroute]
      exact if_pos ⟨h1, h2, (periodOk_iff _).2 hp, hl⟩
    by_cases hperiod : ((s.channel ch).state = .running ∨ (s.channel ch).state = .inBreak) ∧
        a.passPeriod ≠ (s.channel ch).config.passPeriod
    · rw [if_pos hperiod]
      refine channelRequest_refused htake ?_
      rw [Machine.configureChannel, hargs]
      exact if_pos ⟨(Channel.onAir_iff _).2 hperiod.1, hperiod.2⟩
    · rw [if_neg hperiod]
      refine channelRequest_accepted htake ?_
      rw [Machine.configureChannel, hargs]
      refine (if_neg fun h => hperiod ⟨(Channel.onAir_iff _).1 h.1, h.2⟩).trans ?_
      refine congrArg (fun t => accept [] (settleFault ch s.houseTime t)) ?_
      by_cases hhalt : ((s.channel ch).state = .cued ∨ (s.channel ch).state = .running ∨ (s.channel ch).state = .inBreak) ∧
          ¬∃ x, r = some x ∧ (s.port x.link).up = true
      · rw [if_pos hhalt]
        have hplay : (s.channel ch).playing = true := (Channel.playing_iff _).2 hhalt.1
        have hdown : routeUp s r = false := by
          rw [← Bool.not_eq_true, routeUp_iff]
          exact hhalt.2
        refine (if_pos (by rw [Bool.and_eq_true, Bool.not_eq_true']; exact ⟨hplay, hdown⟩)).trans ?_
        refine haltChannel_of_playing ?_ _
        rw [State.channel_onChannel_self]
        exact hplay
      · rw [if_neg hhalt]
        refine if_neg fun h => hhalt ?_
        rw [Bool.and_eq_true, Bool.not_eq_true'] at h
        exact ⟨(Channel.playing_iff _).1 h.1, fun hup => by
          have hr' : routeUp s r = false := h.2
          rw [(routeUp_iff s r).2 hup] at hr'
          cases hr'⟩

/-- Settles O39: the checks in their order, then what `bindTo` answers. -/
theorem bindChannel : Obligations.BindChannel := by
  intro o ch s htake
  dsimp only
  refine ⟨fun f k h => channelRequest_refused htake (bindChannel_of_halted h), fun f h hr =>
    channelRequest_refused htake (bindChannel_of_routeless h hr), fun r h hr hup => ?_⟩
  have bad : ∀ f st, bindTo f (s.served o) = .error st → exec (.bindChannel o ch.val f) s = .next (s.refused o 18 st) :=
    fun f st hb => channelRequest_refused htake (bindChannel_refused (s := s.served o) h hr hup hb)
  have hserved : ∀ id, (s.served o).clip id = s.clip id := fun _ => rfl
  refine ⟨fun id a off hid => bad _ _ (if_pos hid), fun id a off hid hk => bad _ _ ?_, fun id a off k hid hk hst => bad _ _ ?_,
    fun id a off k hid hk hst => ⟨fun ha => bad _ _ ?_, fun out i hout ha => ?_⟩, fun st p hst => bad _ _ ?_,
    fun i n hn => bad _ _ ?_, fun i p hp hlive => bad _ _ ?_, fun i lo hi hlo hhi hle => ⟨fun t => ?_, fun n hn => ?_⟩⟩
  · unfold bindTo
    dsimp only
    rw [if_neg (show ¬maxClips ≤ id from Nat.not_le.2 hid), hserved, hk]
  · unfold bindTo
    dsimp only
    rw [if_neg (show ¬maxClips ≤ id from Nat.not_le.2 hid), hserved, hk]
    refine if_pos fun hn => ?_
    obtain hst | hst := hst <;> rw [hst] at hn <;> simp at hn
  · unfold bindTo
    dsimp only
    rw [if_neg (show ¬maxClips ≤ id from Nat.not_le.2 hid), hserved, hk]
    exact (if_neg (not_not_intro hst)).trans (if_pos ha)
  · exact channelRequest_accepted htake (bindChannel_accepted (s := s.served o) h hr hup
      (bindTo_clip_ok (s := s.served o) hid hk hst hout ha) (.inl ⟨id, a, k, rfl, hk, ha⟩))
  · unfold bindTo
    dsimp only
    rw [recordNo_of_le hst]
  · unfold bindTo
    dsimp only
    rw [recordNo_val]
    exact if_pos (by simpa using hn)
  · unfold bindTo
    dsimp only
    rw [recordNo_val]
    dsimp only
    have hb : (s.served o).streamBounds i = none := streamBounds_of_none hlive
    cases p with
    | absolute t => exact (if_neg Bool.false_ne_true).trans (by rw [hb])
    | liveMinus n => exact (if_neg (by simpa using hp n rfl)).trans (by rw [hb])
  · exact channelRequest_accepted htake (bindChannel_accepted (s := s.served o) h hr hup
      (bindTo_absolute (s := s.served o) (streamBounds_of hlo hhi) hle t) (.inr ⟨_, rfl⟩))
  · exact channelRequest_accepted htake (bindChannel_accepted (s := s.served o) h hr hup
      (bindTo_liveMinus (s := s.served o) (streamBounds_of hlo hhi) hle hn) (.inr ⟨_, rfl⟩))

end Sys2Proof.Proofs
end

section
/-! PROOFS. JOG, SEEK and ANGLE (R101 to R103), HALT, RESET CHANNEL and CLEAR WARNINGS (R104, R105, R107). -/

namespace Sys2Proof.Machine

theorem playedPeriod_of {s : State} {ch : Fin 4} {i : Fin 8} (h : s.playedStream ch = some i) :
    s.playedPeriod ch = s.period i := by
  rw [State.playedPeriod, h]
  rfl

theorem jog_accepted {ch : Fin 4} {s : State} {i : Fin 8} {lo hi : Nat} (n : Int)
    (hst : ((s.channel ch).state = .cued ∨ (s.channel ch).state = .running) ∧ (s.channel ch).speed = 0 ∧
      (s.channel ch).target = 0)
    (hi' : s.playedStream ch = some i) (hb : s.boundedBy ch lo hi) (hle : lo ≤ hi) :
    let p := within lo hi ((((s.channel ch).position / s.period i : Nat) + max (-127) (min 127 n)) * (s.period i : Int))
    jog n ch s = accept (be 7 p) (s.onChannel ch (Channel.moveTo p)) := by
  unfold jog
  dsimp only
  rw [if_pos hst, playedPeriod_of hi', clampTo_of_boundedBy hb hle]
  rfl

theorem seek_accepted {ch : Fin 4} {s : State} {lo hi : Nat}
    (hst : (s.channel ch).state = .cued ∨ (s.channel ch).state = .running) (hb : s.boundedBy ch lo hi) (hle : lo ≤ hi)
    {f : SeekForm} {x : Nat}
    (hx : (∃ off, f = .relative off ∧ x = s.base ch + off) ∨ f = .absolute x) :
    seek f ch s = accept (be 7 (within lo hi x)) (s.onChannel ch fun c => { c.moveTo (within lo hi x) with hold := 0 }) := by
  unfold seek
  dsimp only
  rw [if_pos hst]
  obtain ⟨off, rfl, rfl⟩ | rfl := hx
  · dsimp only
    rw [clampTo_of_boundedBy hb hle]
  · dsimp only
    rw [clampTo_of_boundedBy hb hle]

section
variable {n : Nat} {ch : Fin 4} {s : State}

theorem angle_of_not_playing
    (h : ¬((s.channel ch).state = .cued ∨ (s.channel ch).state = .running ∨ (s.channel ch).state = .inBreak)) :
    angle n ch s = refuse .refusedState s := by
  unfold angle
  dsimp only
  rw [(Channel.playing_false_iff _).2 h]
  rfl

theorem angle_of_clip (h : (s.channel ch).playing = true) {id a : Nat} {k : Clip}
    (hb : (s.channel ch).binding = .clip id a) (hk : s.clip id = some k) :
    angle n ch s =
      if n < k.angles.length then
        accept (be 7 (s.channel ch).position) (s.onChannel ch fun c => { c with binding := .clip id n })
      else refuse .badArgument s := by
  unfold angle
  dsimp only
  rw [h, hb]
  dsimp only
  rw [hk]
  rfl

theorem angle_of_free (h : (s.channel ch).playing = true) {origin : Nat} {j : Fin 8}
    (hb : (s.channel ch).binding = .free origin j) :
    angle n ch s =
      match recordNo 8 n with
      | none => refuse .badArgument s
      | some i =>
        match s.streamBounds i with
        | none => refuse .notFound s
        | some (lo, hi) =>
          accept (be 7 (clampPos lo hi (s.channel ch).position)) (s.onChannel ch fun c =>
            { c.moveTo (clampPos lo hi (s.channel ch).position) with binding := .free origin i }) := by
  unfold angle
  dsimp only
  rw [h, hb]
  rfl

end

theorem Channel.halted_request (c : Channel) :
    c.halted .request = { c with state := .halted (c.haltCause.getD .request) } := by
  obtain ⟨st⟩ := c
  cases st <;> rfl

theorem halt_eq (ch : Fin 4) (s : State) :
    halt ch s = accept [] (settleFault ch s.houseTime
      ((s.onChannel ch fun c => { c with state := .halted (c.haltCause.getD .request) }).onStore
        (Store.discardFetches ch))) := by
  have hrec : (s.channel ch).halted .request =
      { s.channel ch with state := .halted ((s.channel ch).haltCause.getD .request) } :=
    Channel.halted_request _
  rw [halt, haltChannel_eq,
    State.onChannel_congr (g := fun c => { c with state := .halted (c.haltCause.getD .request) }) hrec]

end Sys2Proof.Machine

namespace Sys2Proof.Proofs

open Sys2Proof.Machine

/-- Settles O42: each position is a clamp to the channel's bounds. -/
theorem positionRequests : Obligations.PositionRequests := by
  refine ⟨fun o ch s htake => ?_, fun o ch n s htake => ?_⟩
  · refine ⟨fun n h => channelRequest_refused htake (if_neg fun hs => h hs), fun f h =>
      channelRequest_refused htake (if_neg fun hs => h hs), fun lo hi hb hle => ?_⟩
    refine ⟨fun i n hst hv ht hi' => ?_, fun off hst => ?_, fun t hst => ?_⟩
    · exact channelRequest_accepted htake (jog_accepted (s := s.served o) n ⟨hst, hv, ht⟩ hi' hb hle)
    · exact channelRequest_accepted htake (seek_accepted (s := s.served o) hst hb hle (.inl ⟨off, rfl, rfl⟩))
    · exact channelRequest_accepted htake (seek_accepted (s := s.served o) hst hb hle (.inr rfl))
  · refine ⟨fun h => channelRequest_refused htake (angle_of_not_playing h), fun hst => ?_⟩
    have hplay : ((s.served o).channel ch).playing = true := (Channel.playing_iff _).2 hst
    refine ⟨fun id a k hb hk => ?_, fun origin j hb => ⟨fun h8 => ?_, fun i hn => ⟨fun hlive => ?_, fun lo hi hlo hhi hle => ?_⟩⟩⟩
    · have hangle := angle_of_clip (n := n) hplay hb hk
      by_cases hn : n < k.angles.length
      · rw [if_neg (Nat.not_le.2 hn)]
        exact channelRequest_accepted htake (hangle.trans (if_pos hn))
      · rw [if_pos (Nat.not_lt.1 hn)]
        exact channelRequest_refused htake (hangle.trans (if_neg hn))
    · refine channelRequest_refused htake ((angle_of_free hplay hb).trans ?_)
      rw [recordNo_of_le h8]
    · have hb' : (s.served o).streamBounds i = none := streamBounds_of_none hlive
      refine channelRequest_refused htake ((angle_of_free hplay hb).trans ?_)
      rw [hn, recordNo_val]
      dsimp only
      rw [hb']
    · have hb' : (s.served o).streamBounds i = some (lo, hi) := streamBounds_of hlo hhi
      refine channelRequest_accepted htake ((angle_of_free hplay hb).trans ?_)
      rw [hn, recordNo_val]
      dsimp only
      rw [hb']
      dsimp only
      rw [clampPos_eq_within hle]
      rfl

/-- Settles O43: each request is taken in every state. -/
theorem haltResetClear : Obligations.HaltResetClear := by
  intro o ch s htake
  refine ⟨channelRequest_accepted htake (halt_eq ch _), channelRequest_accepted htake rfl,
    channelRequest_accepted htake ?_⟩
  rw [Machine.clearWarnings, Warnings.mask_eq]
  rfl

end Sys2Proof.Proofs
end

section
/-! PROOFS. The Line Unit (chapter 11): a pin that changes (R172, R173), and CONFIGURE LINE and the line actions (R171,
R174). -/

namespace Sys2Proof.Machine

/-! ## Records and codes -/

theorem State.onLine_onLine (s : State) (n : Fin 8) (f g : Line → Line) :
    (s.onLine n f).onLine n g = s.onLine n fun l => g (f l) := by
  simp only [State.onLine, Eight.get_set, if_pos, Eight.set_set]

theorem LineFunction.isInput_iff (f : LineFunction) : f.isInput = true ↔ f ≠ .output ∧ f ≠ .tally := by
  cases f <;> simp [LineFunction.isInput]

theorem Polarity.active_eq (p : Polarity) (high : Bool) : p.active high = if p = .activeHigh then high else !high := by
  cases p <;> rfl

theorem LineFunction.ofCode_none {n : Nat} (h : n < 1 ∨ 6 < n) : LineFunction.ofCode n = none := by
  unfold LineFunction.ofCode
  split
  · omega
  · omega
  · omega
  · omega
  · omega
  · omega
  · rfl

theorem Polarity.ofCode_none {n : Nat} (h : n < 1 ∨ 2 < n) : Polarity.ofCode n = none := by
  unfold Polarity.ofCode
  split
  · omega
  · omega
  · rfl

theorem MarkAction.ofCode_none {n : Nat} (h : n < 1 ∨ 4 < n) : MarkAction.ofCode n = none := by
  unfold MarkAction.ofCode
  split
  · omega
  · omega
  · omega
  · omega
  · rfl

theorem LineFunction.ofCode_code (f : LineFunction) : LineFunction.ofCode f.code = some f := by cases f <;> rfl

theorem Polarity.ofCode_code (p : Polarity) : Polarity.ofCode p.code = some p := by cases p <;> rfl

theorem MarkAction.ofCode_code (a : MarkAction) : MarkAction.ofCode a.code = some a := by cases a <;> rfl

/-! ## A pin that changes (R172, R173) -/

theorem raiseEdge_eq (n : Fin 8) (s : State) :
    raiseEdge n s =
      raise s.houseTime
        (.lineEdge n (s.line n).function
          (if (s.line n).function = .breakEnd ∨ (s.line n).function = .breakRequest then some (s.line n).channel else none)
          (if (s.line n).function = .mark then some (s.line n).markGroup else none)) s := by
  unfold raiseEdge
  dsimp only
  cases (s.line n).function <;> rfl

theorem line_raiseEdge (n j : Fin 8) (s : State) : (raiseEdge n s).line j = s.line j := by
  rw [raiseEdge_eq]
  rfl

/-- A pin change with the level it gives the line, of a line with an input function (R172). -/
theorem execLinePinChange_of_input {n : Fin 8} {s : State} (high : Bool) (h : (s.line n).function.isInput = true) :
    let now := (s.line n).polarity.active high
    let t := s.onLine n fun l => { l with pinHigh := high, inputActive := now }
    execLinePinChange n high s =
      .next (if now && !(s.line n).inputActive then deliverEdge n (raiseEdge n t) else t) := by
  have hline : ∀ f, (s.onLine n f).line n = f (s.line n) := fun f => by rw [State.line_onLine, if_pos rfl]
  unfold execLinePinChange judgePin
  dsimp only
  rw [if_pos h, hline, State.onLine_onLine]

theorem execLinePinChange_of_output {n : Fin 8} {s : State} (high : Bool) (h : (s.line n).function.isInput = false) :
    execLinePinChange n high s = .next (s.onLine n fun l => { l with pinHigh := high }) := by
  unfold execLinePinChange
  dsimp only
  rw [if_neg (by rw [h]; exact Bool.false_ne_true)]

theorem deliverEdge_of_mark {n : Fin 8} {s : State} (h : (s.line n).function = .mark) : deliverEdge n s = latchEdge n s := by
  unfold deliverEdge
  dsimp only
  rw [h]

theorem deliverEdge_of_breakEnd {n : Fin 8} {s : State} (h : (s.line n).function = .breakEnd) :
    deliverEdge n s = breakEndEdge (s.line n).channel s := by
  unfold deliverEdge
  dsimp only
  rw [h]

theorem deliverEdge_of_other {n : Fin 8} {s : State}
    (h : (s.line n).function = .input ∨ (s.line n).function = .breakRequest) : deliverEdge n s = s := by
  unfold deliverEdge
  dsimp only
  obtain h | h := h <;> rw [h]

/-! ## Line actions (R174) -/

theorem line_actOnLines (a : LineAction) (mask length : Nat) (s : State) (n : Fin 8) :
    (actOnLines a mask length s).line n =
      if mask.testBit n.val then Line.act a length s.timer.frames (s.line n) else s.line n := by
  have h := get_foldl State.line (fun n l => if mask.testBit n.val then Line.act a length s.timer.frames l else l)
    (f := fun t n => if mask.testBit n.val then t.onLine n (Line.act a length s.timer.frames) else t)
    (fun t i j => by
      split
      · exact State.line_onLine _ _ _ _
      · by_cases hj : j = i
        · rw [if_pos hj, hj]
        · rw [if_neg hj]) nodup_allEight s n
  rw [if_pos (mem_allEight n)] at h
  exact h

/-- The line actions change the lines alone. -/
theorem actOnLines_eq (a : LineAction) (mask length : Nat) (s : State) :
    actOnLines a mask length s = { s with lines := (actOnLines a mask length s).lines } := by
  have hfold : ∀ (l : List (Fin 8)) (t : State), ∃ ls,
      l.foldl (fun t n => if mask.testBit n.val then t.onLine n (Line.act a length s.timer.frames) else t) t =
        { t with lines := ls } := fun l => by
    induction l with
    | nil => exact fun t => ⟨t.lines, rfl⟩
    | cons n l ih =>
      intro t
      rw [List.foldl_cons]
      split
      · obtain ⟨ls, h⟩ := ih (t.onLine n (Line.act a length s.timer.frames))
        exact ⟨ls, h⟩
      · exact ih t
  obtain ⟨ls, h⟩ := hfold allEight s
  have h' : actOnLines a mask length s = { s with lines := ls } := h
  rw [h']

/-- A line action on the OUTPUT lines of a mask, line by line. -/
theorem line_actOnLines_output {a : LineAction} {mask length : Nat} {s : State} {f : Line → Line}
    (hf : ∀ l : Line, l.function = .output → Line.act a length s.timer.frames l = f l) (n : Fin 8) :
    (actOnLines a mask length s).line n =
      if mask.testBit n.val = true ∧ (s.line n).function = .output then f (s.line n) else s.line n := by
  rw [line_actOnLines]
  by_cases hm : mask.testBit n.val = true
  · rw [if_pos hm]
    by_cases ho : (s.line n).function = .output
    · rw [if_pos ⟨hm, ho⟩, hf _ ho]
    · rw [if_neg fun h => ho h.2]
      unfold Line.act
      split
      · contradiction
      · rfl
  · rw [if_neg hm, if_neg fun h => hm h.1]

section
variable {l : Line} (h : l.function = .output) (length frames : Nat)
include h

theorem Line.act_set : l.act .set length frames = { l with outputActive := true, pulseTimer := 0, pulseFrame := none } := by
  unfold Line.act
  rw [h]

theorem Line.act_clear :
    l.act .clear length frames = { l with outputActive := false, pulseTimer := 0, pulseFrame := none } := by
  unfold Line.act
  rw [h]

theorem Line.act_pulse :
    l.act .pulse length frames = { l with outputActive := true, pulseTimer := length, pulseFrame := some frames } := by
  unfold Line.act
  rw [h]

end

theorem be_levelCode (b : Bool) : be 1 (levelCode b) = [if b then 1 else 2] := by cases b <;> rfl

/-- The reply of a line action, from the lines it leaves (R174). -/
theorem lineRequest_eq {a : LineAction} {mask length : Nat} {s : State} {l : Fin 8 → Line}
    (h : ∀ n, (actOnLines a mask length s).line n = l n) :
    lineRequest a mask length s =
      accept (allEight.flatMap fun n => [if (l n).outputActive then 1 else 2])
        { s with lines := (actOnLines a mask length s).lines } := by
  have hlevels : outputLevels (actOnLines a mask length s) =
      allEight.flatMap fun n => [if (l n).outputActive then 1 else 2] := by
    unfold outputLevels
    simp only [be_levelCode, h]
  rw [← hlevels, ← actOnLines_eq]
  rfl

theorem lineRequest_done {o : Origin} {kind : Nat} {a : LineAction} {mask length : Nat} {s : State} {l : Fin 8 → Line}
    (htake : s.canTake o.link = true) (h : ∀ n, (actOnLines a mask length (s.served o)).line n = l n) :
    ∃ ls : Eight Line, (∀ n, ls.get n = l n) ∧
      takeRequest o kind (lineRequest a mask length) s =
        .next (queueReply o kind .ok (allEight.flatMap fun n => [if (l n).outputActive then 1 else 2])
          { s.served o with lines := ls }) :=
  ⟨_, h, takeRequest_accepted htake (lineRequest_eq h)⟩

/-! ## CONFIGURE LINE (R171) -/

theorem configureLine_none {n f ch p a g : Nat} (s : State)
    (h : recordNo 8 n = none ∨ LineFunction.ofCode f = none ∨ recordNo 4 ch = none ∨ Polarity.ofCode p = none ∨
      MarkAction.ofCode a = none ∨ recordNo 4 g = none) :
    configureLine n f ch p a g s = refuse .badArgument s := by
  unfold configureLine
  split
  · rename_i h1 h2 h3 h4 h5 h6
    rw [h1, h2, h3, h4, h5, h6] at h
    obtain h | h | h | h | h | h := h <;> cases h
  · rfl

/-- The line record after CONFIGURE LINE (R171). -/
theorem Line.configure_eq (f : LineFunction) (ch : Fin 4) (p : Polarity) (a : MarkAction) (g : Fin 4) (l : Line) :
    l.configure f ch p a g =
      { function := f, channel := ch, polarity := p, markAction := a, markGroup := g, pinHigh := l.pinHigh
        inputActive := decide (f ≠ .output ∧ f ≠ .tally) && (if p = .activeHigh then l.pinHigh else !l.pinHigh)
        outputActive := decide (f = .output ∧ l.function = .output) && l.outputActive
        pulseTimer := if f = .output ∧ l.function = .output then l.pulseTimer else 0
        pulseFrame := if f = .output ∧ l.function = .output then l.pulseFrame else none } := by
  have hin : f.isInput = decide (f ≠ .output ∧ f ≠ .tally) := by cases f <;> rfl
  unfold Line.configure
  rw [hin, Polarity.active_eq]
  simp only [decide_eq_true_eq]

theorem configureLine_accepted (n : Fin 8) (f : LineFunction) (ch : Fin 4) (p : Polarity) (a : MarkAction) (g : Fin 4)
    (s : State) :
    let l := (s.line n).configure f ch p a g
    configureLine n.val f.code ch.val p.code a.code g.val s = accept l.bytes
      { s with
        lines := s.lines.set n l
        latches := if f = .mark then s.latches else s.latches.set n { s.latch n with captured := none } } := by
  have hline : (s.onLine n (Line.configure f ch p a g)).line n = (s.line n).configure f ch p a g := by
    rw [State.line_onLine, if_pos rfl]
  unfold configureLine
  rw [recordNo_val, LineFunction.ofCode_code, recordNo_val, Polarity.ofCode_code, MarkAction.ofCode_code, recordNo_val]
  dsimp only
  by_cases hf : f = .mark
  · rw [if_pos hf, if_pos hf, hline]
    rfl
  · have hline' : ((s.onLine n (Line.configure f ch p a g)).onLatch n fun t => { t with captured := none }).line n =
        (s.line n).configure f ch p a g := hline
    rw [if_neg hf, if_neg hf, hline']
    rfl

end Sys2Proof.Machine

namespace Sys2Proof.Proofs

open Sys2Proof.Machine

/-- Settles O55, by the function of the line and the level before the change. -/
theorem linePinChange : Obligations.LinePinChange := by
  intro n high s
  dsimp only
  rw [← Polarity.active_eq]
  have hinput : ∀ {f}, (s.line n).function = f → f ≠ .output → f ≠ .tally → (s.line n).function.isInput = true :=
    fun h h1 h2 => (LineFunction.isInput_iff _).2 ⟨h ▸ h1, h ▸ h2⟩
  -- the line after the change: its function, channel and group are what they were
  have hedge : (s.line n).polarity.active high = true → (s.line n).inputActive = false →
      (s.line n).function.isInput = true → ∃ e, e = raiseEdge n (s.onLine n fun l =>
        { l with pinHigh := high, inputActive := (s.line n).polarity.active high }) ∧
      e.line n = { s.line n with pinHigh := high, inputActive := (s.line n).polarity.active high } ∧
      exec (.linePinChange n high) s = .next (deliverEdge n e) := fun hnow hwas hin => by
    refine ⟨_, rfl, ?_, (execLinePinChange_of_input high hin).trans ?_⟩
    · rw [line_raiseEdge, State.line_onLine, if_pos rfl]
    · rw [if_pos (by rw [hnow, hwas]; rfl)]
  have heq : raiseEdge n (s.onLine n fun l =>
        { l with pinHigh := high, inputActive := (s.line n).polarity.active high }) =
      raise s.houseTime
        (.lineEdge n (s.line n).function
          (if (s.line n).function = .breakEnd ∨ (s.line n).function = .breakRequest then some (s.line n).channel else none)
          (if (s.line n).function = .mark then some (s.line n).markGroup else none))
        (s.onLine n fun l => { l with pinHigh := high, inputActive := (s.line n).polarity.active high }) := by
    rw [raiseEdge_eq, State.line_onLine, if_pos rfl]
    rfl
  rw [← heq]
  refine ⟨fun h => ?_, fun h1 h2 hsame => ?_, fun hnow hwas hf => ?_, fun hnow hwas hf => ?_, fun hnow hwas hf => ?_⟩
  · refine execLinePinChange_of_output high ?_
    rw [← Bool.not_eq_true, LineFunction.isInput_iff]
    tauto
  · refine (execLinePinChange_of_input high ((LineFunction.isInput_iff _).2 ⟨h1, h2⟩)).trans ?_
    rw [if_neg fun h => ?_]
    rw [Bool.and_eq_true, Bool.not_eq_true'] at h
    obtain hs | hs := hsame
    · exact absurd (hs.symm.trans h.1) Bool.false_ne_true
    · exact absurd (h.2.symm.trans hs) Bool.false_ne_true
  · have hin : (s.line n).function.isInput = true := by obtain h | h := hf <;> exact hinput h nofun nofun
    obtain ⟨e, he, hl, h⟩ := hedge hnow hwas hin
    rw [h, deliverEdge_of_other (by rw [hl]; exact hf), he]
  · obtain ⟨e, he, hl, h⟩ := hedge hnow hwas (hinput hf nofun nofun)
    rw [h, deliverEdge_of_mark (by rw [hl]; exact hf), he]
  · obtain ⟨e, he, hl, h⟩ := hedge hnow hwas (hinput hf nofun nofun)
    rw [h, deliverEdge_of_breakEnd (by rw [hl]; exact hf), hl, he]
    rfl

/-- Settles O56: the codes of CONFIGURE LINE, and each action line by line. -/
theorem lineRequests : Obligations.LineRequests := by
  intro o s htake
  refine ⟨fun n f ch p a g hbad => ?_, fun n f ch p a g => ?_, fun mask len => ⟨?_, ?_, ?_⟩⟩
  · refine takeRequest_refused htake (configureLine_none _ ?_)
    obtain h | h | h | h | h | h | h | h | h := hbad
    · exact .inl (recordNo_of_le h)
    · exact .inr (.inl (LineFunction.ofCode_none (.inl h)))
    · exact .inr (.inl (LineFunction.ofCode_none (.inr h)))
    · exact .inr (.inr (.inl (recordNo_of_le h)))
    · exact .inr (.inr (.inr (.inl (Polarity.ofCode_none (.inl h)))))
    · exact .inr (.inr (.inr (.inl (Polarity.ofCode_none (.inr h)))))
    · exact .inr (.inr (.inr (.inr (.inl (MarkAction.ofCode_none (.inl h))))))
    · exact .inr (.inr (.inr (.inr (.inl (MarkAction.ofCode_none (.inr h))))))
    · exact .inr (.inr (.inr (.inr (.inr (recordNo_of_le h)))))
  · dsimp only
    rw [← Line.configure_eq]
    exact takeRequest_accepted htake (configureLine_accepted n f ch p a g (s.served o))
  · exact lineRequest_done htake (line_actOnLines_output fun l h => Line.act_set h _ _)
  · exact lineRequest_done htake (line_actOnLines_output fun l h => Line.act_clear h _ _)
  · exact lineRequest_done htake (line_actOnLines_output fun l h => Line.act_pulse h _ _)

end Sys2Proof.Proofs
end

section
/-! PROOFS. Cue memory (sections 8.3 and 8.4): staging, the commit of a page, and BIND CUES. -/

namespace Sys2Proof.Machine

/-! ## Staging (R131, R132) -/

/-- The staging buffer after records are written from a cursor on: the last one written at entry 31 stays there. -/
structure Staged (m r : CueMemory) (l : List CueRecord) : Prop where
  rest : r.pages = m.pages ∧ r.commit = m.commit
  cursor : r.cursor = min 31 (m.cursor + l.length)
  length : r.staging.length = 32
  entry : ∀ j < 32, r.staging[j]? =
    if j = 31 ∧ 32 ≤ m.cursor + l.length then some l.getLast?
    else if m.cursor ≤ j ∧ j < m.cursor + l.length then some l[j - m.cursor]?
    else m.staging[j]?

theorem staged_foldl (l : List CueRecord) (m : CueMemory) (hc : m.cursor ≤ 31) (hlen : m.staging.length = 32) :
    Staged m (l.foldl CueMemory.stage m) l := by
  induction l generalizing m with
  | nil =>
    refine ⟨⟨rfl, rfl⟩, (min_eq_right hc).symm, hlen, fun j _ => ?_⟩
    rw [if_neg (by simp only [List.length_nil]; omega), if_neg (by simp only [List.length_nil]; omega)]
    rfl
  | cons x l ih =>
    have hc' : (m.stage x).cursor ≤ 31 := min_le_left _ _
    have hcur : (m.stage x).cursor = min 31 (m.cursor + 1) := rfl
    have hset : (m.stage x).staging = m.staging.set m.cursor (some x) := rfl
    have hlen' : (m.stage x).staging.length = 32 := by rw [hset, List.length_set, hlen]
    obtain ⟨hrest, hcursor, hlength, hentry⟩ := ih (m.stage x) hc' hlen'
    refine ⟨hrest, ?_, hlength, fun j hj => ?_⟩
    · rw [List.foldl_cons, hcursor, hcur, List.length_cons]
      omega
    · rw [List.foldl_cons, hentry j hj, hcur, List.length_cons, hset]
      by_cases hlast : j = 31 ∧ 32 ≤ m.cursor + (l.length + 1)
      · rw [if_pos hlast]
        cases l with
        | nil =>
          obtain ⟨rfl, h32⟩ := hlast
          have h31 : m.cursor = 31 := by
            simp only [List.length_nil] at h32
            omega
          simp [h31, hlen]
        | cons y l =>
          simp only [List.length_cons] at hlast ⊢
          rw [if_pos (by omega), List.getLast?_cons_cons]
      · rw [if_neg hlast]
        by_cases hat : j = m.cursor
        · have hget : (m.staging.set m.cursor (some x))[j]? = some (some x) := by simp [hat, hlen, hat ▸ hj]
          rw [if_neg (by omega), if_neg (by omega), if_pos (by omega), hget, hat, Nat.sub_self]
          rfl
        · have hset' : (m.staging.set m.cursor (some x))[j]? = m.staging[j]? := List.getElem?_set_ne (Ne.symm hat)
          rw [hset']
          by_cases hin : m.cursor ≤ j ∧ j < m.cursor + (l.length + 1)
          · have hidx : j - m.cursor = (j - (m.cursor + 1)) + 1 := by omega
            have hcur31 : min 31 (m.cursor + 1) = m.cursor + 1 := by omega
            rw [if_pos hin, hcur31, if_neg (by omega), if_pos (by omega), hidx, List.getElem?_cons_succ]
          · rw [if_neg hin, if_neg (by omega), if_neg (by omega)]

/-! ## The checks of a commit (R134) -/

/-- A cue's parameters lie in the ranges of R128. -/
def ParamsInRange : CueBody → Prop
  | .speed v imm => -3072 ≤ v ∧ v ≤ 3072 ∧ imm ≤ 1
  | .hold n => 1 ≤ n ∧ n ≤ 1023
  | .angle n => n ≤ 7
  | .jump m => m < 2 ^ 32
  | .line mask a n => mask ≤ 255 ∧ 1 ≤ a ∧ a ≤ 3 ∧ (a = 3 → 1 ≤ n ∧ n ≤ 255)
  | .note tag => tag ≤ 255
  | .ret | .stop | .listEnd => True
  | .other _ => False

theorem lineActionOk_iff (a n : Nat) :
    (match LineAction.ofCode a with
      | none => false
      | some .pulse => decide (1 ≤ n ∧ n ≤ 255)
      | some _ => true) = true ↔ 1 ≤ a ∧ a ≤ 3 ∧ (a = 3 → 1 ≤ n ∧ n ≤ 255) := by
  unfold LineAction.ofCode
  by_cases h1 : a = 1
  · subst h1; simp
  by_cases h2 : a = 2
  · subst h2; simp
  by_cases h3 : a = 3
  · subst h3; simp
  have hout : ¬(1 ≤ a ∧ a ≤ 3) := by omega
  split
  · exact ⟨nofun, fun h => absurd ⟨h.1, h.2.1⟩ hout⟩
  · rename_i h
    split at h
    · contradiction
    · contradiction
    · contradiction
    · cases h
  · rename_i h
    split at h
    · contradiction
    · contradiction
    · contradiction
    · cases h

theorem bodyOk_iff (b : CueBody) : bodyOk b = true ↔ ParamsInRange b := by
  cases b with
  | line mask a n =>
    unfold bodyOk ParamsInRange
    rw [Bool.and_eq_true, decide_eq_true_eq]
    exact and_congr_right' (lineActionOk_iff a n)
  | speed v imm => simp [bodyOk, ParamsInRange, and_assoc]
  | _ => simp [bodyOk, ParamsInRange]

/-- An entry passes the checks of a commit (R134). -/
def EntryPasses (e : Option CueRecord) : Prop :=
  ∀ q, e = some q → q.passRepeat ∈ [1, 2, 4, 8, 16, 32, 64] ∧ q.passFirst < q.passRepeat ∧ ParamsInRange q.body

theorem entryOk_iff (e : Option CueRecord) : entryOk e = true ↔ EntryPasses e := by
  cases e with
  | none => exact ⟨fun _ _ => nofun, fun _ => rfl⟩
  | some q =>
    have hcue : cueOk q = true ↔ q.passRepeat ∈ [1, 2, 4, 8, 16, 32, 64] ∧ q.passFirst < q.passRepeat ∧ ParamsInRange q.body := by
      unfold cueOk
      rw [Bool.and_eq_true, Bool.and_eq_true, periodOk_iff, decide_eq_true_eq, bodyOk_iff, and_assoc]
    exact ⟨fun h q' hq => Option.some.inj hq ▸ hcue.1 h, fun h => hcue.2 (h q rfl)⟩

theorem failingIndex_none {l : List (Option CueRecord)} (h : ∀ e ∈ l, EntryPasses e) : failingIndex l = none :=
  List.findIdx?_eq_none_iff.mpr fun e he => by rw [(entryOk_iff e).2 (h e he)]; rfl

theorem failingIndex_some {l : List (Option CueRecord)} {n : Nat} {e : Option CueRecord} (hn : l[n]? = some e)
    (he : ¬EntryPasses e) (hbefore : ∀ m < n, ∀ e', l[m]? = some e' → EntryPasses e') : failingIndex l = some n := by
  obtain ⟨hlt, rfl⟩ := List.getElem?_eq_some_iff.mp hn
  refine List.findIdx?_eq_some_iff_getElem.mpr ⟨hlt, ?_, fun m hm => ?_⟩
  · rw [Bool.not_eq_true', ← Bool.not_eq_true, entryOk_iff]
    exact he
  · rw [(entryOk_iff _).2 (hbefore m hm _ (List.getElem?_eq_getElem _))]
    decide

theorem exec_cueCommitComplete {s : State} {page : Nat} (h : s.cues.commit = some page) :
    exec .cueCommitComplete s = .next (completeCommit page s) := by
  show execCueCommitComplete s = _
  unfold execCueCommitComplete
  rw [h]

theorem isSome_false_iff {α : Type} (x : Option α) : ¬x.isSome = true ↔ x = none := by cases x <;> simp

end Sys2Proof.Machine

namespace Sys2Proof.Proofs

open Sys2Proof.Machine

/-- Settles O49: the records are written one after the other, `staged_foldl`. -/
theorem stagingAndBindCues : Obligations.StagingAndBindCues := by
  refine ⟨fun o s htake => ⟨?_, fun start l => ⟨fun hbad => ?_, fun hst hl hl32 hcommit => ?_,
    fun hst hl hl32 hcommit hlen => ?_⟩⟩, fun o ch first count s htake => ?_⟩
  · split
    · rename_i h
      refine takeRequest_accepted htake (if_neg ?_)
      exact (isSome_false_iff _).2 h
    · rename_i h
      exact takeRequest_refused htake (if_pos (Option.isSome_iff_ne_none.2 h))
  · exact takeRequest_refused htake (if_pos hbad)
  · exact takeRequest_refused htake ((if_neg (by omega)).trans (if_pos (Option.isSome_iff_ne_none.2 hcommit)))
  · obtain ⟨⟨hpages, hcom⟩, hcursor, hlength, hentry⟩ := staged_foldl l { s.cues with cursor := start } hst hlen
    refine ⟨(l.foldl CueMemory.stage { s.cues with cursor := start }).staging, ?_, hlength, hentry⟩
    have hsome : ¬(s.served o).cues.commit.isSome = true := (isSome_false_iff _).2 hcommit
    refine takeRequest_accepted htake ((if_neg (by omega)).trans ((if_neg hsome).trans ?_))
    show accept (be 1 _ ++ be 1 _ ++ be 1 (l.foldl CueMemory.stage { s.cues with cursor := start }).cursor)
      ((s.served o).onCues fun _ => l.foldl CueMemory.stage { s.cues with cursor := start }) = _
    generalize l.foldl CueMemory.stage { s.cues with cursor := start } = m at *
    obtain ⟨pages, staging, cursor, commit⟩ := m
    cases hpages
    cases hcom
    cases hcursor
    rfl
  · intro c
    by_cases hbad : 16 < count ∨ (0 < count ∧ (15 < first ∨ 16 < first + count))
    · rw [if_pos hbad]
      exact channelRequest_refused htake (if_pos hbad)
    rw [if_neg hbad]
    by_cases hair : c.state = .running ∨ c.state = .inBreak
    · rw [if_pos hair]
      exact channelRequest_refused htake ((if_neg hbad).trans (if_pos ((Channel.onAir_iff _).2 hair)))
    · rw [if_neg hair]
      refine channelRequest_accepted htake ((if_neg hbad).trans ((if_neg (mt (Channel.onAir_iff _).1 hair)).trans ?_))
      refine congrArg (fun t => accept [] (settleFault ch s.houseTime t)) (State.onChannel_congr ?_)
      by_cases h0 : count = 0
      · subst h0
        rfl
      · simp only [if_neg h0]
        rfl

/-- Settles O50: the commit is refused or begins; its completion goes by the first entry that fails. -/
theorem commitCuePage : Obligations.CommitCuePage := by
  refine ⟨fun o page s htake => ?_, fun s h => ?_, fun s page h => ?_⟩
  · by_cases hpage : 16 ≤ page
    · rw [if_pos hpage]
      exact takeRequest_refused htake (if_pos hpage)
    rw [if_neg hpage]
    by_cases hcommit : s.cues.commit = none
    · rw [if_neg (not_not_intro hcommit)]
      have hany : allFour.any (fun ch => ((s.served o).channel ch).listHas page && ((s.served o).channel ch).onAir) = true ↔
          ∃ ch, (s.channel ch).listHas page = true ∧ ((s.channel ch).state = .running ∨ (s.channel ch).state = .inBreak) := by
        rw [List.any_eq_true]
        refine ⟨fun ⟨ch, _, hch⟩ => ⟨ch, ?_⟩, fun ⟨ch, hlist, hair⟩ => ⟨ch, mem_allFour ch, ?_⟩⟩
        · rw [Bool.and_eq_true, Channel.onAir_iff] at hch
          exact hch
        · rw [Bool.and_eq_true, Channel.onAir_iff]
          exact ⟨hlist, hair⟩
      have hsome : ¬(s.served o).cues.commit.isSome = true := (isSome_false_iff _).2 hcommit
      by_cases huse : ∃ ch, (s.channel ch).listHas page = true ∧
          ((s.channel ch).state = .running ∨ (s.channel ch).state = .inBreak)
      · rw [if_pos huse]
        exact takeRequest_refused htake ((if_neg hpage).trans ((if_neg hsome).trans (if_pos (hany.2 huse))))
      · rw [if_neg huse]
        have hrun : Machine.commitCuePage page (s.served o) =
            ⟨(s.served o).onCues fun m => { m with commit := some page }, .accepted, []⟩ :=
          (if_neg hpage).trans ((if_neg hsome).trans (if_neg (mt hany.1 huse)))
        show takeRequest o 32 (Machine.commitCuePage page) s = _
        rw [takeRequest_taken htake]
        show Host.Outcome.next (queueReply o 32 (Machine.commitCuePage page (s.served o)).status
          (Machine.commitCuePage page (s.served o)).results (Machine.commitCuePage page (s.served o)).state) = _
        rw [hrun]
        rfl
    · rw [if_pos hcommit]
      exact takeRequest_refused htake ((if_neg hpage).trans (if_pos (Option.isSome_iff_ne_none.2 hcommit)))
  · show execCueCommitComplete s = _
    unfold execCueCommitComplete
    rw [h]
  · intro l held inRange ok
    have hpass : ∀ e, ok e ↔ EntryPasses e := by
      intro e
      refine forall_congr' fun q => imp_congr_right fun _ => and_congr_right' (and_congr_right' ?_)
      cases q.body <;> rfl
    refine ⟨fun n e hn he hbefore => ?_, fun hall => ?_⟩
    · have hfail : failingIndex s.cues.staging = some n :=
        failingIndex_some hn (mt (hpass e).2 he) fun m hm e' h' => (hpass e').1 (hbefore m hm e' h')
      rw [exec_cueCommitComplete h]
      unfold completeCommit
      dsimp only
      rw [hfail]
      rfl
    · have hfail : failingIndex s.cues.staging = none := failingIndex_none fun e he => (hpass e).1 (hall e he)
      rw [exec_cueCommitComplete h]
      unfold completeCommit
      dsimp only
      rw [hfail]
      rfl

end Sys2Proof.Proofs
end

section
/-! PROOFS. Packets received and the Recorder (chapters 2 and 12): what becomes of a packet, the bands a stream takes, and
ENABLE STREAM and DISABLE STREAM. -/

namespace Sys2Proof.Machine

/-! ## What a request that is taken answers (R184, R185) -/

/-- The outcome of a request by its answer: one reply. -/
def Answer.reply (o : Origin) (kind : Nat) (a : Answer) : Host.Outcome State Fault Refusal :=
  .next (queueReply o kind a.status a.results a.state)

theorem takeRequest_reply {o : Origin} {kind : Nat} {run : State → Answer} {s : State} (htake : s.canTake o.link = true) :
    takeRequest o kind run s = (run (s.served o)).reply o kind :=
  takeRequest_taken htake kind run

/-! ## The first stream of a list with a property -/

/-- A search through a rising list finds the least member with the property. -/
theorem find?_of_rising {l : List (Fin 8)} (hl : l.Pairwise (· < ·)) (p : Fin 8 → Bool) (i : Fin 8) :
    l.find? p = some i ↔ i ∈ l ∧ p i = true ∧ ∀ n ∈ l, n < i → ¬p n = true := by
  induction l with
  | nil => simp
  | cons a l ih =>
    obtain ⟨ha, hl⟩ := List.pairwise_cons.mp hl
    by_cases hp : p a = true
    · rw [List.find?_cons_of_pos hp, Option.some_inj]
      refine ⟨?_, fun ⟨hi, _, hleast⟩ => ?_⟩
      · rintro rfl
        refine ⟨List.mem_cons_self, hp, fun n hn hlt => ?_⟩
        obtain rfl | hn := List.mem_cons.mp hn
        · exact absurd hlt (lt_irrefl _)
        · exact absurd hlt (lt_asymm (ha n hn))
      · obtain rfl | hi := List.mem_cons.mp hi
        · rfl
        · exact absurd hp (hleast a List.mem_cons_self (ha i hi))
    · rw [List.find?_cons_of_neg hp, ih hl]
      refine ⟨fun ⟨hi, hpi, hleast⟩ => ⟨List.mem_cons_of_mem _ hi, hpi, fun n hn hlt => ?_⟩,
        fun ⟨hi, hpi, hleast⟩ => ⟨?_, hpi, fun n hn => hleast n (List.mem_cons_of_mem _ hn)⟩⟩
      · obtain rfl | hn := List.mem_cons.mp hn
        · exact hp
        · exact hleast n hn hlt
      · obtain rfl | hi := List.mem_cons.mp hi
        · exact absurd hpi hp
        · exact hi

/-- A search through the eight records finds the first one in order of number. -/
theorem find?_allEight_iff (p : Fin 8 → Bool) (i : Fin 8) :
    allEight.find? p = some i ↔ p i = true ∧ ∀ n < i, ¬p n = true := by
  have hrising : allEight.Pairwise (· < ·) := by decide
  rw [find?_of_rising hrising]
  exact ⟨fun ⟨_, hi, hleast⟩ => ⟨hi, fun n => hleast n (mem_allEight n)⟩,
    fun ⟨hi, hleast⟩ => ⟨mem_allEight i, hi, fun n _ => hleast n⟩⟩

theorem find?_allEight_none {p : Fin 8 → Bool} (h : ∀ i, ¬p i = true) : allEight.find? p = none :=
  List.find?_eq_none.mpr fun i _ => h i

/-! ## Streams that take a packet (R183) -/

theorem streamFor_some_iff {s : State} {l : Fin 2} {p : Packet} {i : Fin 8} :
    streamFor l p.route s = some i ↔ s.takes l p i := by
  unfold streamFor State.takes
  rw [find?_allEight_iff]
  simp only [Bool.and_eq_true, decide_eq_true_eq, and_assoc]

theorem streamFor_none {s : State} {l : Fin 2} {p : Packet} (h : ∀ i, ¬s.takes l p i) : streamFor l p.route s = none :=
  Option.eq_none_iff_forall_ne_some.mpr fun i hi => h i (streamFor_some_iff.1 hi)

/-! ## A packet on a link that is UP (R181) -/

section
variable {s : State} {l : Fin 2} {bytes : List Byte} {p : Packet} (hup : (s.port l).up = true)
  (hread : readPacket bytes = some p)
include hup hread

theorem exec_packet : exec (.packetReceive l bytes) s = classify l p bytes s := by
  show execPacketReceive l bytes s = _
  unfold execPacketReceive
  rw [if_pos hup, hread]

theorem exec_packet_here (hdest : p.destination = s.endpoint.id) :
    exec (.packetReceive l bytes) s =
      if p.kind = 1 then
        (streamFor l p.route s).elim (.next (s.onPort l fun q => { q with unrouted := bump q.unrouted }))
          fun i => takeBand i p.frame p.sub p.band p.payload s
      else if p.kind = 2 then .next (takeControl l p s)
      else .next s := by
  rw [exec_packet hup hread]
  unfold classify
  dsimp only
  rw [if_pos hdest]
  cases streamFor l p.route s <;> rfl

theorem exec_packet_elsewhere (hdest : p.destination ≠ s.endpoint.id) :
    exec (.packetReceive l bytes) s =
      if p.destination = 255 ∧ p.kind = 1 then
        (streamFor l p.route s).elim (.next (forwardPacket l bytes s))
          fun i => takeBand i p.frame p.sub p.band p.payload (forwardPacket l bytes s)
      else .next (forwardPacket l bytes s) := by
  rw [exec_packet hup hread]
  unfold classify
  dsimp only
  rw [if_neg hdest]
  cases streamFor l p.route s <;> rfl

end

theorem exec_delivers {s : State} {l : Fin 2} {bytes : List Byte} {i : Fin 8} {p : Packet} (h : s.delivers l bytes i p) :
    exec (.packetReceive l bytes) s = takeBand i p.frame p.sub p.band p.payload s := by
  obtain ⟨hup, hread, hdest, hkind, htakes⟩ := h
  rw [exec_packet_here hup hread hdest, if_pos hkind, streamFor_some_iff.2 htakes, Option.elim_some]

/-! ## Requests received (R184, R185) -/

/-- The head of a request whose payload carries a tag and a kind (R184). -/
theorem requestHead_of_payload {tag kind : Nat} (htag : tag < 65536) (hkind : kind < 256) (rest : List Byte) (free : Nat) :
    requestHead (be 2 tag ++ be 1 kind ++ rest) free = (tag, kind) := by
  have h2 : ofBE (be 2 tag) = tag := ofBE_be htag
  have h1 : ofBE (be 1 kind) = kind := ofBE_be hkind
  obtain ⟨a, b, hab⟩ := List.length_eq_two.mp (be_length 2 tag)
  obtain ⟨c, hc⟩ := List.length_eq_one_iff.mp (be_length 1 kind)
  have hkindByte : c.toNat = kind := by
    rw [hc] at h1
    simpa [ofBE] using h1
  rw [hab] at h2
  rw [hab, hc]
  exact Prod.ext h2 hkindByte

theorem useFree_of_payload {payload : List Byte} (h : 3 ≤ payload.length) (s : State) : useFree payload s = s :=
  if_neg (Nat.not_lt.2 h)

theorem three_le_length_head (tag kind : Nat) (rest : List Byte) : 3 ≤ (be 2 tag ++ be 1 kind ++ rest).length := by
  simp only [List.length_append, be_length]
  omega

/-! ## Bands (R20 to R25) -/

section
variable {s : State} {i : Fin 8}

theorem lastKey_abandon : ((abandon i s).stream i).lastKey = (s.stream i).lastKey := by
  obtain ⟨-, -, -, -, -, hlast, -⟩ := stream_abandon i s i
  exact hlast

theorem abandon_of_none (h : (s.stream i).assembly = none) : abandon i s = s := by
  unfold abandon
  rw [h]

theorem abandon_of_some {a : Assembly} (h : (s.stream i).assembly = some a) :
    abandon i s =
      (s.onStore (Store.setSlot a.slot { s.store.slot a.slot with occupant := .empty })).onStream i fun t =>
        { t with assembly := none, torn := bump t.torn } := by
  unfold abandon
  rw [h]

theorem passesTimeChecks_iff (t : Timer) (k h j : Nat) :
    passesTimeChecks t k h j = true ↔ t.state ≠ .unlocked ∧ h ≤ t.frames + 4 ∧ t.frames ≤ h + 4 ∧ j < k := by
  unfold passesTimeChecks
  simp only [Bool.and_eq_true, decide_eq_true_eq, and_assoc]

theorem takeBand_skewed {h j band : Nat} {payload : Band}
    (hp : ¬passesTimeChecks s.timer (s.stream i).multiple h j = true) :
    takeBand i h j band payload s = .next (s.onStream i fun t => { t with skew := bump t.skew }) := by
  unfold takeBand
  dsimp only
  rw [(Bool.not_eq_true _).mp hp]
  rfl

theorem takeBand_passed {h j band : Nat} {payload : Band}
    (hp : passesTimeChecks s.timer (s.stream i).multiple h j = true) :
    takeBand i h j band payload s =
      if band = 0 then
        if payload.length = bandBytes then bandZero i (h * (s.stream i).multiple + j) payload s else .next (abandon i s)
      else .next (laterBand i (h * (s.stream i).multiple + j) band payload s) := by
  unfold takeBand
  dsimp only
  rw [hp]
  rfl

theorem bandZero_stale {key live : Nat} {payload : Band} (hlive : (s.stream i).lastKey = some live) (h : key ≤ live) :
    bandZero i key payload s = .next ((abandon i s).onStream i fun t => { t with stale := bump t.stale }) := by
  unfold bandZero
  dsimp only
  rw [lastKey_abandon, hlive]
  exact if_pos h

theorem bandZero_starts {key : Nat} {payload : Band} (h : ∀ live, (s.stream i).lastKey = some live → live < key) :
    bandZero i key payload s = startFrame i key payload (abandon i s) := by
  unfold bandZero
  dsimp only
  rw [lastKey_abandon]
  split
  · rename_i live hlive
    exact if_neg (Nat.not_le.2 (h live hlive))
  · rfl

theorem startFrame_of_claim {key x : Nat} {payload : Band} {t : State} (h : claim i key s = some (x, t)) :
    startFrame i key payload s =
      .next ((t.onStore (Store.writeBand x 0 payload)).onStream i fun r => { r with assembly := some ⟨key, x, 1⟩ }) := by
  unfold startFrame
  rw [h]

theorem laterBand_continues {key band : Nat} {payload : Band} {a : Assembly} (ha : (s.stream i).assembly = some a)
    (h : a.key = key ∧ a.next = band ∧ band ≤ 134 ∧ payload.length = bandBytes) :
    laterBand i key band payload s = continueFrame i a payload s := by
  unfold laterBand
  rw [ha]
  exact if_pos h

theorem laterBand_misfits {key band : Nat} {payload : Band} {a : Assembly} (ha : (s.stream i).assembly = some a)
    (h : ¬(a.key = key ∧ a.next = band ∧ band ≤ 134 ∧ payload.length = bandBytes)) :
    laterBand i key band payload s = abandon i s := by
  unfold laterBand
  rw [ha]
  exact if_neg h

theorem laterBand_idle {key band : Nat} {payload : Band} (ha : (s.stream i).assembly = none) :
    laterBand i key band payload s = s := by
  unfold laterBand
  rw [ha]

end

/-- A band that passes the time checks reaches its stream as it was sent (R21). -/
theorem passes_of_delivered {s : State} {l : Fin 2} {bytes : List Byte} {i : Fin 8} {p : Packet}
    (h : s.delivered l bytes i p) : passesTimeChecks s.timer (s.stream i).multiple p.frame p.sub = true :=
  (passesTimeChecks_iff _ _ _ _).2 h.2

theorem exec_delivered {s : State} {l : Fin 2} {bytes : List Byte} {i : Fin 8} {p : Packet} (h : s.delivered l bytes i p) :
    exec (.packetReceive l bytes) s =
      if p.band = 0 then
        if p.payload.length = bandBytes then bandZero i (s.bandKey i p) p.payload s else .next (abandon i s)
      else .next (laterBand i (s.bandKey i p) p.band p.payload s) :=
  (exec_delivers h.1).trans (takeBand_passed (passes_of_delivered h))

/-! ## Claims (R37, R38) -/

theorem nextSlot_mod (f : Nat) {D : Nat} (hD : 0 < D) (x : Nat) : nextSlot f D (f + x % D) = f + (x + 1) % D := by
  have hlt := Nat.mod_lt x hD
  rw [← Nat.mod_add_mod x D 1]
  unfold nextSlot
  split
  · rw [Nat.mod_eq_of_lt (show x % D + 1 < D by omega)]
    rfl
  · rw [show x % D + 1 = D by omega, Nat.mod_self, Nat.add_zero]

/-- A scan passes over the held slots and answers the first one that is not (R38). -/
theorem scanUnheld_eq {st : Store} {f D x n k : Nat} (hD : 0 < D) (hheld : ∀ m < n, (st.slot (f + (x + m) % D)).holds ≠ 0)
    (hfree : (st.slot (f + (x + n) % D)).holds = 0) (hk : n < k) :
    st.scanUnheld f D k (f + x % D) = some (f + (x + n) % D) := by
  induction n generalizing x k with
  | zero =>
    obtain ⟨k, rfl⟩ := Nat.exists_eq_succ_of_ne_zero (Nat.ne_of_gt hk)
    exact if_pos hfree
  | succ n ih =>
    obtain ⟨k, rfl⟩ := Nat.exists_eq_succ_of_ne_zero (Nat.ne_of_gt (Nat.zero_lt_of_lt hk))
    have hstep : ∀ m, x + 1 + m = x + (m + 1) := fun m => by omega
    refine (if_neg (hheld 0 (Nat.succ_pos n))).trans ?_
    rw [nextSlot_mod f hD]
    have hrest := ih (x := x + 1) (fun m hm => by rw [hstep]; exact hheld (m + 1) (Nat.succ_lt_succ hm))
      (by rw [hstep]; exact hfree) (Nat.lt_of_succ_lt_succ hk)
    rwa [hstep] at hrest

/-! ## ENABLE STREAM and DISABLE STREAM (R17 to R19) -/

theorem multipleOk_iff (k : Nat) : multipleOk k = true ↔ k ∈ [1, 2, 3, 4, 6, 8] := by
  simp [multipleOk, or_assoc]

theorem enableStream_none {st src l k : Nat} (s : State)
    (h : 8 ≤ st ∨ 2 ≤ l ∨ 255 < src ∨ k ∉ [1, 2, 3, 4, 6, 8]) : enableStream st src l k s = refuse .badArgument s := by
  unfold enableStream
  split
  · rename_i h1 h2
    refine if_neg fun ⟨hk, hsrc⟩ => ?_
    obtain h | h | h | h := h
    · rw [recordNo_of_le h] at h1
      cases h1
    · rw [recordNo_of_le h] at h2
      cases h2
    · omega
    · exact h ((multipleOk_iff k).1 hk)
  · rfl

theorem enableStream_val {i : Fin 8} {l : Fin 2} {src k : Nat} (s : State) (hsrc : src ≤ 255)
    (hk : k ∈ [1, 2, 3, 4, 6, 8]) : enableStream i.val src l.val k s = enableStreamAt i l src k s := by
  unfold enableStream
  rw [recordNo_val, recordNo_val]
  exact if_pos ⟨(multipleOk_iff k).2 hk, hsrc⟩

theorem routeTaken_iff (i : Fin 8) (src : Nat) (l : Fin 2) (s : State) :
    routeTaken i src l s = true ↔
      ∃ n, n ≠ i ∧ (s.stream n).enabled = true ∧ (s.stream n).source = src ∧ (s.stream n).link = l := by
  unfold routeTaken
  rw [List.any_eq_true]
  simp only [Bool.and_eq_true, decide_eq_true_eq, and_assoc]
  exact ⟨fun ⟨n, _, h⟩ => ⟨n, h⟩, fun ⟨n, h⟩ => ⟨n, mem_allEight n, h⟩⟩

theorem budgetOfOthers_sum (i : Fin 8) (s : State) :
    budgetOfOthers i s = ∑ n : Fin 8, if n ≠ i ∧ (s.stream n).enabled = true then (s.stream n).multiple else 0 := by
  unfold budgetOfOthers
  rw [sum_map_filter_eq, sum_allEight]
  simp only [Bool.and_eq_true, decide_eq_true_eq]

/-- The checks of R17 after the first, in their order. -/
theorem enableStreamAt_eq (i : Fin 8) (l : Fin 2) (src k : Nat) (s : State) :
    enableStreamAt i l src k s =
      if (s.stream i).enabled = true then refuse .refusedState s
      else if ¬(s.store.configured = true ∧ 0 < (s.allotment i).size) then refuse .notConfigured s
      else if (s.stream i).lastKey ≠ none ∧ k ≠ (s.stream i).multiple then refuse .inUse s
      else if ∃ n, n ≠ i ∧ (s.stream n).enabled = true ∧ (s.stream n).source = src ∧ (s.stream n).link = l then
        refuse .inUse s
      else if 32 < (∑ n : Fin 8, if n ≠ i ∧ (s.stream n).enabled = true then (s.stream n).multiple else 0) + k then
        refuse .budget s
      else accept (optional (be 6) (s.stream i).lastKey) (s.onStream i fun t =>
        { t with enabled := true, source := src, link := l, multiple := k, assembly := none }) := by
  unfold enableStreamAt
  simp only [← routeTaken_iff, ← budgetOfOthers_sum, Bool.not_eq_true', ← Bool.not_eq_true, Bool.and_eq_true,
    decide_eq_true_eq, Option.isSome_iff_ne_none]

theorem disableStream_eq (i : Fin 8) (s : State) :
    disableStream i.val s = accept (optional (be 6) (s.stream i).lastKey)
      (if (s.stream i).enabled then (abandon i s).onStream i fun t => { t with enabled := false } else s) := by
  have hkey : ((if (s.stream i).enabled then (abandon i s).onStream i fun t => { t with enabled := false }
      else s).stream i).lastKey = (s.stream i).lastKey := by
    split
    · rw [State.stream_onStream, if_pos rfl]
      exact lastKey_abandon
    · rfl
  unfold disableStream
  rw [recordNo_val]
  dsimp only
  rw [hkey]

theorem State.onStream_onStream (s : State) (i : Fin 8) (f g : Stream → Stream) :
    (s.onStream i f).onStream i g = s.onStream i fun r => g (f r) := by
  simp only [State.onStream, Eight.get_set, if_pos, Eight.set_set]

end Sys2Proof.Machine

namespace Sys2Proof.Proofs

open Sys2Proof.Machine

/-- Settles O20, by destination and kind. -/
theorem packetOutcomes : Obligations.PacketOutcomes := by
  intro l bytes s
  refine ⟨fun hup => if_neg (by rw [hup]; exact Bool.false_ne_true), fun hup hread => ?_, fun p hup hread => ?_⟩
  · show execPacketReceive l bytes s = _
    unfold execPacketReceive
    rw [if_pos hup, hread]
  · refine ⟨fun hdest hkind hnone => ?_, fun hdest h1 h2 => ?_, fun hdest hkind hroom => ?_,
      fun tag kind rest hdest hkind hfull htag hk hpayload => ?_, fun hdest hnone => ?_, fun i hdest h255 hkind htakes => ?_⟩
    · rw [exec_packet_here hup hread hdest, if_pos hkind, streamFor_none hnone, Option.elim_none]
    · rw [exec_packet_here hup hread hdest, if_neg h1, if_neg h2]
    · rw [exec_packet_here hup hread hdest, if_neg (by omega), if_pos hkind, takeControl, if_pos hroom]
    · have hfree : useFree p.payload s = s := useFree_of_payload (hpayload ▸ three_le_length_head tag kind rest) s
      rw [exec_packet_here hup hread hdest, if_neg (by omega), if_pos hkind, takeControl, if_neg (Nat.not_lt.2 hfull),
        busyReply, hfree, hpayload, requestHead_of_payload htag hk]
      split <;> rfl
    · rw [exec_packet_elsewhere hup hread hdest]
      split
      · rename_i h
        rw [streamFor_none (hnone h.1 h.2)]
        rfl
      · rfl
    · rw [exec_packet_elsewhere hup hread hdest, if_pos ⟨h255, hkind⟩, streamFor_some_iff.2 htakes]
      rfl

/-- Settles O21: a band 0 tears, then is stale or starts a frame. -/
theorem bandZeroStartsFrame : Obligations.BandZeroStartsFrame := by
  intro l bytes i p s hdel hband hlen key s1
  have hs1 : s1 = abandon i s := by
    dsimp only [s1]
    split
    · rename_i h
      exact (abandon_of_none h).symm
    · rename_i a h
      exact (abandon_of_some h).symm
  have hexec : exec (.packetReceive l bytes) s = bandZero i key p.payload s := by
    rw [exec_delivered hdel, if_pos hband]
    exact if_pos hlen
  rw [hs1]
  refine ⟨fun live hlive hle => hexec.trans (bandZero_stale hlive hle), fun hlive x t hclaim => ?_⟩
  exact hexec.trans ((bandZero_starts hlive).trans (startFrame_of_claim hclaim))

/-- Settles O22: a band is skewed, continues the frame in assembly, or misfits. -/
theorem laterBandContinues : Obligations.LaterBandContinues := by
  intro l bytes i p s hdel
  refine ⟨fun hnot => ?_, fun h a ha => ⟨fun h0 h134 hkey hnext hlen => ?_, fun hbad => ?_⟩, fun h ha hbad => ?_⟩
  · rw [exec_delivers hdel, takeBand_skewed fun hp => hnot ⟨hdel, (passesTimeChecks_iff _ _ _ _).1 hp⟩]
  · rw [exec_delivered h, if_neg h0,
      laterBand_continues ha ⟨hkey, hnext, h134, hlen⟩, continueFrame]
    dsimp only
    rw [hnext]
    split <;> rfl
  · rw [exec_delivered h, ← abandon_of_some ha]
    split
    · rename_i h0
      rw [if_neg]
      obtain hlen | ⟨hn, -⟩ := hbad
      · exact hlen
      · exact absurd h0 hn
    · rw [laterBand_misfits ha]
      rintro ⟨hkey, hnext, h134, hlen⟩
      obtain hl | ⟨-, hk | hn | hgt⟩ := hbad
      · exact hl hlen
      · exact hk hkey
      · exact hn hnext
      · omega
  · rw [exec_delivered h]
    split
    · rename_i h0
      rw [if_neg (show ¬p.payload.length = bandBytes from hbad.resolve_left (not_not_intro h0)), abandon_of_none ha]
    · rw [laterBand_idle ha]

/-- Settles O23, by the scan over the held slots. -/
theorem claimPassesOverHeldSlots : Obligations.ClaimPassesOverHeldSlots := by
  intro i key s f c n D at_ hf hc hfc hcD hn hheld hfree
  have hD : 0 < D := by omega
  have hstart : f + (c - f) % D = c := by
    rw [Nat.mod_eq_of_lt (by omega)]
    omega
  have hscan : s.store.scanUnheld f D D c = some (at_ n) := by
    have h := scanUnheld_eq (st := s.store) (f := f) (x := c - f) hD hheld hfree hn
    rwa [hstart] at h
  have hnext : nextSlot f D (at_ n) = at_ (n + 1) := nextSlot_mod f hD (c - f + n)
  unfold claim
  dsimp only
  rw [hf, hc]
  dsimp only
  rw [hscan]
  dsimp only
  rw [hfree, ← hnext]
  rfl

/-- Settles O19: the checks of R17 in their order, and the frame a disabled stream tears. -/
theorem streamRequests : Obligations.StreamRequests := by
  intro o s htake b
  refine ⟨fun st src l k hbad => takeRequest_refused htake (enableStream_none _ hbad), fun i src l k hsrc hk => ?_,
    fun st hst => takeRequest_refused htake (by rw [disableStream, recordNo_of_le hst]), fun i => ?_⟩
  · have hrun := (enableStream_val b hsrc hk).trans (enableStreamAt_eq i l src k b)
    refine (takeRequest_reply htake).trans ((congrArg (Answer.reply o 2) hrun).trans ?_)
    simp only [apply_ite (Answer.reply o 2)]
    rfl
  · have hstream : b.stream i = s.stream i := rfl
    refine (takeRequest_accepted htake (disableStream_eq i b)).trans ?_
    refine congrArg (fun t => Host.Outcome.next (queueReply o 3 .ok _ t)) ?_
    cases hen : (s.stream i).enabled with
    | false => exact if_neg (by rw [hstream, hen]; exact Bool.false_ne_true)
    | true =>
      rw [if_pos (hstream.symm ▸ hen)]
      cases ha : (s.stream i).assembly with
      | none => rw [abandon_of_none (s := b) ha]
      | some a =>
        rw [abandon_of_some (s := b) ha, State.onStream_onStream]
        rfl

end Sys2Proof.Proofs
end

section
/-! PROOFS. Lookups, holds and their release (R40 to R45, R84). -/

namespace Sys2Proof.Machine

theorem Store.lookup_iff (st : Store) (i : Fin 8) (key x g : Nat) :
    st.lookup i key = some (x, g) ↔
      (st.configured = true ∧ 0 < (st.allotments.get i).size) ∧
      (st.allotments.get i).directory.find (key % (st.allotments.get i).size) = some (key, x) ∧
      (st.owner x = some i ∧ (st.slot x).occupant = .full key) ∧ g = (st.slot x).generation := by
  unfold Store.lookup
  dsimp only
  constructor
  · intro h
    obtain ⟨hconf, h⟩ := Option.ite_none_right_eq_some.mp h
    split at h
    · rename_i k slot hfind
      obtain ⟨⟨hk, hfull⟩, h⟩ := Option.ite_none_right_eq_some.mp h
      cases h
      subst hk
      exact ⟨hconf, hfind, of_decide_eq_true hfull, rfl⟩
    · cases h
  · rintro ⟨hconf, hfind, hfull, hg⟩
    rw [if_pos hconf, hfind]
    dsimp only
    rw [if_pos ⟨rfl, decide_eq_true hfull⟩, hg]

variable {s : State}

theorem recomputeRecall_of_none {i : Fin 8} (h : (s.stream i).lastKey = none) :
    recomputeRecall i s = s.onAllotment i fun a => { a with recallStart := none } := by
  unfold recomputeRecall
  dsimp only
  rw [h]
  rfl

theorem State.onAllotment_congr {i : Fin 8} {f g : Allotment → Allotment} (h : f (s.allotment i) = g (s.allotment i)) :
    s.onAllotment i f = s.onAllotment i g := by
  unfold State.onAllotment
  rw [show f (s.store.allotments.get i) = g (s.store.allotments.get i) from h]

theorem recomputeRecall_of_some {i : Fin 8} {live origin : Nat} (hlive : (s.stream i).lastKey = some live)
    (horigin : (s.stream i).originKey = some origin) (hle : (s.allotment i).held ≤ (s.allotment i).size) :
    recomputeRecall i s = s.onAllotment i fun a =>
      { a with
        recallStart := some (max (live + 1 - ((s.allotment i).size - (s.allotment i).held)) origin * s.period i) } := by
  have hkey : recallKey live (s.allotment i).size (s.allotment i).held origin =
      max (live + 1 - ((s.allotment i).size - (s.allotment i).held)) origin := by
    unfold recallKey
    omega
  unfold recomputeRecall
  dsimp only
  refine State.onAllotment_congr ?_
  rw [hlive, horigin, ← hkey]
  rfl

/-! ## Releases made together (R41, R84) -/

theorem owner_releaseHold (s : State) (x y : Nat) : (releaseHold s x).store.owner y = s.store.owner y := by
  rw [releaseHold_cases]
  split
  · refine Store.owner_congr (fun k => ?_) y
    rename_i i _ _
    have h (u : State) : ((u.onAllotment i fun a => { a with held := a.held - 1 }).allotment k).size = (u.allotment k).size ∧
        ((u.onAllotment i fun a => { a with held := a.held - 1 }).allotment k).first = (u.allotment k).first := by
      rw [State.allotment_onAllotment]
      split
      · rename_i e; subst e; exact ⟨rfl, rfl⟩
      · exact ⟨rfl, rfl⟩
    exact h _
  · rfl

theorem slot_releaseHold (s : State) (x y : Nat) : (releaseHold s x).store.slot y =
    { s.store.slot y with holds := (s.store.slot y).holds - if y = x then 1 else 0 } := by
  have hset (n : Nat) (hn : n = (s.store.slot x).holds - 1) : (s.store.setSlot x { s.store.slot x with holds := n }).slot y =
      { s.store.slot y with holds := (s.store.slot y).holds - if y = x then 1 else 0 } := by
    rw [Store.slot_setSlot]
    split
    · rename_i e; subst e; rw [hn]
    · rfl
  rw [releaseHold_cases]
  split
  · rename_i h1 _
    exact hset 0 (by omega)
  · exact hset _ rfl

theorem allotment_releaseHold (s : State) (x : Nat) (i : Fin 8) : (releaseHold s x).allotment i =
    { s.allotment i with
      held := (s.allotment i).held - if (s.store.slot x).holds = 1 ∧ s.store.owner x = some i then 1 else 0 } := by
  rw [releaseHold_cases]
  split
  · rename_i j h1 howner
    rw [State.allotment_onAllotment, h1, howner]
    by_cases e : i = j
    · subst e
      simp only [and_self]
      rfl
    · rw [if_neg e, if_neg fun h => e (Option.some.inj h.2).symm]
      rfl
  · rename_i hno
    rw [if_neg fun h => hno i h.1 h.2]
    rfl

/-- The slots of a stream whose last holds the releases of a list take. -/
def State.freedBy (s : State) (i : Fin 8) (l : List Nat) : Finset Nat :=
  l.toFinset.filter fun x => s.store.owner x = some i ∧ 0 < (s.store.slot x).holds ∧ (s.store.slot x).holds ≤ l.count x

theorem State.mem_freedBy {i : Fin 8} {l : List Nat} {x : Nat} : x ∈ s.freedBy i l ↔
    s.store.owner x = some i ∧ 0 < (s.store.slot x).holds ∧ (s.store.slot x).holds ≤ l.count x := by
  unfold State.freedBy
  rw [Finset.mem_filter, List.mem_toFinset, and_iff_right_iff_imp]
  rintro ⟨-, hpos, hle⟩
  exact List.count_pos_iff.mp (by omega)

/-- A first release frees its slot when the slot was held once; the other releases free the rest. -/
theorem State.card_freedBy_cons (i : Fin 8) (x : Nat) (l : List Nat) : (s.freedBy i (x :: l)).card =
    ((releaseHold s x).freedBy i l).card + if (s.store.slot x).holds = 1 ∧ s.store.owner x = some i then 1 else 0 := by
  have hcount (y : Nat) : (x :: l).count y = l.count y + if y = x then 1 else 0 := by
    rw [List.count_cons]
    simp only [beq_iff_eq, eq_comm (a := x)]
  have hrest (y : Nat) : y ∈ (releaseHold s x).freedBy i l ↔ s.store.owner y = some i ∧
      0 < (s.store.slot y).holds - (if y = x then 1 else 0) ∧
      (s.store.slot y).holds - (if y = x then 1 else 0) ≤ l.count y := by
    rw [State.mem_freedBy, owner_releaseHold, slot_releaseHold]
  split
  · rename_i h
    have hnot : x ∉ (releaseHold s x).freedBy i l := fun hx => by
      have := (hrest x).mp hx
      rw [if_pos rfl, h.1] at this
      omega
    rw [← Finset.card_insert_of_notMem hnot]
    congr 1
    ext y
    rw [Finset.mem_insert, hrest, State.mem_freedBy, hcount]
    by_cases e : y = x
    · subst e
      simp [h.1, h.2]
    · simp [e]
  · rename_i h
    rw [Nat.add_zero]
    congr 1
    ext y
    rw [hrest, State.mem_freedBy, hcount]
    by_cases e : y = x
    · subst e
      rw [if_pos rfl]
      refine and_congr_right fun howner => ?_
      have : (s.store.slot y).holds ≠ 1 := fun h1 => h ⟨h1, howner⟩
      omega
    · simp [e]

theorem State.length_freed (i : Fin 8) (l : List Nat) :
    (l.dedup.filter fun x => decide (s.store.owner x = some i ∧ 0 < (s.store.slot x).holds ∧
      (s.store.slot x).holds ≤ l.count x)).length = (s.freedBy i l).card := by
  rw [← List.toFinset_card_of_nodup (l.nodup_dedup.filter _)]
  congr 1
  ext x
  rw [List.mem_toFinset, List.mem_filter, List.mem_dedup, decide_eq_true_eq, State.freedBy, Finset.mem_filter,
    List.mem_toFinset]

theorem allotment_releaseEach (l : List Nat) (s : State) (i : Fin 8) : (l.foldl releaseHold s).allotment i =
    { s.allotment i with held := (s.allotment i).held - (s.freedBy i l).card } := by
  induction l generalizing s with
  | nil => rfl
  | cons x l ih =>
    rw [List.foldl_cons, ih, allotment_releaseHold, State.card_freedBy_cons, Nat.add_comm, Nat.sub_add_eq]

theorem stream_releaseEach (l : List Nat) (s : State) (i : Fin 8) : (l.foldl releaseHold s).stream i = s.stream i := by
  induction l generalizing s with
  | nil => rfl
  | cons x l ih =>
    rw [List.foldl_cons, ih, releaseHold_cases]
    split <;> rfl

theorem slot_releaseEach (l : List Nat) (s : State) (y : Nat) : (l.foldl releaseHold s).store.slot y =
    { s.store.slot y with holds := (s.store.slot y).holds - l.count y } := by
  induction l generalizing s with
  | nil => rfl
  | cons x l ih =>
    rw [List.foldl_cons, ih, slot_releaseHold, List.count_cons, Nat.sub_sub]
    simp only [beq_iff_eq, eq_comm (a := x), Nat.add_comm]

theorem slot_releaseHolds (l : List Nat) (s : State) (y : Nat) : (releaseHolds l s).store.slot y =
    { s.store.slot y with holds := (s.store.slot y).holds - l.count y } := by
  rw [← slot_releaseEach]
  unfold releaseHolds
  dsimp only
  generalize l.foldl releaseHold s = u
  induction allEight generalizing u with
  | nil => rfl
  | cons i l ih =>
    rw [List.foldl_cons, ih]
    split <;> rfl

/-- The allotment of a stream whose recall start is recomputed when its held count is another than `n` (R84). -/
def Stream.recalledFrom (n : Nat) (p : Stream × Allotment) : Stream × Allotment :=
  if p.2.held = n then p
  else (p.1, { p.2 with
    recallStart := p.1.lastKey.map fun live =>
      recallKey live p.2.size p.2.held (p.1.originKey.getD 0) * nativePeriod p.1.multiple })

theorem allotment_releaseHolds (l : List Nat) (s : State) (i : Fin 8) : (releaseHolds l s).allotment i =
    if (s.allotment i).held - (s.freedBy i l).card = (s.allotment i).held then s.allotment i
    else (recomputeRecall i (s.onAllotment i fun a =>
      { a with held := (s.allotment i).held - (s.freedBy i l).card })).allotment i := by
  have hstep (t : State) (k j : Fin 8) :
      ((if (t.allotment k).held = (s.allotment k).held then t else recomputeRecall k t).stream j,
        (if (t.allotment k).held = (s.allotment k).held then t else recomputeRecall k t).allotment j) =
      if j = k then Stream.recalledFrom (s.allotment k).held (t.stream k, t.allotment k) else (t.stream j, t.allotment j) := by
    unfold Stream.recalledFrom
    dsimp only
    by_cases hheld : (t.allotment k).held = (s.allotment k).held
    · rw [if_pos hheld, if_pos hheld]
      split
      · rename_i e; rw [e]
      · rfl
    · rw [if_neg hheld, if_neg hheld, allotment_recomputeRecall]
      split
      · rename_i e; subst e; rfl
      · rfl
  have hfold := get_foldl (fun (t : State) j => (t.stream j, t.allotment j))
    (fun j => Stream.recalledFrom (s.allotment j).held) hstep nodup_allEight (l.foldl releaseHold s) i
  rw [if_pos (mem_allEight i)] at hfold
  have hlast := congrArg Prod.snd hfold
  dsimp only at hlast
  unfold releaseHolds
  dsimp only
  rw [hlast, stream_releaseEach, allotment_releaseEach, Stream.recalledFrom]
  split
  · rename_i h
    dsimp only at h ⊢
    rw [h]
  · rw [allotment_recomputeRecall, if_pos rfl, State.allotment_onAllotment, if_pos rfl]
    rfl

end Sys2Proof.Machine

namespace Sys2Proof.Proofs
open Sys2Proof.Machine

/-- Settles O24: the lookup and the hold table by their cases, the releases of one clip by induction on the list. -/
theorem lookupsAndHolds : Obligations.LookupsAndHolds := by
  refine ⟨⟨Store.lookup_iff, Store.slot_setSlot, Store.band_writeBand⟩, fun i key s => ⟨fun h => ?_, fun x g h => ⟨?_, ?_⟩⟩,
    fun i s => ⟨recomputeRecall_of_none, fun live origin => recomputeRecall_of_some⟩,
    fun l s => ⟨slot_releaseHolds l s, fun i => ?_⟩⟩
  · unfold takeHold
    rw [h]
  · unfold takeHold
    rw [h]
    dsimp only
    split
    · rfl
    · split
      · rename_i hfloor
        exact (if_pos hfloor).symm
      · rename_i hfloor
        refine Eq.trans ?_ (if_neg hfloor).symm
        split
        · rename_i h0
          rw [h0]
        · rfl
  · rw [releaseHold_cases, lookup_owner h]
    by_cases h1 : (s.store.slot x).holds = 1
    · rw [if_pos h1]
      split
      · rename_i hj
        cases hj
        rfl
      · rename_i hno
        exact absurd rfl (hno i h1)
    · rw [if_neg h1]
      split
      · exact absurd ‹_› h1
      · rfl
  · dsimp only
    rw [State.length_freed]
    exact allotment_releaseHolds l s i

end Sys2Proof.Proofs
end

section
/-! PROOFS. Clip protection: how a walk starts, goes on and ends (R78 to R89). -/

namespace Sys2Proof.Machine

/-- A second change of one entry replaces the first. -/
theorem Table.insert_insert {α : Type} (t : Table α) (k : Nat) (a b : α) : (t.insert k a).insert k b = t.insert k b := by
  induction t with
  | nil => simp [Table.insert]
  | cons e t ih =>
    obtain ⟨n, d⟩ := e
    by_cases hlt : k < n
    · simp [Table.insert, hlt]
    · by_cases heq : k = n
      · simp [Table.insert, heq]
      · simp [Table.insert, hlt, heq, ih]

/-! ## The angles of a walk (R79) -/

section
variable {l : List (Nat × Nat)} {n a : Nat}

theorem getElem_angles {k : Nat} (h : k < (l.zipIdx.drop n).length) (hk : n + k < l.length) :
    (l.zipIdx.drop n)[k] = (l[n + k], n + k) := by
  rw [List.getElem_drop, List.getElem_zipIdx, Nat.zero_add]

theorem nextAngle_some (ha : a < l.length) (hna : n ≤ a) (hrange : l[a].1 ≤ l[a].2)
    (hskip : ∀ m (hm : m < l.length), n ≤ m → m < a → l[m].2 < l[m].1) : nextAngle l n = some (a, l[a].1, l[a].2) := by
  have hlen : (l.zipIdx.drop n).length = l.length - n := by rw [List.length_drop, List.length_zipIdx]
  have hfind : (l.zipIdx.drop n).find? (fun e => decide (e.1.1 ≤ e.1.2)) = some (l[a], a) := by
    rw [List.find?_eq_some_iff_getElem]
    refine ⟨decide_eq_true hrange, a - n, by omega, ?_, fun k hk => ?_⟩
    · rw [getElem_angles (by omega) (by omega)]
      simp only [Nat.add_sub_cancel' hna]
    · rw [getElem_angles (by omega) (by omega)]
      have := hskip (n + k) (by omega) (by omega) (by omega)
      simpa using this
  rw [nextAngle, hfind]
  rfl

theorem nextAngle_none (hskip : ∀ m (hm : m < l.length), n ≤ m → l[m].2 < l[m].1) : nextAngle l n = none := by
  rw [nextAngle, Option.map_eq_none_iff, List.find?_eq_none]
  intro e he
  obtain ⟨k, hk, rfl⟩ := List.mem_iff_getElem.mp he
  have hlen : (l.zipIdx.drop n).length = l.length - n := by rw [List.length_drop, List.length_zipIdx]
  rw [getElem_angles hk (by omega)]
  have := hskip (n + k) (by omega) (by omega)
  simpa using this

end

theorem getElem_walkRanges (c : Clip) (periods : List Nat) {a : Nat} (h : a < (walkRanges c periods).length) :
    (walkRanges c periods)[a] = keyRange c.inPoint (c.outPoint.getD c.inPoint) (periods.getD a 0) := by
  have ha : a < periods.length := by rwa [walkRanges, List.length_map] at h
  simp [walkRanges, List.getD_eq_getElem?_getD, ha]

/-- The number of keys in a list of ranges, angle by angle. -/
theorem sum_keyCount {l : List (Nat × Nat)} {n : Nat} {lo hi : Nat → Nat} (hn : l.length = n)
    (h : ∀ a (ha : a < l.length), l[a] = (lo a, hi a)) :
    (l.map keyCount).sum = ∑ a ∈ Finset.range n, (hi a + 1 - lo a) := by
  have hl : l.map keyCount = (List.range n).map fun a => hi a + 1 - lo a := by
    refine List.ext_getElem (by simp [hn]) fun a h1 _ => ?_
    rw [List.length_map] at h1
    simp [h a h1, keyCount]
  rw [hl]
  rfl

/-! ## The walk's operations on the clip it examines -/

section
variable {s : State} {w : Walk} {c : Clip} {p : Protection}

theorem completeWalk_of_some (hc : s.clip w.clip = some c) : completeWalk w s =
    raise s.houseTime (.protectDone w.clip .ok (c.protection.elim 0 Protection.holes) w.heldTotal none)
      { s with clips := s.clips.insert w.clip { c with state := .protected_ },
               engine := { s.engine with walk := none, lookup := .none } } := by
  rw [completeWalk, hc, State.onClip_of_some hc]
  rfl

/-- The releases of a walk without success, with the clip CLOSED and the engine IDLE (R84, R86). -/
def walkUnwound (w : Walk) (c : Clip) (slots : List Nat) (s : State) : State :=
  { releaseHolds slots s with
    clips := (releaseHolds slots s).clips.insert w.clip { c with state := .closed, protection := none }
    engine := { (releaseHolds slots s).engine with walk := none, lookup := .none } }

theorem unwindWalk_of_some (hc : s.clip w.clip = some c) (hp : c.protection = some p) (result : WalkResult)
    (failure : Option (Nat × Nat)) (extra : List Nat) : unwindWalk w result failure extra s =
      raise s.houseTime (.protectDone w.clip result p.holes w.heldTotal failure) (walkUnwound w c (p.slots ++ extra) s) := by
  have hclip : (releaseHolds (p.slots ++ extra) s).clip w.clip = some c :=
    (clip_of_clips (releaseHolds_clips _ _) _).trans hc
  unfold unwindWalk
  rw [hc]
  dsimp only [Option.bind_some]
  rw [hp]
  dsimp only [Option.elim_some]
  unfold walkUnwound
  generalize releaseHolds (p.slots ++ extra) s = u at hclip ⊢
  rw [State.onClip_of_some hclip]
  rfl

/-- The walk's next lookup (R80). -/
def State.issue (c : Clip) (w : Walk) (s : State) : State :=
  (s.onEngine fun e => { e with walk := some w, lookup := .pending }).onStore
    (Store.enqueue (.lookup (angleStream c w.angle) w.nextKey))

theorem advanceWalk_nextKey (hc : s.clip w.clip = some c) (h : w.nextKey < w.lastKey) :
    advanceWalk w s = s.issue c { w with nextKey := w.nextKey + 1 } := by
  rw [advanceWalk, hc]
  exact if_pos h

theorem advanceWalk_nextAngle (hc : s.clip w.clip = some c) (h : w.lastKey ≤ w.nextKey) {a lo hi : Nat}
    (ha : nextAngle (walkRanges c w.periods) (w.angle + 1) = some (a, lo, hi)) :
    advanceWalk w s = s.issue c { w with angle := a, nextKey := lo, lastKey := hi } := by
  rw [advanceWalk, hc]
  dsimp only
  rw [if_neg (Nat.not_lt.mpr h), ha]
  rfl

theorem advanceWalk_last (hc : s.clip w.clip = some c) (h : w.lastKey ≤ w.nextKey)
    (ha : nextAngle (walkRanges c w.periods) (w.angle + 1) = none) : advanceWalk w s = completeWalk w s := by
  rw [advanceWalk, hc]
  dsimp only
  rw [if_neg (Nat.not_lt.mpr h), ha]

/-! ## Lookups served (R80 to R82) -/

theorem enterExtent_some {key slot : Nat} {l : List Extent} {e : Extent} (he : l.getLast? = some e) :
    enterExtent key slot l =
      if key = e.firstKey + e.count ∧ slot = e.firstSlot + e.count then
        some (l.dropLast ++ [{ e with count := e.count + 1 }])
      else if l.length < 32 then some (l ++ [⟨key, 1, slot⟩]) else none := by
  rw [enterExtent, he]
  rfl

theorem enterExtent_nil (key slot : Nat) : enterExtent key slot [] = some [⟨key, 1, slot⟩] := rfl

theorem walkHole_of_some (hc : s.clip w.clip = some c) (hp : c.protection = some p) :
    walkHole w s = advanceWalk w
      { s with clips := s.clips.insert w.clip { c with protection := some { p with holes := p.holes + 1 } } } := by
  rw [walkHole, State.onClip_of_some hc, hp]
  rfl

theorem walkHeld_entered {slot : Nat} {l : List Extent} (hc : s.clip w.clip = some c) (hp : c.protection = some p)
    (hl : enterExtent w.nextKey slot (p.extents.getD w.angle []) = some l) :
    walkHeld w slot s = advanceWalk { w with heldTotal := w.heldTotal + 1 }
      { s with
        clips := s.clips.insert w.clip
          { c with protection := some { p with extents := p.extents.set w.angle l } } } := by
  unfold walkHeld
  rw [hc]
  dsimp only [Option.bind_some]
  rw [hp]
  dsimp only
  rw [hl]
  dsimp only
  rw [State.onClip_of_some hc]

theorem walkHeld_fragmented {slot : Nat} (hc : s.clip w.clip = some c) (hp : c.protection = some p)
    (hl : enterExtent w.nextKey slot (p.extents.getD w.angle []) = none) :
    walkHeld w slot s =
      unwindWalk { w with heldTotal := w.heldTotal + 1 } .fragmented (some (w.angle, w.nextKey)) [slot] s := by
  unfold walkHeld
  rw [hc]
  dsimp only [Option.bind_some]
  rw [hp]
  dsimp only
  rw [hl]

/-- An entry that joins the read queue leaves the service busy. -/
theorem Store.serve_enqueue (e : ReadEntry) (st : Store) : (st.enqueue e).serve = st.enqueue e := by
  have hserve (u : Store) : u.serve.serve = u.serve := by
    obtain ⟨_, _, _, _, service, queue, _⟩ := u
    cases service <;> cases queue <;> rfl
  exact hserve _

theorem exec_protectLookupServed {i : Fin 8} {key : Nat} (hservice : s.store.service = some (.lookup i key))
    (hw : s.engine.walk = some w) (hwithdrawn : s.engine.withdrawn = false) :
    exec .protectLookupServed s = .next (serveNext (serveLookup w i key (endService s))) := by
  show execProtectLookupServed s = _
  unfold execProtectLookupServed
  rw [hservice, hw]
  exact if_neg (by rw [hwithdrawn]; exact Bool.false_ne_true)

end

end Sys2Proof.Machine

namespace Sys2Proof.Proofs
open Sys2Proof.Machine

/-- Settles O28: the three ways a walk goes on, and the end of the withdrawn lookup. -/
theorem walkAdvances : Obligations.WalkAdvances := by
  refine ⟨fun s w c hc => ⟨advanceWalk_nextKey hc, fun a hlast ha hlen hrange hskip => ?_, fun hlast hskip => ?_⟩,
    fun s i key => ⟨fun hno => ?_, fun hwith hservice hlookup => ?_, fun w c hwith hservice hlookup hw hc => ?_⟩⟩
  · have hranges : a < (walkRanges c w.periods).length := by rwa [walkRanges, List.length_map]
    refine advanceWalk_nextAngle hc hlast ((nextAngle_some hranges ha ?_ fun m hm hnm hma => ?_).trans ?_)
    · rw [getElem_walkRanges]
      exact hrange
    · rw [getElem_walkRanges]
      exact hskip m hnm hma
    · rw [getElem_walkRanges]
      rfl
  · refine (advanceWalk_last hc hlast (nextAngle_none fun m hm hnm => ?_)).trans (completeWalk_of_some hc)
    rw [getElem_walkRanges]
    exact hskip m hnm (by rwa [walkRanges, List.length_map] at hm)
  · refine if_neg fun h => ?_
    obtain ⟨hwith, hserving⟩ := (Bool.and_eq_true _ _).mp h
    obtain hw | hno := hno
    · rw [hw] at hwith
      cases hwith
    · unfold Store.servingLookup at hserving
      split at hserving
      · rename_i j k hjk
        exact hno j k hjk
      · cases hserving
  all_goals
    have hserving : (s.engine.withdrawn && s.store.servingLookup) = true := by
      rw [hwith, Store.servingLookup, hservice]
      rfl
    refine (if_pos hserving).trans (congrArg Host.Outcome.next ?_)
    unfold withdrawnEnd
    dsimp only
  · split
    · exact absurd ‹_› hlookup
    · rfl
  · rw [hlookup, hw]
    dsimp only
    rw [hc]
    exact congrArg (fun st => ({ s with store := st, engine := _ } : State)) (Store.serve_enqueue _ _)

/-- Settles O27: the results of the hold the served lookup takes, one by one. -/
theorem protectLookupServed : Obligations.ProtectLookupServed := by
  intro s i key w c p hservice hw hwithdrawn hc hp s1 serve held l onExtents ended
  have hexec := exec_protectLookupServed hservice hw hwithdrawn
  have hclip {r : HoldResult} {t : State} (h : takeHold i key s1 = (r, t)) : t.clip w.clip = some c :=
    (clip_of_clips (takeHold_rest h).1 _).trans hc
  have htime {r : HoldResult} {t : State} (h : takeHold i key s1 = (r, t)) : t.houseTime = s.houseTime := by
    obtain ⟨_, _, _, _, rfl⟩ := SameButContents.takeHold h
    rfl
  have hserve {r : HoldResult} {t : State} (h : takeHold i key s1 = (r, t)) :
      takeHold i key (endService s) = (r, t) := h
  refine ⟨fun t h => hexec.trans ?_, fun x t h => hexec.trans ?_, fun t h => hexec.trans ?_, fun t h => hexec.trans ?_⟩
  all_goals rw [serveLookup, hserve h]
  · exact congrArg (fun u => Host.Outcome.next (serveNext u)) (walkHole_of_some (hclip h) hp)
  · cases hlast : l.getLast? with
    | none =>
      have hl : l = [] := List.getLast?_eq_none_iff.mp hlast
      exact congrArg (fun u => Host.Outcome.next (serveNext u))
        (walkHeld_entered (hclip h) hp ((congrArg (enterExtent w.nextKey x) hl).trans (enterExtent_nil _ _)))
    | some e =>
      have henter := enterExtent_some (key := w.nextKey) (slot := x) hlast
      dsimp only
      split
      · rename_i hnext
        rw [if_pos hnext] at henter
        exact congrArg (fun u => Host.Outcome.next (serveNext u)) (walkHeld_entered (hclip h) hp henter)
      · rename_i hnext
        rw [if_neg hnext] at henter
        split
        · rename_i hroom
          rw [if_pos hroom] at henter
          exact congrArg (fun u => Host.Outcome.next (serveNext u)) (walkHeld_entered (hclip h) hp henter)
        · rename_i hroom
          rw [if_neg hroom] at henter
          refine congrArg (fun u => Host.Outcome.next (serveNext u)) ((walkHeld_fragmented (hclip h) hp henter).trans ?_)
          exact (unwindWalk_of_some (w := held) (hclip h) hp _ _ _).trans (by rw [htime h]; rfl)
  all_goals
    refine congrArg (fun u => Host.Outcome.next (serveNext u)) ?_
    exact (unwindWalk_of_some (hclip h) hp _ _ _).trans (by rw [htime h]; rfl)

end Sys2Proof.Proofs
end

section
/-! PROOFS. PROTECT CLIP and RELEASE CLIP (R78, R79, R88, R89). -/

namespace Sys2Proof.Machine

/-- The answer an id and its clip give, with a reply of any status. -/
theorem takeRequest_answered {o : Origin} {kind : Nat} {run : State → Answer} {s : State} (htake : s.canTake o.link = true)
    {a : Answer} (h : run (s.served o) = a) : takeRequest o kind run s = .next (queueReply o kind a.status a.results a.state) :=
  h ▸ takeRequest_taken htake kind run

section
variable {s : State} {id : Nat} {c : Clip}

/-- The clip a walk begins on: PROTECTING, with an empty extent list for each angle (R78). -/
def Clip.walked (c : Clip) : Clip :=
  { c with state := .protecting, protection := some { extents := c.angles.map fun _ => [] } }

theorem protectClip_taken (hid : id < 512) (hc : s.clip id = some c) (hclosed : c.state = .closed)
    (hwalk : s.engine.walk = none) :
    protectClip id s = ⟨(startWalk id c s).1, .accepted, be 2 id ++ be 4 (startWalk id c s).2⟩ := by
  rw [protectClip, onClipNo_of_some _ hid hc, if_neg (not_not_intro hclosed), hwalk]
  rfl

theorem length_walkRanges (c : Clip) (periods : List Nat) : (walkRanges c periods).length = periods.length :=
  List.length_map _

/-- The range of an angle of a clip whose walk begins. -/
theorem getElem_walkRanges_angles {a : Nat} (h : a < (walkRanges c (c.angles.map s.period)).length) :
    (walkRanges c (c.angles.map s.period))[a] =
      ((c.inPoint + s.period (c.angles.getD a 0) - 1) / s.period (c.angles.getD a 0),
        c.outPoint.getD c.inPoint / s.period (c.angles.getD a 0)) := by
  have ha : a < c.angles.length := by rwa [length_walkRanges, List.length_map] at h
  have hperiod : (c.angles.map s.period).getD a 0 = s.period (c.angles.getD a 0) := by
    simp [List.getD_eq_getElem?_getD, ha]
  rw [getElem_walkRanges, hperiod]
  rfl

theorem startWalk_total : (startWalk id c s).2 = ∑ a ∈ Finset.range c.angles.length,
    (c.outPoint.getD c.inPoint / s.period (c.angles.getD a 0) + 1 -
      (c.inPoint + s.period (c.angles.getD a 0) - 1) / s.period (c.angles.getD a 0)) := by
  have htotal : (startWalk id c s).2 = ((walkRanges c (c.angles.map s.period)).map keyCount).sum := by
    unfold startWalk
    dsimp only
    split <;> rfl
  rw [htotal]
  exact sum_keyCount (by rw [length_walkRanges, List.length_map]) fun a ha => getElem_walkRanges_angles ha

theorem startWalk_some (hc : s.clip id = some c) {a lo hi : Nat}
    (h : nextAngle (walkRanges c (c.angles.map s.period)) 0 = some (a, lo, hi)) :
    (startWalk id c s).1 = firstLookup (angleStream c a) lo
      (({ s with clips := s.clips.insert id c.walked } : State).onEngine fun e =>
        { e with walk := some ⟨id, a, lo, hi, 0, c.angles.map s.period⟩ }) := by
  unfold startWalk
  dsimp only
  rw [h, State.onClip_of_some hc]
  rfl

theorem startWalk_none (hc : s.clip id = some c) (h : nextAngle (walkRanges c (c.angles.map s.period)) 0 = none) :
    (startWalk id c s).1 =
      raise s.houseTime (.protectDone id .ok 0 0 none)
        { s with clips := s.clips.insert id { c.walked with state := .protected_ },
                 engine := { s.engine with walk := none, lookup := .none } } := by
  unfold startWalk
  dsimp only
  rw [h, State.onClip_of_some hc]
  dsimp only
  rw [completeWalk_of_some (c := c.walked) ((clip_insert s id id _).trans (if_pos rfl))]
  dsimp only
  rw [Table.insert_insert]
  rfl

/-! ## RELEASE CLIP -/

theorem releaseClip_protected {p : Protection} (hid : id < 512) (hc : s.clip id = some c) (hu : c.useCount = 0)
    (hst : c.state = .protected_) (hp : c.protection = some p) : releaseClip id s = releaseProtected id p s := by
  rw [releaseClip, onClipNo_of_some _ hid hc, if_neg fun h => h.1 hu, hst, hp]

theorem releaseClip_protecting {w : Walk} (hid : id < 512) (hc : s.clip id = some c) (hu : c.useCount = 0)
    (hst : c.state = .protecting) (hw : s.engine.walk = some w) : releaseClip id s = stopWalk w s := by
  rw [releaseClip, onClipNo_of_some _ hid hc, if_neg fun h => h.1 hu, hst, hw]

theorem stopLookup_clips (s : State) : (stopLookup s).clips = s.clips := by
  unfold stopLookup
  split
  · split <;> rfl
  · rfl

theorem stopLookup_houseTime (s : State) : (stopLookup s).houseTime = s.houseTime := by
  unfold stopLookup
  split
  · split <;> rfl
  · rfl

theorem stopLookup_eq (s : State) : stopLookup s =
    match s.engine.lookup, s.store.service with
    | .pending, some (.lookup _ _) => s.onEngine fun e => { e with withdrawn := true }
    | .pending, _ => s.onStore fun st => { st with queue := st.queue.filter ReadEntry.isFetch }
    | _, _ => s := by
  unfold stopLookup Store.servingLookup
  cases s.engine.lookup with
  | pending => rcases s.store.service with _ | (_ | _) <;> rfl
  | none => rfl
  | deferred => rfl

end

end Sys2Proof.Machine

namespace Sys2Proof.Proofs
open Sys2Proof.Machine

/-- Settles O29: the walk starts at the first angle whose range is not empty, or completes at once. -/
theorem protectClip : Obligations.ProtectClip := by
  intro o id s htake b
  refine ⟨fun hid => takeRequest_refused htake (onClipNo_of_le _ hid),
    fun hid hc => takeRequest_refused htake (onClipNo_of_none (s := b) _ hid hc), ?_⟩
  intro c hid hc q lo hi total empty s1
  have hcb : b.clip id = some c := hc
  have hrange {a : Nat} (ha : a < (walkRanges c (c.angles.map b.period)).length) :
      (walkRanges c (c.angles.map b.period))[a] = (lo a, hi a) := getElem_walkRanges_angles ha
  have hlen : (walkRanges c (c.angles.map b.period)).length = c.angles.length := by
    rw [length_walkRanges, List.length_map]
  have htotal : (startWalk id c b).2 = total := startWalk_total
  refine ⟨fun hclosed => takeRequest_refused htake ((onClipNo_of_some _ hid hcb).trans (if_pos hclosed)),
    fun hclosed hwalk => takeRequest_refused htake ((onClipNo_of_some _ hid hcb).trans ?_),
    fun a hclosed hwalk ha hkeys hskip => ?_, fun hclosed hwalk hskip => ?_⟩
  · rw [if_neg (not_not_intro hclosed)]
    exact if_pos (Option.isSome_iff_ne_none.mpr hwalk)
  · intro s2
    have hnext : nextAngle (walkRanges c (c.angles.map b.period)) 0 = some (a, lo a, hi a) := by
      refine (nextAngle_some (hlen.symm ▸ ha) (Nat.zero_le a) ?_ fun m hm _ hma => ?_).trans ?_
      · rw [hrange]; exact hkeys
      · rw [hrange]; exact hskip m hma
      · rw [hrange]
    have hwalk := takeRequest_answered htake (kind := 15) (protectClip_taken (s := b) hid hcb hclosed hwalk)
    refine hwalk.trans ?_
    dsimp only
    rw [htotal, startWalk_some hcb hnext]
    refine congrArg (fun t => Host.Outcome.next (queueReply o 15 .accepted (be 2 id ++ be 4 total) t)) ?_
    by_cases hwith : s.engine.withdrawn = true
    · refine (if_pos hwith).trans (Eq.trans ?_ (if_pos hwith).symm)
      exact congrArg (fun l => s1.onEngine fun e =>
        { e with walk := some ⟨id, a, lo a, hi a, 0, c.angles.map s.period⟩, lookup := l }) (if_pos hwith).symm
    · have hpending : (if s.engine.withdrawn = true then LookupState.deferred else .pending) = .pending := if_neg hwith
      refine (if_neg hwith).trans (Eq.trans ?_ (if_neg hwith).symm)
      exact congrArg (fun l => (s1.onEngine fun e =>
        { e with walk := some ⟨id, a, lo a, hi a, 0, c.angles.map s.period⟩, lookup := l }).onStore
          (Store.enqueue (.lookup (c.angles.getD a 0) (lo a)))) hpending.symm
  · have hnext : nextAngle (walkRanges c (c.angles.map b.period)) 0 = none :=
      nextAngle_none fun m hm _ => by rw [hrange]; exact hskip m (hlen ▸ hm)
    have hnone : total = 0 := Finset.sum_eq_zero fun n hn => by
      have := hskip n (Finset.mem_range.mp hn)
      omega
    refine (takeRequest_answered htake (kind := 15) (protectClip_taken (s := b) hid hcb hclosed hwalk)).trans ?_
    dsimp only
    rw [htotal, hnone, startWalk_none hcb hnext]
    refine congrArg (fun e => Host.Outcome.next (queueReply o 15 .accepted (be 2 id ++ be 4 0)
      (raise s.houseTime (.protectDone id .ok 0 0 none)
        { b with clips := s.clips.insert id { c with state := .protected_, protection := some empty }, engine := e }))) ?_
    exact congrArg (fun x => ({ s.engine with walk := x, lookup := .none } : Engine)) hwalk.symm

/-- Settles O30: by the state of the clip. -/
theorem releaseClip : Obligations.ReleaseClip := by
  intro o id s htake b
  refine ⟨fun hid => takeRequest_refused htake (onClipNo_of_le _ hid),
    fun hid hc => takeRequest_refused htake (onClipNo_of_none (s := b) _ hid hc), ?_⟩
  intro c hid hc
  have hcb : b.clip id = some c := hc
  refine ⟨fun hno hno' => takeRequest_refused htake ((onClipNo_of_some _ hid hcb).trans ?_),
    fun hst hu => takeRequest_refused htake ((onClipNo_of_some _ hid hcb).trans (if_pos ⟨hu, hst⟩)),
    fun p hu hp => ?_⟩
  · rw [if_neg fun h => h.2.elim hno hno']
    split
    · exact absurd ‹_› hno'
    · exact absurd ‹_› hno
    · rfl
  · intro closed
    refine ⟨fun hst => ?_, fun w hst hw hid' => ?_⟩
    · refine takeRequest_accepted htake ((releaseClip_protected hid hcb hu hst hp).trans (congrArg (accept _) ?_))
      exact State.onClip_of_some ((clip_of_clips (releaseHolds_clips _ _) _).trans hcb) _
    · intro b1
      subst hid'
      have hrun : Machine.releaseClip w.clip b = stopWalk w b := releaseClip_protecting hid hcb hu hst hw
      have hb1 : stopLookup b = b1 := stopLookup_eq b
      have hclip : (stopLookup b).clip w.clip = some c := (clip_of_clips (stopLookup_clips b) _).trans hcb
      refine takeRequest_accepted htake (hrun.trans ?_)
      unfold stopWalk
      rw [hcb]
      dsimp only [Option.bind_some]
      rw [hp]
      dsimp only [Option.elim_some]
      refine congrArg (accept _) ((unwindWalk_of_some hclip hp _ _ _).trans ?_)
      rw [stopLookup_houseTime, hb1, List.append_nil]
      unfold walkUnwound
      dsimp only [closed]
      generalize releaseHolds p.slots b1 = u
      rfl

end Sys2Proof.Proofs
end

section
/-! PROOFS. Fetch completions (R51, R161, R162). -/

namespace Sys2Proof.Machine

section
variable {s : State} {ch : Fin 4}

theorem exec_fetchCompletion {slot gen : Nat} {role : Role} {cur sup : Bool} (error : Bool)
    (h : s.store.service = some (.fetch ch slot gen role cur sup)) :
    exec (.fetchCompletion error) s = .next (fetchDone ch slot gen role cur sup error s) := by
  show execFetchCompletion error s = _
  rw [execFetchCompletion, h]

/-- With nothing in service the frame awaits the waiting fetches alone. -/
theorem Store.awaits_of_idle {st : Store} (h : st.service = none) (ch : Fin 4) :
    st.awaits ch = st.queue.any (ReadEntry.currentOf ch) := by
  rw [Store.awaits, Store.inFlight, h]
  rfl

theorem Prepared.ready_eq (role : Role) (bands : Bands) : Prepared.ready role bands = fun p =>
    match role with
    | .earlier => { p with earlier := some bands }
    | .later => { p with later := some bands } := by
  funext p
  cases role <;> rfl

theorem fetchDone_dropped {cur sup : Bool} (slot gen : Nat) (role : Role) (error : Bool) (h : ¬(cur = true ∧ sup = false)) :
    fetchDone ch slot gen role cur sup error s =
      (s.onStore fun st => { st with service := none, errors := if error then bump st.errors else st.errors }).onStore
        Store.serve := by
  have hb : ¬(cur && !sup) = true := by simpa using h
  unfold fetchDone
  dsimp only
  rw [if_neg hb]

theorem fetchDone_current (slot gen : Nat) (role : Role) (error : Bool) :
    fetchDone ch slot gen role true false error s =
      (completeFetch ch slot gen role error
        (s.onStore fun st => { st with service := none, errors := if error then bump st.errors else st.errors })).onStore
        Store.serve := rfl

theorem completeFetch_eq (slot gen : Nat) (role : Role) (error : Bool) (h : s.store.service = none) :
    completeFetch ch slot gen role error s =
      let s1 :=
        if error then s.onChannel ch fun c => { c with warnings := { c.warnings with storeError := true } }
        else if (s.store.slot slot).generation = gen then
          s.onChannel ch fun c =>
            { c with mixer := { c.mixer with
              prepared := c.mixer.prepared.map (Prepared.ready role (s.store.slotBands slot)) } }
        else s
      settleFault ch s.houseTime
        (if s.store.queue.any (ReadEntry.currentOf ch) = true then s1 else s1.onChannel ch Channel.finishFrame) := by
  rw [← Store.awaits_of_idle h]
  unfold completeFetch
  cases error with
  | true => rfl
  | false =>
    by_cases hgen : (s.store.slot slot).generation = gen
    · simp only [hgen, Bool.false_eq_true, if_false, if_true]
      rfl
    · simp only [hgen, Bool.false_eq_true, if_false]

end

section
variable {c : Channel} {p : Prepared}

theorem finishFrame_found (hp : c.mixer.prepared = some p) {k : PreparedKind} {f : Option Bands}
    (h : p.finish = { p with kind := k, picture := f }) (hk : k ≠ .again) :
    c.finishFrame = { c with mixer := { c.mixer with prepared := some { p with kind := k, picture := f } } } := by
  unfold Channel.finishFrame
  rw [hp]
  dsimp only
  rw [h]
  exact if_neg hk

theorem finishFrame_gap (hp : c.mixer.prepared = some p) (h : p.finish = { p with kind := .again, picture := none }) :
    c.finishFrame = { c with warnings := { c.warnings with gap := true },
                             mixer := { c.mixer with prepared := some { p with kind := .again, picture := none } } } := by
  unfold Channel.finishFrame
  rw [hp]
  dsimp only
  rw [h]
  rfl

/-- The substitution table of R124 on the sources ready (R162). -/
theorem Prepared.finish_cases (p : Prepared) :
    (∀ w a b, p.kind = .blend w → p.earlier = some a → p.later = some b →
      p.finish = { p with kind := .blend w, picture := some (mixFrames w a b) }) ∧
    (∀ a, p.earlier = some a → p.later = none → p.finish = { p with kind := .alone, picture := some a }) ∧
    (∀ b, p.earlier = none → p.later = some b → p.finish = { p with kind := .alone, picture := some b }) ∧
    (p.earlier = none → p.later = none → p.finish = { p with kind := .again, picture := none }) := by
  unfold Prepared.finish
  refine ⟨fun w a b hk ha hb => ?_, fun a ha hb => ?_, fun b ha hb => ?_, fun ha hb => ?_⟩
  · rw [hk, ha, hb]
  all_goals
    rw [ha, hb]
    cases p.kind <;> rfl

end

end Sys2Proof.Machine

namespace Sys2Proof.Proofs
open Sys2Proof.Machine

/-- Settles O26: a completion by the state of its fetch, and the last one by the sources ready. -/
theorem fetchCompletion : Obligations.FetchCompletion := by
  refine ⟨fun error s hno => ?_, fun error s ch x g role cur sup h => ?_, fun c p hp => ?_⟩
  · show execFetchCompletion error s = _
    unfold execFetchCompletion
    split
    · exact absurd ‹_› (hno _ _ _ _ _ _)
    · rfl
  · intro s1 bands s2 s3
    refine (exec_fetchCompletion error h).trans (congrArg Host.Outcome.next ?_)
    by_cases hcur : cur = true ∧ sup = false
    · obtain ⟨rfl, rfl⟩ := hcur
      rw [fetchDone_current, completeFetch_eq x g role error rfl, Prepared.ready_eq]
      exact congrArg (State.onStore Store.serve) (if_pos (c := true = true ∧ false = false) ⟨rfl, rfl⟩).symm
    · rw [fetchDone_dropped x g role error hcur, if_neg hcur]
  · intro done
    obtain ⟨hblend, hearlier, hlater, hnone⟩ := p.finish_cases
    exact ⟨fun w a b hk ha hb => finishFrame_found hp (hblend w a b hk ha hb) nofun,
      fun a ha hb => finishFrame_found hp (hearlier a ha hb) nofun,
      fun b ha hb => finishFrame_found hp (hlater b ha hb) nofun,
      fun ha hb => finishFrame_gap hp (hnone ha hb)⟩

end Sys2Proof.Proofs
end

section
/-! PROOFS. The three marks, the clips they create and recycle, and the mark latches (R56, R60 to R67, R73 to R75). -/

namespace Sys2Proof.Machine

/-! ## Room in the Clip Table (R56, R67) -/

/-- A table with fewer than 512 clips, their ids below 512, has a free id. -/
theorem lowestFree_of_room {t : Table Clip} (hroom : t.length < 512) : ∃ id, lowestFree t = some id := by
  by_contra hno
  have hnone : lowestFree t = none := Option.eq_none_iff_forall_ne_some.mpr fun id h => hno ⟨id, h⟩
  have hall : List.range 512 ⊆ t.map Prod.fst := fun n hn => by
    have := List.find?_eq_none.mp hnone n hn
    have hheld : t.find n ≠ none := fun h => this (by rw [h]; rfl)
    obtain ⟨c, hc⟩ := Option.ne_none_iff_exists'.mp hheld
    exact List.mem_map_of_mem (Table.mem_of_find hc)
  have hle := (List.nodup_range.subperm hall).length_le
  rw [List.length_range, List.length_map] at hle
  omega

/-- A table with 512 clips, their ids below 512, holds every id. -/
theorem find_of_full {t : Table Clip} (hwf : t.wf) (hids : ∀ e ∈ t, e.1 < 512) (hfull : 512 ≤ t.length) {n : Nat}
    (hn : n < 512) : t.find n ≠ none := by
  intro hnone
  have hnodup : (t.map Prod.fst).Nodup := hwf.imp Nat.ne_of_lt
  have hsub : t.map Prod.fst ⊆ (List.range 512).erase n := fun k hk => by
    obtain ⟨e, he, rfl⟩ := List.mem_map.mp hk
    rw [List.nodup_range.mem_erase_iff]
    refine ⟨fun h => ?_, List.mem_range.mpr (hids e he)⟩
    have hfind : t.find e.1 = some e.2 := Table.find_of_mem hwf he
    rw [h, hnone] at hfind
    cases hfind
  have hle := (hnodup.subperm hsub).length_le
  rw [List.length_map, List.length_erase_of_mem (List.mem_range.mpr hn), List.length_range] at hle
  omega

theorem lowestFree_erase {t : Table Clip} {id : Nat} (hid : id < 512) (hall : ∀ n < 512, t.find n ≠ none) :
    lowestFree (t.erase id) = some id := by
  have hfree {n : Nat} (hn : n < 512) : (t.erase id).find n = none ↔ n = id := by
    rw [Table.find_erase]
    split
    · simp [*]
    · simp [*]
  obtain ⟨k, hk⟩ : ∃ k, lowestFree (t.erase id) = some k := by
    refine Option.isSome_iff_exists.mp (List.find?_isSome.mpr ⟨id, List.mem_range.mpr hid, ?_⟩)
    rw [(hfree hid).mpr rfl]
    rfl
  obtain ⟨hlt, hnone, -⟩ := lowestFree_some hk
  rw [hk, (hfree hlt).mp hnone]

/-- A search through an ordered list finds the member that has the property and comes before the others that do. -/
theorem find?_of_pairwise {α : Type} {R : α → α → Prop} (hasymm : ∀ a b, R a b → ¬R b a) {l : List α} (hl : l.Pairwise R)
    {p : α → Bool} {x : α} (hx : x ∈ l) (hp : p x = true) (hfirst : ∀ e ∈ l, p e = true → e = x ∨ R x e) :
    l.find? p = some x := by
  induction l with
  | nil => cases hx
  | cons a l ih =>
    obtain ⟨ha, hl⟩ := List.pairwise_cons.mp hl
    by_cases hpa : p a = true
    · rw [List.find?_cons_of_pos hpa]
      obtain rfl | hR := hfirst a List.mem_cons_self hpa
      · rfl
      · obtain rfl | hx := List.mem_cons.mp hx
        · exact absurd hR (hasymm _ _ hR)
        · exact absurd hR (hasymm _ _ (ha x hx))
    · rw [List.find?_cons_of_neg hpa]
      obtain rfl | hx := List.mem_cons.mp hx
      · exact absurd hp hpa
      · exact ih hl hx fun e he => hfirst e (List.mem_cons_of_mem _ he)

theorem ClipOrder.asymm (a b : Nat × Clip) (h : ClipOrder a b) : ¬ClipOrder b a := by
  unfold ClipOrder at *
  omega

theorem recyclable_iff (s : State) (c : Clip) : recyclable s c = true ↔ c.state = .closed ∧ c.useCount = 0 ∧
    ∀ i ∈ c.angles, ∃ out start, c.outPoint = some out ∧ s.recallStart i = some start ∧ out < start := by
  have hangle (i : Fin 8) : (match c.outPoint, s.recallStart i with
      | some out, some start => decide (out < start)
      | _, _ => false) = true ↔ ∃ out start, c.outPoint = some out ∧ s.recallStart i = some start ∧ out < start := by
    cases c.outPoint <;> cases s.recallStart i <;> simp
  unfold recyclable
  rw [Bool.and_eq_true, decide_eq_true_eq, List.all_eq_true, and_assoc]
  exact and_congr_right fun _ => and_congr_right fun _ => forall₂_congr fun i _ => hangle i

section
variable {g : Fin 4} {st : ClipState} {tin : Nat} {tout : Option Nat} {s : State}

theorem createClip_of_room {s1 : State} {id : Nat} (hroom : makeRoom g s = .ok s1) (hid : lowestFree s1.clips = some id) :
    createClip g st tin tout s = .ok (id,
      { group := g, state := st, inPoint := tin, outPoint := tout, angles := (s1.group g).angles },
      { s1 with
        clips := s1.clips.insert id
          { group := g, state := st, inPoint := tin, outPoint := tout, angles := (s1.group g).angles } }) := by
  unfold createClip
  rw [hroom]
  dsimp only
  rw [hid]

theorem createClip_full (hroom : makeRoom g s = .error .tableFull) : createClip g st tin tout s = .error .tableFull := by
  unfold createClip
  rw [hroom]

theorem makeRoom_of_lt (h : s.clips.length < 512) : makeRoom g s = .ok s := if_pos h

theorem makeRoom_none (hfull : 512 ≤ s.clips.length) (hrecycle : (s.group g).recycle = true)
    (hfind : ((clipList s.clips).find? fun e => recyclable s e.2) = none) : makeRoom g s = .error .tableFull := by
  unfold makeRoom
  rw [if_neg (show ¬s.clips.length < maxClips from Nat.not_lt.mpr hfull), hrecycle, hfind]
  exact if_neg Bool.false_ne_true

theorem makeRoom_some {id : Nat} {k : Clip} (hfull : 512 ≤ s.clips.length) (hrecycle : (s.group g).recycle = true)
    (hfind : ((clipList s.clips).find? fun e => recyclable s e.2) = some (id, k)) : makeRoom g s =
      .ok (raise s.houseTime (.clipDropped id k.group k.inPoint k.outPoint .recycled)
        { s with clips := s.clips.erase id }) := by
  unfold makeRoom
  rw [if_neg (show ¬s.clips.length < maxClips from Nat.not_lt.mpr hfull), hrecycle, hfind]
  exact if_neg Bool.false_ne_true

theorem makeRoom_noRecycling (hfull : 512 ≤ s.clips.length) (hrecycle : (s.group g).recycle = false) :
    makeRoom g s = .error .tableFull := by
  unfold makeRoom
  rw [if_neg (show ¬s.clips.length < maxClips from Nat.not_lt.mpr hfull), hrecycle]
  exact if_pos rfl

end

end Sys2Proof.Machine

namespace Sys2Proof.Proofs
open Sys2Proof.Machine

/-- Settles O32: the room the table has decides which id the clip takes. -/
theorem newClipTakesLowestId : Obligations.NewClipTakesLowestId := by
  intro g st tin tout s hwf hids c
  refine ⟨fun hroom => ?_, fun hfull hrec => createClip_full (makeRoom_noRecycling hfull hrec), fun hfull hrec hno => ?_,
    fun id k hfull hrec hk hok hfirst => ?_, recyclable_iff s⟩
  · obtain ⟨id, hid⟩ := lowestFree_of_room hroom
    obtain ⟨hlt, hnone, hleast⟩ := lowestFree_some hid
    exact ⟨id, hlt, hnone, hleast, createClip_of_room (makeRoom_of_lt hroom) hid⟩
  · refine createClip_full (makeRoom_none hfull hrec (List.find?_eq_none.mpr fun e he => ?_))
    rw [hno e ((clipList_perm s.clips).mem_iff.mp he)]
    exact Bool.false_ne_true
  · have hmem : (id, k) ∈ s.clips := Table.mem_of_find hk
    have hfind : ((clipList s.clips).find? fun e => recyclable s e.2) = some (id, k) :=
      find?_of_pairwise ClipOrder.asymm (clipList_pairwise hwf) ((clipList_perm s.clips).mem_iff.mpr hmem) hok
        fun e he => hfirst e ((clipList_perm s.clips).mem_iff.mp he)
    refine (createClip_of_room (makeRoom_some hfull hrec hfind) ?_).trans rfl
    exact lowestFree_erase (hids _ hmem) fun n hn => find_of_full hwf hids hfull hn

end Sys2Proof.Proofs
end

section
/-! PROOFS. The three marks and the mark latches (R60 to R65, R73 to R75). -/

namespace Sys2Proof.Machine

/-! ## A mark by its kind -/

/-- The mark's own rule (R61 to R64). -/
def markRun (k : MarkKind) (g : Fin 4) (t : Nat) (s : State) : Except Status Marked :=
  match k with
  | .markIn => markIn g t s
  | .markOut => markOut g t s
  | .markSpot => markSpot g t s

section
variable {k : MarkKind} {g : Fin 4} {t : Nat} {line : Option (Fin 8)} {s : State}

theorem performMark_beyond (h : 2 ^ 52 ≤ t) : performMark k g t line s = .error .badArgument :=
  if_pos (show maxGrain < t from h)

theorem performMark_unlocked (ht : ¬2 ^ 52 ≤ t) (h : s.timer.state = .unlocked) :
    performMark k g t line s = .error .noReference :=
  (if_neg (show ¬maxGrain < t from ht)).trans (if_pos h)

theorem performMark_run (ht : ¬2 ^ 52 ≤ t) (h : s.timer.state ≠ .unlocked) :
    performMark k g t line s =
      match markRun k g t s with
      | .error e => .error e
      | .ok m => .ok { m with
          state := raise s.houseTime
            (.clipMarked m.id g m.result m.clip.state m.clip.inPoint m.clip.outPoint line) m.state } := by
  unfold performMark
  rw [if_neg (show ¬maxGrain < t from ht), if_neg h]
  cases k <;> rfl

theorem performMark_error {e : Status} (ht : ¬2 ^ 52 ≤ t) (h : s.timer.state ≠ .unlocked) (hrun : markRun k g t s = .error e) :
    performMark k g t line s = .error e := by
  rw [performMark_run ht h, hrun]

theorem performMark_ok {m : Marked} (ht : ¬2 ^ 52 ≤ t) (h : s.timer.state ≠ .unlocked) (hrun : markRun k g t s = .ok m) :
    performMark k g t line s = .ok { m with
      state := raise s.houseTime
        (.clipMarked m.id g m.result m.clip.state m.clip.inPoint m.clip.outPoint line) m.state } := by
  rw [performMark_run ht h, hrun]

/-- A mark request at a time, or at now (R60). -/
theorem markRequest_val {time : MarkTime} (ht : time = .now ∧ t = s.houseTime ∨ time = .explicit t) :
    markRequest k g.val time s = answerMark (performMark k g t none s) s := by
  unfold markRequest
  rw [recordNo_val]
  obtain ⟨rfl, rfl⟩ | rfl := ht <;> rfl

theorem markRequest_of_le {n : Nat} {time : MarkTime} (h : 4 ≤ n) : markRequest k n time s = refuse .badArgument s := by
  unfold markRequest
  rw [recordNo_of_le h]

/-- A created clip has the state and the points it was created with. -/
theorem createClip_fields {st : ClipState} {tin id : Nat} {tout : Option Nat} {c : Clip} {u : State}
    (h : createClip g st tin tout s = .ok (id, c, u)) : c.state = st ∧ c.inPoint = tin ∧ c.outPoint = tout := by
  obtain ⟨_, _, _, _, rfl⟩ := createClip_ok h
  exact ⟨rfl, rfl, rfl⟩

end

theorem closedBy_eq (out now : Nat) : closedBy out now = if out ≤ now then .closed else .closing := rfl

/-! ## The marks by the group's open clip -/

section
variable {g : Fin 4} {t id : Nat} {c : Clip} {s u : State} {e : Status}

theorem markIn_later (h : s.houseTime < t) : markIn g t s = .error .badArgument := if_pos h

theorem markIn_open (ht : ¬s.houseTime < t) (h : openClipOf g s = some (id, c)) : markIn g t s =
    .ok ⟨id, { c with inPoint := t }, .remarked, { s with clips := s.clips.insert id { c with inPoint := t } }⟩ := by
  rw [markIn, if_neg ht, h]

theorem markIn_refused (ht : ¬s.houseTime < t) (h : openClipOf g s = none) (hnew : createClip g .opened t none s = .error e) :
    markIn g t s = .error e := by
  rw [markIn, if_neg ht, h]
  dsimp only
  rw [hnew]

theorem markIn_created (ht : ¬s.houseTime < t) (h : openClipOf g s = none)
    (hnew : createClip g .opened t none s = .ok (id, c, u)) :
    markIn g t s = .ok ⟨id, c, .opened, u.onGroup g fun r => { r with openClip := some id }⟩ := by
  rw [markIn, if_neg ht, h]
  dsimp only
  rw [hnew]

theorem markOut_openBad (h : openClipOf g s = some (id, c)) (hbad : t ≤ c.inPoint ∨ 2 ^ 31 < t - c.inPoint) :
    markOut g t s = .error .badArgument := by
  rw [markOut, h]
  exact if_pos hbad

theorem markOut_open (h : openClipOf g s = some (id, c)) (hok : ¬(t ≤ c.inPoint ∨ 2 ^ 31 < t - c.inPoint)) :
    markOut g t s = .ok ⟨id, { c with outPoint := some t, state := closedBy t s.houseTime }, .closedOut,
      ({ s with clips := s.clips.insert id { c with outPoint := some t, state := closedBy t s.houseTime } } : State).onGroup g
        fun r => { r with openClip := none }⟩ := by
  rw [markOut, h]
  exact if_neg hok

theorem markOut_bad (h : openClipOf g s = none) (hbad : t ≤ t - (s.group g).defaultLength * 2880) :
    markOut g t s = .error .badArgument := by
  rw [markOut, h]
  exact if_pos hbad

theorem markOut_refused (h : openClipOf g s = none) (hok : ¬t ≤ t - (s.group g).defaultLength * 2880)
    (hnew : createClip g (closedBy t s.houseTime) (t - (s.group g).defaultLength * 2880) (some t) s = .error e) :
    markOut g t s = .error e := by
  rw [markOut, h]
  dsimp only
  rw [if_neg hok, hnew]

theorem markOut_created (h : openClipOf g s = none) (hok : ¬t ≤ t - (s.group g).defaultLength * 2880)
    (hnew : createClip g (closedBy t s.houseTime) (t - (s.group g).defaultLength * 2880) (some t) s = .ok (id, c, u)) :
    markOut g t s = .ok ⟨id, c, .createdOut, u⟩ := by
  rw [markOut, h]
  dsimp only
  rw [if_neg hok, hnew]

/-- The out-point of a spot mark (R64). -/
def MarkGroup.spotOut (r : MarkGroup) (t : Nat) : Nat := if r.postRoll = 0 then t + 1 else t + r.postRoll * 2880

theorem markSpot_bad (h : 2 ^ 52 ≤ (s.group g).spotOut t) : markSpot g t s = .error .badArgument :=
  if_pos (show maxGrain < (s.group g).spotOut t from h)

theorem markSpot_run (h : ¬2 ^ 52 ≤ (s.group g).spotOut t) : markSpot g t s =
    match createClip g (closedBy ((s.group g).spotOut t) s.houseTime) (t - (s.group g).preRoll * 2880)
      (some ((s.group g).spotOut t)) s with
    | .error e => .error e
    | .ok (id, c, s1) => .ok ⟨id, c, .createdSpot, s1⟩ :=
  if_neg (show ¬maxGrain < (s.group g).spotOut t from h)

theorem markSpot_refused (h : ¬2 ^ 52 ≤ (s.group g).spotOut t)
    (hnew : createClip g (closedBy ((s.group g).spotOut t) s.houseTime) (t - (s.group g).preRoll * 2880)
      (some ((s.group g).spotOut t)) s = .error e) : markSpot g t s = .error e := by
  rw [markSpot_run h, hnew]

theorem markSpot_created (h : ¬2 ^ 52 ≤ (s.group g).spotOut t)
    (hnew : createClip g (closedBy ((s.group g).spotOut t) s.houseTime) (t - (s.group g).preRoll * 2880)
      (some ((s.group g).spotOut t)) s = .ok (id, c, u)) : markSpot g t s = .ok ⟨id, c, .createdSpot, u⟩ := by
  rw [markSpot_run h, hnew]

end

/-- The results of a mark by the state and points of its clip. -/
theorem Marked.results_eq (m : Marked) : m.results =
    be 2 m.id ++ be 1 m.clip.state.code ++ be 7 m.clip.inPoint ++ m.clip.outPoint.elim [] (be 7) ++ be 1 m.result.code := by
  unfold Marked.results
  cases m.clip.outPoint <;> rfl

/-! ## The mark latches (R73 to R75) -/

theorem TakeAction.ofCode_none {n : Nat} (h : n < 1 ∨ 4 < n) : TakeAction.ofCode n = none := by
  unfold TakeAction.ofCode
  split
  · omega
  · omega
  · omega
  · omega
  · rfl

section
variable {n : Fin 8} {s : State}

theorem takeLatch_none {line action group : Nat} (h : 8 ≤ line ∨ action < 1 ∨ 4 < action ∨ 4 ≤ group) (s : State) :
    takeLatch line action group s = refuse .badArgument s := by
  have hnone : recordNo 8 line = none ∨ TakeAction.ofCode action = none ∨ recordNo 4 group = none := by
    obtain h | h | h | h := h
    · exact .inl (recordNo_of_le h)
    · exact .inr (.inl (TakeAction.ofCode_none (.inl h)))
    · exact .inr (.inl (TakeAction.ofCode_none (.inr h)))
    · exact .inr (.inr (recordNo_of_le h))
  unfold takeLatch
  split
  · rename_i h1 h2 h3
    rw [h1, h2, h3] at hnone
    obtain h | h | h := hnone <;> cases h
  · rfl

theorem takeLatch_empty {a : Nat} {action : TakeAction} {g : Fin 4} (ha : TakeAction.ofCode a = some action)
    (h : (s.latch n).captured = none) : takeLatch n.val a g.val s = refuse .notFound s := by
  unfold takeLatch
  rw [recordNo_val, ha, recordNo_val]
  dsimp only
  rw [h]

theorem takeLatch_full {a t : Nat} {action : TakeAction} {g : Fin 4} (ha : TakeAction.ofCode a = some action)
    (h : (s.latch n).captured = some t) : takeLatch n.val a g.val s = takeCaptured n action g t s := by
  unfold takeLatch
  rw [recordNo_val, ha, recordNo_val]
  dsimp only
  rw [h]

/-- The house time an edge captures at an empty latch (R74). -/
def State.capture (n : Fin 8) (s : State) : State := s.onLatch n fun t => { t with captured := some s.houseTime }

theorem latchEdge_overrun (h : (s.latch n).captured ≠ none) :
    latchEdge n s = s.onLatch n fun t => { t with overrun := bump t.overrun } :=
  if_pos (Option.isSome_iff_ne_none.mpr h)

theorem latchEdge_ignored (h : (s.latch n).captured = none) (hlocked : s.timer.state = .unlocked) :
    latchEdge n s = s.onLatch n fun t => { t with ignored := bump t.ignored } := by
  unfold latchEdge
  dsimp only
  rw [h]
  exact (if_neg Bool.false_ne_true).trans (if_pos hlocked)

theorem latchEdge_kind (h : (s.latch n).captured = none) (hlocked : s.timer.state ≠ .unlocked) : latchEdge n s =
    match (s.line n).markAction.kind with
    | none => raise s.houseTime (.markCaptured n (s.line n).markGroup s.houseTime) (s.capture n)
    | some k =>
      match performMark k (s.line n).markGroup s.houseTime (some n) (s.capture n) with
      | .ok m => m.state.onLatch n fun t => { t with captured := none }
      | .error e =>
        raise s.houseTime (.markFailed n (s.line n).markAction (s.line n).markGroup s.houseTime e) (s.capture n) := by
  unfold latchEdge
  dsimp only
  rw [h]
  exact (if_neg Bool.false_ne_true).trans (if_neg hlocked)

theorem latchEdge_captured (h : (s.latch n).captured = none) (hlocked : s.timer.state ≠ .unlocked)
    (hkind : (s.line n).markAction.kind = none) :
    latchEdge n s = raise s.houseTime (.markCaptured n (s.line n).markGroup s.houseTime) (s.capture n) := by
  rw [latchEdge_kind h hlocked, hkind]

section
variable {k : MarkKind} (h : (s.latch n).captured = none) (hlocked : s.timer.state ≠ .unlocked)
  (hkind : (s.line n).markAction.kind = some k)
include h hlocked hkind

theorem latchEdge_made {m : Marked} (hm : performMark k (s.line n).markGroup s.houseTime (some n) (s.capture n) = .ok m) :
    latchEdge n s = m.state.onLatch n fun t => { t with captured := none } := by
  rw [latchEdge_kind h hlocked, hkind]
  dsimp only
  rw [hm]

theorem latchEdge_failed {e : Status} (hm : performMark k (s.line n).markGroup s.houseTime (some n) (s.capture n) = .error e) :
    latchEdge n s =
      raise s.houseTime (.markFailed n (s.line n).markAction (s.line n).markGroup s.houseTime e) (s.capture n) := by
  rw [latchEdge_kind h hlocked, hkind]
  dsimp only
  rw [hm]

end

end

end Sys2Proof.Machine

namespace Sys2Proof.Proofs
open Sys2Proof.Machine

/-- Settles O33: each mark by its checks in order, then by the group's open clip. -/
theorem marks : Obligations.Marks := by
  intro o s htake b now
  refine ⟨fun g time hg => ⟨takeRequest_refused htake (markRequest_of_le hg), takeRequest_refused htake (markRequest_of_le hg),
    takeRequest_refused htake (markRequest_of_le hg)⟩, fun g time t ht => ?_⟩
  have hopen : ((s.group g).openClip.bind fun id => (s.clip id).map fun c => (id, c)) = openClipOf g b := rfl
  rw [hopen]
  have hexec (k : MarkKind) (kind : Nat) : takeRequest o kind (markRequest k g.val time) s =
      (answerMark (performMark k g t none b) b).reply o kind := by
    rw [takeRequest_reply htake, ← markRequest_val (s := b) (k := k) (g := g) ht]
  have hmade (k : MarkKind) (kind : Nat) (hgrain : ¬2 ^ 52 ≤ t) (hlocked : ¬s.timer.state = .unlocked) {m : Marked}
      (hrun : markRun k g t b = .ok m) : (answerMark (performMark k g t none b) b).reply o kind =
        .next (queueReply o kind .ok m.results
          (raise now (.clipMarked m.id g m.result m.clip.state m.clip.inPoint m.clip.outPoint none) m.state)) := by
    rw [performMark_ok (s := b) hgrain hlocked hrun]
    rfl
  have hearly (k : MarkKind) (kind : Nat) {e : Status} (h : performMark k g t none b = .error e) :
      (answerMark (performMark k g t none b) b).reply o kind = .next (s.refused o kind e) := by
    rw [h]
    rfl
  have hfailed (k : MarkKind) (kind : Nat) (hgrain : ¬2 ^ 52 ≤ t) (hlocked : ¬s.timer.state = .unlocked) {e : Status}
      (hrun : markRun k g t b = .error e) : (answerMark (performMark k g t none b) b).reply o kind =
        .next (s.refused o kind e) :=
    hearly k kind (performMark_error hgrain hlocked hrun)
  refine ⟨(hexec .markIn 7).trans ?_, ?_⟩
  · split
    · exact hearly .markIn 7 (performMark_beyond ‹_›)
    rename_i hgrain
    split
    · exact hearly .markIn 7 (performMark_unlocked hgrain ‹_›)
    rename_i hlocked
    split
    · exact hfailed .markIn 7 hgrain hlocked (markIn_later (s := b) ‹_›)
    rename_i hnow
    rcases hc : openClipOf g b with _ | ⟨id, c⟩
    · dsimp only
      rcases hnew : createClip g .opened t none b with e | ⟨id, c, u⟩
      · exact hfailed .markIn 7 hgrain hlocked (markIn_refused (s := b) hnow hc hnew)
      · obtain ⟨hst, hin, hout⟩ := createClip_fields hnew
        refine (hmade .markIn 7 hgrain hlocked (markIn_created (s := b) hnow hc hnew)).trans ?_
        rw [Marked.results_eq]
        dsimp only
        rw [hst, hin, hout]
        simp only [Option.elim_none, List.append_nil]
        rfl
    · refine (hmade .markIn 7 hgrain hlocked (markIn_open (s := b) hnow hc)).trans ?_
      rw [Marked.results_eq]
      rfl
  · refine ⟨?_, ?_⟩
    · intro st tin
      refine (hexec .markOut 8).trans ?_
      split
      · exact hearly .markOut 8 (performMark_beyond ‹_›)
      rename_i hgrain
      split
      · exact hearly .markOut 8 (performMark_unlocked hgrain ‹_›)
      rename_i hlocked
      rcases hc : openClipOf g b with _ | ⟨id, c⟩
      · dsimp only
        split
        · exact hfailed .markOut 8 hgrain hlocked (markOut_bad (s := b) hc ‹_›)
        rename_i hok
        rcases hnew : createClip g st tin (some t) b with e | ⟨id, c, u⟩
        · exact hfailed .markOut 8 hgrain hlocked (markOut_refused (s := b) hc hok hnew)
        · obtain ⟨hst, hin, hout⟩ := createClip_fields hnew
          refine (hmade .markOut 8 hgrain hlocked (markOut_created (s := b) hc hok hnew)).trans ?_
          rw [Marked.results_eq]
          dsimp only
          rw [hst, hin, hout]
          rfl
      · dsimp only
        split
        · exact hfailed .markOut 8 hgrain hlocked (markOut_openBad (s := b) hc ‹_›)
        rename_i hok
        refine (hmade .markOut 8 hgrain hlocked (markOut_open (s := b) hc hok)).trans ?_
        rw [Marked.results_eq]
        rfl
    · intro m tin tout st
      refine (hexec .markSpot 9).trans ?_
      split
      · exact hearly .markSpot 9 (performMark_beyond ‹_›)
      rename_i hgrain
      split
      · exact hearly .markSpot 9 (performMark_unlocked hgrain ‹_›)
      rename_i hlocked
      split
      · exact hfailed .markSpot 9 hgrain hlocked (markSpot_bad (s := b) ‹_›)
      rename_i hok
      rcases hnew : createClip g st tin (some tout) b with e | ⟨id, c, u⟩
      · exact hfailed .markSpot 9 hgrain hlocked (markSpot_refused (s := b) hok hnew)
      · obtain ⟨hst, hin, hout⟩ := createClip_fields hnew
        refine (hmade .markSpot 9 hgrain hlocked (markSpot_created (s := b) hok hnew)).trans ?_
        rw [Marked.results_eq]
        dsimp only
        rw [hst, hin, hout]
        rfl

/-- Settles O34: TAKE LATCH by its action, and the edge by the latch, the timer and the automatic action. -/
theorem markLatches : Obligations.MarkLatches := by
  refine ⟨?_, ?_⟩
  · intro o s htake b
    refine ⟨fun n a g hbad => takeRequest_refused htake (takeLatch_none hbad _), fun n g => ?_⟩
    intro empty
    refine ⟨fun a h1 h4 hempty => ?_, fun t hfull =>
      ⟨takeRequest_accepted htake ((takeLatch_full (s := b) (a := 4) (g := g) rfl hfull).trans rfl), fun a k hk => ?_⟩⟩
    · obtain ⟨action, ha⟩ : ∃ action, TakeAction.ofCode a = some action := by
        interval_cases a
        all_goals exact ⟨_, rfl⟩
      exact takeRequest_refused htake (takeLatch_empty (s := b) ha hempty)
    · have ha : TakeAction.ofCode a = some (.mark k) := by
        obtain ⟨rfl, rfl⟩ | ⟨rfl, rfl⟩ | ⟨rfl, rfl⟩ := hk <;> rfl
      have htaken := takeLatch_full (s := b) (g := g) ha hfull
      rcases hm : performMark k g t (some n) b with e | m
      · refine takeRequest_refused htake (htaken.trans ?_)
        unfold takeCaptured
        dsimp only
        rw [hm]
      · refine takeRequest_accepted htake (htaken.trans ?_)
        unfold takeCaptured
        dsimp only
        rw [hm]
  · intro n s l now full
    refine ⟨latchEdge_overrun, latchEdge_ignored, fun hempty hlocked => ⟨fun hact => ?_, fun k hk => ?_⟩⟩
    · exact latchEdge_captured hempty hlocked (congrArg MarkAction.kind hact)
    · have hkind : (s.line n).markAction.kind = some k := by
        obtain ⟨hact, rfl⟩ | ⟨hact, rfl⟩ | ⟨hact, rfl⟩ := hk
        all_goals exact congrArg MarkAction.kind hact
      rcases hm : performMark k l.markGroup now (some n) full with e | m
      · exact latchEdge_failed hempty hlocked hkind hm
      · exact latchEdge_made hempty hlocked hkind hm

end Sys2Proof.Proofs
end

section
/-! PROOFS. Use counts, pass starts and wraps (R59, R147, R151, R153). -/

namespace Sys2Proof.Machine

section
variable {s : State} {id a : Nat} {c : Clip}

theorem leaveClip_of_some (h : s.clip id = some c) :
    leaveClip (.clip id a) s = { s with clips := s.clips.insert id { c with useCount := c.useCount - 1 } } := by
  have hfind : s.clips.find id = some c := h
  unfold leaveClip
  dsimp only
  rw [hfind]

theorem joinClip_of_some (h : s.clip id = some c) :
    joinClip (.clip id a) s = { s with clips := s.clips.insert id { c with useCount := c.useCount + 1 } } := by
  have hfind : s.clips.find id = some c := h
  unfold joinClip
  dsimp only
  rw [hfind]

end

section
variable {ch : Fin 4} {s : State}

/-- An active BREAK_REQUEST line of a channel (R153). -/
theorem breakLineActive_iff : breakLineActive ch s = true ↔
    ∃ n, (s.line n).function = .breakRequest ∧ (s.line n).channel = ch ∧ (s.line n).inputActive = true := by
  unfold breakLineActive
  rw [List.any_eq_true]
  constructor
  · rintro ⟨n, -, hn⟩
    obtain ⟨hline, hactive⟩ := (Bool.and_eq_true _ _).mp hn
    exact ⟨n, (of_decide_eq_true hline).1, (of_decide_eq_true hline).2, hactive⟩
  · rintro ⟨n, hfun, hch, hactive⟩
    exact ⟨n, mem_allEight n, (Bool.and_eq_true _ _).mpr ⟨decide_eq_true ⟨hfun, hch⟩, hactive⟩⟩

theorem breakSource_request (h : (s.channel ch).breakRequested = true) : breakSource ch s = some .request := if_pos h

theorem breakSource_line (h : (s.channel ch).breakRequested = false) (hline : breakLineActive ch s = true) :
    breakSource ch s = some .line := by
  rw [breakSource, h]
  exact (if_neg Bool.false_ne_true).trans (if_pos hline)

theorem breakSource_none (h : (s.channel ch).breakRequested = false) (hline : ¬breakLineActive ch s = true) :
    breakSource ch s = none := by
  rw [breakSource, h]
  exact (if_neg Bool.false_ne_true).trans (if_neg hline)

theorem sampleBreak_some {src : BreakSource} (time : Nat) (h : breakSource ch s = some src) : sampleBreak ch time s =
    raise time
      (.breakAhead ch (s.channel ch).binding.boundTo (s.channel ch).passCount src (s.channel ch).config.endAction)
      (s.onChannel ch fun c => { c with breakAnnounced := true, breakRequested := false }) := by
  unfold sampleBreak raiseAhead
  rw [h]
  dsimp only
  rw [State.channel_onChannel_self]
  rfl

/-- A record written back is as it was. -/
theorem State.onChannel_id (s : State) (ch : Fin 4) : (s.onChannel ch fun c => c) = s := by
  unfold State.onChannel
  rw [Four.set_get]

theorem sampleBreak_none (time : Nat) (h : breakSource ch s = none) : sampleBreak ch time s = s := by
  unfold sampleBreak
  rw [h]
  exact State.onChannel_id s ch

/-! ## The wrap (R147, R151) -/

/-- The scanner a wrap leaves or begins its scan with (R147). -/
def Scanner.wrapped (r : Scanner) : Scanner :=
  match r.state with
  | .faulted => { r with index := 0, lastMark := none }
  | .waiting => r
  | _ => { state := .active, index := 0, lastMark := none, reseek := false }

/-- The wrap's scan of a channel whose scanner is `r` (R147). -/
theorem wrapScan_eq (time : Nat) {r : Scanner} (h : (s.channel ch).scanner = r) : wrapScan ch time s =
    let t := s.onChannel ch fun c => { c with stack := [], scanner := r.wrapped }
    if r.state = .active ∨ r.state = .ended then scan ch 0 time t else t := by
  have hset : s.onChannel ch (fun c => { c with stack := [], scanner := r }) = s.onChannel ch fun c => { c with stack := [] } :=
    State.onChannel_congr (by rw [← h])
  unfold wrapScan Scanner.wrapped
  rw [h]
  dsimp only
  simp only [State.onChannel_onChannel]
  cases hst : r.state with
  | faulted =>
    refine Eq.trans (State.onChannel_congr ?_) (if_neg (by rintro (h | h) <;> cases h)).symm
    rw [h, hst]
  | waiting => exact hset.symm.trans (if_neg (by rintro (h | h) <;> cases h)).symm
  | active => exact (if_pos (.inl rfl)).symm
  | ended => exact (if_pos (.inr rfl)).symm

/-- The channel a new pass begins with, announced or not (R151, R153). -/
def Channel.passStarted (tin : Nat) (announced : Bool) (c : Channel) : Channel :=
  { c with
    position := tin, passCount := (c.passCount + 1) % c.config.passPeriod, state := .running, breakTimer := 0
    breakAnnounced := announced, breakRequested := if announced then false else c.breakRequested
    scanner := { c.scanner with reseek := c.scanner.reseek || decide (tin < c.position) } }

theorem announce_newPass (tin : Nat) (src : Option BreakSource) (c : Channel) :
    (c.newPass tin).announce src = c.passStarted tin src.isSome := by
  cases src <;> rfl

/-- The BREAK_END notice of a break that ends (R157). -/
def raiseEnd (ch : Fin 4) (cause : Option BreakCause) (bound : BoundTo) (pass : Nat) (announced : Bool) (time : Nat)
    (s : State) : State :=
  cause.elim s fun b => raise time (.breakEnd ch bound b pass announced) s

theorem raiseEnd_channel (ch j : Fin 4) (cause : Option BreakCause) (bound : BoundTo) (pass : Nat) (announced : Bool)
    (time : Nat) (s : State) : (raiseEnd ch cause bound pass announced time s).channel j = s.channel j := by
  cases cause <;> rfl

/-- A wrap, by the source a standing break request has (R151, R153, R157, R159). -/
theorem wrap_eq (cause : Option BreakCause) (time : Nat) {src : Option BreakSource} (hsrc : breakSource ch s = src) :
    wrap ch cause time s = wrapScan ch time (raiseAhead ch src time
      (raiseEnd ch cause (s.channel ch).binding.boundTo (((s.channel ch).passCount + 1) % (s.channel ch).config.passPeriod)
        src.isSome time (s.onChannel ch (Channel.passStarted (s.base ch) src.isSome)))) := by
  have hsrc1 : breakSource ch (s.onChannel ch (Channel.newPass (s.base ch))) = src := by
    refine Eq.trans ?_ hsrc
    unfold breakSource
    rw [State.channel_onChannel_self]
    rfl
  unfold wrap
  dsimp only
  rw [hsrc1, State.onChannel_onChannel]
  simp only [announce_newPass]
  rw [State.channel_onChannel_self]
  cases cause <;> rfl

end

end Sys2Proof.Machine

namespace Sys2Proof.Proofs
open Sys2Proof.Machine

/-- Settles O40: the sampling and the wrap by the break request that stands. -/
theorem passStarts : Obligations.PassStarts := by
  refine ⟨⟨fun s id a c hc => ⟨leaveClip_of_some hc, joinClip_of_some hc⟩, fun s bd hbd => ?_, fun ch time s => ?_⟩,
    fun ch cause time s => ?_⟩
  · cases bd with
    | clip id a => exact absurd rfl (hbd id a)
    | free o i => exact ⟨rfl, rfl⟩
    | unbound => exact ⟨rfl, rfl⟩
  · intro c line ahead
    exact ⟨fun h => sampleBreak_some time (breakSource_request h),
      fun h hline => sampleBreak_some time (breakSource_line h (breakLineActive_iff.mpr hline)),
      fun h hline => sampleBreak_none time (breakSource_none h (fun h' => hline (breakLineActive_iff.mp h')))⟩
  · intro c pass line stands flagged ended s1 scanned
    have hended (announced : Bool) : ended announced (s1 announced) =
        raiseEnd ch cause c.binding.boundTo pass announced time (s.onChannel ch (Channel.passStarted (s.base ch) announced)) := by
      cases cause <;> rfl
    have hscanned (t : State) (ht : (t.channel ch).scanner = { c.scanner with reseek := flagged }) :
        wrapScan ch time t = scanned t := by
      rw [wrapScan_eq time ht]
      cases hst : c.scanner.state
      all_goals simp only [scanned, Scanner.wrapped, hst]
    have hscanner (announced : Bool) : ((ended announced (s1 announced)).channel ch).scanner =
        { c.scanner with reseek := flagged } := by
      have hchannel : (ended announced (s1 announced)).channel ch = c.passStarted (s.base ch) announced := by
        rw [hended, raiseEnd_channel, State.channel_onChannel_self]
      exact congrArg Channel.scanner hchannel
    refine ⟨fun hno => ?_, fun hstands => ?_⟩
    · have hsrc : breakSource ch s = none := by
        refine breakSource_none (Bool.eq_false_iff.mpr fun h => hno (.inl h)) fun h => hno (.inr (breakLineActive_iff.mp h))
      rw [wrap_eq cause time hsrc, ← hscanned _ (hscanner false), hended]
      rfl
    · have hsrc : breakSource ch s = some (if c.breakRequested = true then .request else .line) := by
        split
        · exact breakSource_request ‹_›
        · exact breakSource_line (Bool.eq_false_iff.mpr ‹_›) (breakLineActive_iff.mpr (hstands.resolve_left ‹_›))
      refine Eq.trans ?_ (hscanned (raise time _ (ended true (s1 true))) (hscanner true))
      rw [wrap_eq cause time hsrc, hended]
      unfold raiseAhead
      dsimp only [Option.isSome_some]
      rw [raiseEnd_channel, State.channel_onChannel_self]
      rfl

end Sys2Proof.Proofs
end

section
/-! PROOFS. The cue scanner: a cue by its type, a scan cue by cue, and the re-seek (R139 to R148). -/

namespace Sys2Proof.Machine

/-! ## The cue executed (R141) -/

/-- The scanner past an executed cue: the last mark, and the index on the next cue of a list of `N` (R141). -/
def Channel.pastCue (N i mark : Nat) (c : Channel) : Channel :=
  { c with scanner := { c.scanner with
      lastMark := some mark, index := i + 1, state := if N ≤ i + 1 then .ended else c.scanner.state } }

theorem executed_eq {c : Channel} {N i : Nat} (hN : c.listLength = N) (hi : c.scanner.index = i) (mark : Nat) :
    c.executed mark = c.pastCue N i mark := by
  subst hN hi
  rfl

section
variable {ch : Fin 4} {s : State}

/-- A cue executed on a state that keeps the channel's list and index. -/
theorem CursorKept.executed {t : State} (h : CursorKept ch s t) (mark : Nat) : t.onChannel ch (Channel.executed mark) =
    t.onChannel ch (Channel.pastCue (s.channel ch).listLength (s.channel ch).scanner.index mark) :=
  State.onChannel_congr (executed_eq h.listLength h.1 mark)

/-- A cue that sets fields of the channel. -/
theorem executed_onChannel {f : Channel → Channel} (mark : Nat) (h : CursorKept ch s (s.onChannel ch f)) :
    (s.onChannel ch f).onChannel ch (Channel.executed mark) =
      s.onChannel ch fun c =>
        Channel.pastCue (s.channel ch).listLength (s.channel ch).scanner.index mark (f c) := by
  rw [h.executed, State.onChannel_onChannel]

/-! ## ANGLE cues (R144) -/

theorem angleCue_clip {id a n : Nat} {k : Clip} (index time : Nat) (hb : (s.channel ch).binding = .clip id a)
    (hk : s.clip id = some k) (hn : n < k.angles.length) :
    angleCue ch n index time s = (s.onChannel ch fun c => { c with binding := .clip id n }, false) := by
  unfold angleCue
  rw [hb]
  dsimp only
  rw [hk]
  exact if_pos hn

theorem angleCue_clipRange {id a n : Nat} {k : Clip} (index time : Nat) (hb : (s.channel ch).binding = .clip id a)
    (hk : s.clip id = some k) (hn : k.angles.length ≤ n) :
    angleCue ch n index time s = (warnCue ch .cueRange index time s, false) := by
  unfold angleCue
  rw [hb]
  dsimp only
  rw [hk]
  exact if_neg (Nat.not_lt.mpr hn)

theorem angleCue_freeRange {origin n : Nat} {j : Fin 8} (index time : Nat) (hb : (s.channel ch).binding = .free origin j)
    (hn : 8 ≤ n ∨ ∃ m : Fin 8, n = m.val ∧ (s.stream m).lastKey = none) :
    angleCue ch n index time s = (warnCue ch .cueRange index time s, false) := by
  unfold angleCue
  rw [hb]
  dsimp only
  obtain hn | ⟨m, rfl, hm⟩ := hn
  · rw [recordNo_of_le hn]
  · rw [recordNo_val]
    dsimp only
    rw [streamBounds_of_none hm]

theorem angleCue_free {origin : Nat} {j m : Fin 8} {lo hi : Nat} (index time : Nat)
    (hb : (s.channel ch).binding = .free origin j) (hlo : s.recallStart m = some lo) (hhi : s.liveEdge m = some hi)
    (hle : lo ≤ hi) :
    angleCue ch m.val index time s =
      (s.onChannel ch fun c => { c.moveTo (within lo hi (s.channel ch).position) with binding := .free origin m },
        decide (within lo hi (s.channel ch).position < (s.channel ch).position)) := by
  unfold angleCue
  rw [hb]
  dsimp only
  rw [recordNo_val]
  dsimp only
  rw [streamBounds_of hlo hhi]
  dsimp only
  rw [clampPos_eq_within hle]

/-- A LINE cue's action (R128, R174), line by line. -/
theorem line_lineCue {mask a n : Nat} (h : a = 1 ∨ a = 2 ∨ a = 3) (m : Fin 8) :
    (actOnLines (lineCueAction a) mask n s).line m =
      if mask.testBit m.val = true ∧ (s.line m).function = .output then
        { s.line m with
          outputActive := decide (a ≠ 2), pulseTimer := if a = 3 then n else 0,
          pulseFrame := if a = 3 then some s.timer.frames else none }
      else s.line m := by
  obtain rfl | rfl | rfl := h
  · exact line_actOnLines_output (fun l hl => Line.act_set hl n s.timer.frames) m
  · exact line_actOnLines_output (fun l hl => Line.act_clear hl n s.timer.frames) m
  · exact line_actOnLines_output (fun l hl => Line.act_pulse hl n s.timer.frames) m

theorem position_ifWarned {p : Prop} [Decidable p] {w : Warning} {index time : Nat} :
    ((if p then warnCue ch w index time s else s).channel ch).position = (s.channel ch).position := by
  split
  · obtain h | h := warnCue_cases ch w index time s
    · rw [h]
    · rw [h, State.channel_raise, State.channel_onChannel_self]
      rfl
  · rfl

theorem markPosition_of {lo hi : Nat} (h : s.boundedBy ch lo hi) (hle : lo ≤ hi) (r : Int) :
    s.markPosition ch r = within lo hi (s.base ch + r) := clampTo_of_boundedBy h hle _

theorem executeCue_ret {mark rep first time : Nat} {e : ReturnEntry} {rest : List ReturnEntry}
    (h : (s.channel ch).stack = e :: rest) :
    executeCue ch ⟨mark, rep, first, .ret⟩ time s = (returnCue ch e rest s, true) := by
  unfold executeCue
  dsimp only
  rw [h]

theorem executeCue_retEmpty {mark rep first time : Nat} (h : (s.channel ch).stack = []) :
    executeCue ch ⟨mark, rep, first, .ret⟩ time s =
      ((warnCue ch .returnEmpty (s.channel ch).scanner.index time s).onChannel ch (Channel.executed mark), false) := by
  unfold executeCue
  dsimp only
  rw [h]

theorem executeCue_angle {mark rep first time n : Nat} {t : State} {lowers : Bool}
    (h : angleCue ch n (s.channel ch).scanner.index time s = (t, lowers)) :
    executeCue ch ⟨mark, rep, first, .angle n⟩ time s = (t.onChannel ch (Channel.executed mark), lowers) := by
  unfold executeCue
  dsimp only
  rw [h]

end

end Sys2Proof.Machine

namespace Sys2Proof.Proofs
open Sys2Proof.Machine

/-- Settles O51: the executed cue, type by type. -/
theorem cuesActByType : Obligations.CuesActByType := by
  intro ch time s mark rep first c i N next acts sets warned
  have hwarned (w : Warning) : (warned w).onChannel ch next =
      (warnCue ch w i time s).onChannel ch (Channel.executed mark) :=
    ((CursorKept.warnCue ch s w i time).executed mark).symm
  refine ⟨fun v imm => ?_, fun n => ?_, ?_, fun tag => ?_, fun mask a n ha => ?_, fun id a k n hb hk => ⟨fun hn => ?_, fun hn => ?_⟩,
    fun origin j n hb => ⟨fun hn => ?_, fun m hm => ⟨fun hlive => ?_, fun lo hi hlo hhi hle => ?_⟩⟩, fun hstack => ?_,
    fun lo hi hbounds hle => ?_⟩
  · exact congrArg (·, false) (executed_onChannel mark (CursorKept.onChannel ch s))
  · exact congrArg (·, false) (executed_onChannel mark (CursorKept.onChannel ch s))
  · exact congrArg (·, false) (executed_onChannel mark (CursorKept.onChannel ch s))
  · exact congrArg (·, false) (CursorKept.executed (.of_channel rfl) mark)
  · refine ⟨(actOnLines (lineCueAction a) mask n s).lines, line_lineCue ha, ?_⟩
    rw [← actOnLines_eq]
    exact congrArg (·, false) ((CursorKept.actOnLines ch s _ mask n).executed mark)
  · refine (executeCue_angle (angleCue_clip i time hb hk hn)).trans ?_
    exact congrArg (·, false) (executed_onChannel mark (CursorKept.onChannel ch s))
  · exact (executeCue_angle (angleCue_clipRange i time hb hk hn)).trans (congrArg (·, false) (hwarned _).symm)
  · exact (executeCue_angle (angleCue_freeRange i time hb (.inl hn))).trans (congrArg (·, false) (hwarned _).symm)
  · exact (executeCue_angle (angleCue_freeRange i time hb (.inr ⟨m, hm, hlive⟩))).trans (congrArg (·, false) (hwarned _).symm)
  · subst hm
    refine (executeCue_angle (angleCue_free i time hb hlo hhi hle)).trans ?_
    exact congrArg (·, decide (within lo hi c.position < c.position)) (executed_onChannel mark (CursorKept.onChannel ch s))
  · exact (executeCue_retEmpty hstack).trans (congrArg (·, false) (hwarned _).symm)
  · intro at_
    have hat (r : Int) : (if c.state = .inBreak then c.position else s.markPosition ch r) = at_ r := by
      rw [markPosition_of hbounds hle]
    refine ⟨fun target => congrArg (·, true) ?_, fun e rest hstack => (executeCue_ret hstack).trans (congrArg (·, true) ?_)⟩
    · refine ((CursorKept.jumpCue ch s target i time).executed mark).trans ?_
      rw [jumpCue_eq, State.onChannel_onChannel, hat]
      refine State.onChannel_congr ?_
      dsimp only
      rw [position_ifWarned]
      rfl
    · unfold returnCue
      dsimp only
      rw [hat]
      rfl

end Sys2Proof.Proofs
end

section
/-! PROOFS. Scans cue by cue, and the re-seek before them (R140 to R142). -/

namespace Sys2Proof.Machine

/-! ## One cue of a scan (R141) -/

section
variable {ch : Fin 4} {limit : Int} {time : Nat}

/-- One cue of a scan, and `next` on the state that the scan goes on with. -/
def scanStep (ch : Fin 4) (limit : Int) (time : Nat) (next : State → State) (s : State) : State :=
  let c := s.channel ch
  if c.listLength ≤ c.scanner.index then s.onChannel ch (Channel.scannerTo .ended)
  else
    let q := s.cueAt c c.scanner.index
    if q.body = .listEnd then s.onChannel ch (Channel.scannerTo .ended)
    else if !cueMatches q c.passCount then next (s.onChannel ch Channel.nextCue)
    else if limit < q.mark then s.onChannel ch (Channel.scannerTo .active)
    else if outOfOrder c.scanner.lastMark q.mark then cueFault ch q (c.scanner.lastMark.getD 0) time s
    else
      let r := executeCue ch q time s
      if r.2 then r.1 else next r.1

theorem scanLoop_succ (n : Nat) (s : State) :
    scanLoop ch limit time (n + 1) s = scanStep ch limit time (scanLoop ch limit time n) s := rfl

/-- A cue that does not end the scan moves the index to the next cue of the same list (R141). -/
theorem executeCue_moves {q : CueRecord} {s : State} (h : (executeCue ch q time s).2 = false) :
    ((executeCue ch q time s).1.channel ch).listLength = (s.channel ch).listLength ∧
      ((executeCue ch q time s).1.channel ch).scanner.index = (s.channel ch).scanner.index + 1 := by
  have hdone {t : State} (ht : CursorKept ch s t) :
      ((t.onChannel ch (Channel.executed q.mark)).channel ch).listLength = (s.channel ch).listLength ∧
        ((t.onChannel ch (Channel.executed q.mark)).channel ch).scanner.index = (s.channel ch).scanner.index + 1 := by
    rw [ht.executed, State.channel_onChannel_self]
    exact ⟨ht.listLength, rfl⟩
  obtain ⟨mark, rep, first, body⟩ := q
  cases body with
  | speed v imm => exact hdone (CursorKept.onChannel ch s)
  | hold n => exact hdone (CursorKept.onChannel ch s)
  | stop => exact hdone (CursorKept.onChannel ch s)
  | note tag => exact hdone (.of_channel rfl)
  | line mask a n => exact hdone (CursorKept.actOnLines ch s _ _ _)
  | angle n => exact hdone (CursorKept.angleCue ch s _ _ _)
  | jump target => cases h
  | ret =>
    cases hstack : (s.channel ch).stack with
    | nil =>
      rw [executeCue_retEmpty hstack]
      exact hdone (CursorKept.warnCue ch s _ _ _)
    | cons e rest =>
      rw [executeCue_ret hstack] at h
      cases h
  | listEnd => cases h
  | other n => cases h

/-- Everything one cue of a scan can do: end it, or leave the rest of the list to it. -/
theorem scanStep_cases (s : State) :
    (∃ t, ∀ next, scanStep ch limit time next s = t) ∨
      ∃ t, (∀ next, scanStep ch limit time next s = next t) ∧ (s.channel ch).scanner.index < (s.channel ch).listLength ∧
        (t.channel ch).listLength = (s.channel ch).listLength ∧
        (t.channel ch).scanner.index = (s.channel ch).scanner.index + 1 := by
  unfold scanStep
  dsimp only
  split
  · exact .inl ⟨_, fun _ => rfl⟩
  rename_i hlist
  split
  · exact .inl ⟨_, fun _ => rfl⟩
  split
  · refine .inr ⟨_, fun _ => rfl, not_le.mp hlist, ?_⟩
    rw [State.channel_onChannel_self]
    exact ⟨rfl, rfl⟩
  split
  · exact .inl ⟨_, fun _ => rfl⟩
  split
  · exact .inl ⟨_, fun _ => rfl⟩
  cases hends : (executeCue ch (s.cueAt (s.channel ch) (s.channel ch).scanner.index) time s).2 with
  | true => exact .inl ⟨_, fun _ => rfl⟩
  | false => exact .inr ⟨_, fun _ => rfl, not_le.mp hlist, executeCue_moves hends⟩

/-- A scan needs no more fuel than the cues that are left. -/
theorem scanLoop_fuel {n m : Nat} {s : State}
    (hn : (s.channel ch).listLength - (s.channel ch).scanner.index < n)
    (hm : (s.channel ch).listLength - (s.channel ch).scanner.index < m) :
    scanLoop ch limit time n s = scanLoop ch limit time m s := by
  induction n generalizing m s with
  | zero => exact absurd hn (Nat.not_lt_zero _)
  | succ n ih =>
    obtain ⟨m, rfl⟩ : ∃ k, m = k + 1 := ⟨m - 1, by omega⟩
    rw [scanLoop_succ, scanLoop_succ]
    obtain ⟨t, ht⟩ | ⟨t, ht, hlt, hlen, hidx⟩ := scanStep_cases (ch := ch) (limit := limit) (time := time) s
    · rw [ht, ht]
    · rw [ht, ht]
      exact ih (by omega) (by omega)

/-- A scan carries out the cue at the index, and goes on with the rest of the list (R141). -/
theorem scan_eq (s : State) : scan ch limit time s = scanStep ch limit time (scan ch limit time) s := by
  unfold scan
  rw [scanLoop_succ]
  obtain ⟨t, ht⟩ | ⟨t, ht, hlt, hlen, hidx⟩ := scanStep_cases (ch := ch) (limit := limit) (time := time) s
  · rw [ht, ht]
  · rw [ht, ht]
    exact scanLoop_fuel (by omega) (by omega)

theorem scan_past {s : State} (h : (s.channel ch).listLength ≤ (s.channel ch).scanner.index) :
    scan ch limit time s = s.onChannel ch (Channel.scannerTo .ended) := by
  rw [scan_eq]
  exact if_pos h

section
variable {s : State} {q : CueRecord} (hlist : (s.channel ch).scanner.index < (s.channel ch).listLength)
  (hq : s.cueAt (s.channel ch) (s.channel ch).scanner.index = q)
include hlist hq

theorem scan_listEnd (hend : q.body = .listEnd) : scan ch limit time s = s.onChannel ch (Channel.scannerTo .ended) := by
  rw [scan_eq]
  unfold scanStep
  dsimp only
  rw [if_neg (not_le.mpr hlist), hq, if_pos hend]

theorem scan_otherPass (hend : q.body ≠ .listEnd) (hfits : ¬(s.channel ch).passCount % q.passRepeat = q.passFirst) :
    scan ch limit time s = scan ch limit time (s.onChannel ch Channel.nextCue) := by
  rw [scan_eq]
  unfold scanStep
  dsimp only
  rw [if_neg (not_le.mpr hlist), hq, if_neg hend, cueMatches, decide_eq_false hfits]
  exact if_pos rfl

variable (hend : q.body ≠ .listEnd) (hfits : (s.channel ch).passCount % q.passRepeat = q.passFirst)
include hend hfits

/-- A matching cue, by its mark (R141, R142). -/
theorem scan_matching : scan ch limit time s =
    if limit < q.mark then s.onChannel ch (Channel.scannerTo .active)
    else if outOfOrder (s.channel ch).scanner.lastMark q.mark then
      cueFault ch q ((s.channel ch).scanner.lastMark.getD 0) time s
    else if (executeCue ch q time s).2 then (executeCue ch q time s).1
    else scan ch limit time (executeCue ch q time s).1 := by
  rw [scan_eq s]
  unfold scanStep
  dsimp only
  rw [if_neg (not_le.mpr hlist), hq, if_neg hend, cueMatches, decide_eq_true hfits]
  exact if_neg Bool.false_ne_true

theorem scan_above (hlim : limit < q.mark) : scan ch limit time s = s.onChannel ch (Channel.scannerTo .active) :=
  (scan_matching hlist hq hend hfits).trans (if_pos hlim)

theorem scan_fault (hlim : q.mark ≤ limit) {last : Nat} (hlast : (s.channel ch).scanner.lastMark = some last)
    (hlt : q.mark < last) : scan ch limit time s = cueFault ch q last time s := by
  have horder : outOfOrder (s.channel ch).scanner.lastMark q.mark = true := by
    rw [hlast]
    exact decide_eq_true hlt
  rw [scan_matching hlist hq hend hfits, if_neg (not_lt.mpr hlim), if_pos horder, hlast]
  rfl

theorem scan_executes (hlim : q.mark ≤ limit) (hlast : ∀ last, (s.channel ch).scanner.lastMark = some last → last ≤ q.mark) :
    scan ch limit time s =
      if (executeCue ch q time s).2 = true then (executeCue ch q time s).1
      else scan ch limit time (executeCue ch q time s).1 := by
  have horder : ¬outOfOrder (s.channel ch).scanner.lastMark q.mark = true := by
    unfold outOfOrder
    cases hl : (s.channel ch).scanner.lastMark with
    | none => exact Bool.false_ne_true
    | some last =>
      have := hlast last hl
      simpa using this
  rw [scan_matching hlist hq hend hfits, if_neg (not_lt.mpr hlim), if_neg horder]

end

/-! ## The re-seek (R140) -/

section
variable {s : State} {c : Channel} {start : Int}

/-- A cue that the re-seek looks for: it matches the pass, at or above the start (R140). -/
def sought (c : Channel) (start : Int) (q : CueRecord) : Prop := c.passCount % q.passRepeat = q.passFirst ∧ start ≤ q.mark

theorem findCue_succ (n i : Nat) : findCue s c start (n + 1) i =
    if c.listLength ≤ i then none
    else if (s.cueAt c i).body = .listEnd then none
    else if cueMatches (s.cueAt c i) c.passCount && decide (start ≤ (s.cueAt c i).mark) then some i
    else findCue s c start n (i + 1) := rfl

theorem sought_iff (q : CueRecord) :
    (cueMatches q c.passCount && decide (start ≤ q.mark)) = true ↔ sought c start q := by
  rw [Bool.and_eq_true, cueMatches, decide_eq_true_eq, decide_eq_true_eq]
  rfl

/-- The re-seek finds the first cue it looks for, when no LIST_END stands before it. -/
theorem findCue_some {n i j : Nat} (hn : c.listLength - i < n) (hij : i ≤ j) (hj : j < c.listLength)
    (hgood : sought c start (s.cueAt c j)) (hend : (s.cueAt c j).body ≠ .listEnd)
    (hskip : ∀ k, i ≤ k → k < j → (s.cueAt c k).body ≠ .listEnd ∧ ¬sought c start (s.cueAt c k)) :
    findCue s c start n i = some j := by
  induction n generalizing i with
  | zero => exact absurd hn (Nat.not_lt_zero _)
  | succ n ih =>
    rw [findCue_succ, if_neg (by omega)]
    obtain rfl | hlt := hij.eq_or_lt
    · rw [if_neg hend, if_pos ((sought_iff _).mpr hgood)]
    · obtain ⟨hke, hkg⟩ := hskip i le_rfl hlt
      rw [if_neg hke, if_neg fun h => hkg ((sought_iff _).mp h)]
      exact ih (by omega) hlt fun k hk => hskip k (by omega)

/-- The re-seek finds none, when a LIST_END stands before each cue it looks for. -/
theorem findCue_none {n i : Nat}
    (hno : ∀ j, i ≤ j → j < c.listLength → sought c start (s.cueAt c j) →
      ∃ k, i ≤ k ∧ k ≤ j ∧ (s.cueAt c k).body = .listEnd) : findCue s c start n i = none := by
  induction n generalizing i with
  | zero => rfl
  | succ n ih =>
    rw [findCue_succ]
    split
    · rfl
    rename_i hlen
    split
    · rfl
    rename_i hend
    split
    · rename_i hgood
      obtain ⟨k, hik, hki, hk⟩ := hno i le_rfl (not_le.mp hlen) ((sought_iff _).mp hgood)
      obtain rfl := le_antisymm hki hik
      exact absurd hk hend
    · refine ih fun j hij hj hgood => ?_
      obtain ⟨k, hik, hkj, hk⟩ := hno j (by omega) hj hgood
      refine ⟨k, ?_, hkj, hk⟩
      obtain rfl | hlt := hik.eq_or_lt
      · exact absurd hk hend
      · exact hlt

theorem cueScan_reseek (h : (s.channel ch).scanner.reseek = true) : cueScan ch start limit time s =
    if ((reseek ch start s).channel ch).scanner.state = .active then scan ch limit time (reseek ch start s)
    else reseek ch start s := by
  unfold cueScan
  rw [h]
  rfl

theorem reseek_found {j : Nat} (h : findCue s (s.channel ch) start ((s.channel ch).listLength + 1) 0 = some j) :
    reseek ch start s = s.onChannel ch fun c => { c with scanner := ⟨.active, j, none, false⟩ } := by
  unfold reseek
  dsimp only
  rw [h]
  rfl

theorem reseek_none (h : findCue s (s.channel ch) start ((s.channel ch).listLength + 1) 0 = none) :
    reseek ch start s =
      s.onChannel ch fun c => { c with scanner := ⟨.ended, (s.channel ch).scanner.index, none, false⟩ } := by
  unfold reseek
  dsimp only
  rw [h]
  exact State.onChannel_congr rfl

end

end

/-- A cue of a list, by the page and the place that hold it (R137). -/
theorem cueAt_some {s : State} {c : Channel} {b : CueBinding} {i : Nat} {page : List CueRecord} {q : CueRecord}
    (hb : c.cueBinding = some b) (hpage : s.cues.pages[b.first + i / 32]? = some page) (hq : page[i % 32]? = some q) :
    s.cueAt c i = q := by
  unfold State.cueAt
  rw [hb]
  dsimp only
  rw [List.getD_eq_getElem?_getD, List.getD_eq_getElem?_getD, hpage, Option.getD_some, hq, Option.getD_some]

theorem cueAt_of_lt {s : State} {c : Channel} {i : Nat} (h : i < c.listLength) : s.cueAt c i =
    (s.cues.pages.getD (c.cueBinding.elim 0 CueBinding.first + i / 32) []).getD (i % 32) ⟨0, 1, 0, .listEnd⟩ := by
  unfold State.cueAt
  unfold Channel.listLength at h
  cases hb : c.cueBinding with
  | none =>
    rw [hb] at h
    exact absurd h (Nat.not_lt_zero _)
  | some b => rfl

end Sys2Proof.Machine

namespace Sys2Proof.Proofs
open Sys2Proof.Machine

/-- Settles O52: the scan by its cue at the index, and the re-seek by the first cue it looks for. -/
theorem scansAndReseeks : Obligations.ScansAndReseeks := by
  refine ⟨fun ch limit time s => ?_, fun ch start limit time s => ?_⟩
  · intro c i N becomes
    refine ⟨scan_past, fun b page q hb hi hpage hq => ?_⟩
    have hcue : s.cueAt c i = q := cueAt_some hb hpage hq
    intro fits
    refine ⟨scan_listEnd hi hcue, fun hend => ⟨scan_otherPass hi hcue hend, scan_above hi hcue hend,
      fun hfits hlim last hlast hlt => ?_, fun hfits hlim hlast => scan_executes hi hcue hend hfits hlim hlast⟩⟩
    rw [scan_fault hi hcue hend hfits hlim hlast hlt, State.onChannel_onChannel]
    rfl
  · intro c N cue good soughtAt
    have hcue {j : Nat} (hj : j < N) : s.cueAt c j = cue j := cueAt_of_lt hj
    refine ⟨fun hflag => ⟨fun j hj hgood hend hskip => ?_, fun hno => ?_⟩, fun hflag => ?_⟩
    · have hfind : findCue s c start (c.listLength + 1) 0 = some j := by
        refine findCue_some (Nat.lt_succ_of_le (Nat.sub_le _ _)) (Nat.zero_le j) hj ?_ ?_ fun k _ hk => ?_
        · rw [hcue hj]; exact hgood
        · rw [hcue hj]; exact hend
        · rw [hcue (hk.trans hj)]; exact hskip k hk
      rw [cueScan_reseek hflag, reseek_found hfind, State.channel_onChannel_self]
      exact if_pos rfl
    · have hfind : findCue s c start (c.listLength + 1) 0 = none := by
        refine findCue_none fun j _ hj hgood => ?_
        rw [hcue hj] at hgood
        obtain ⟨k, hkj, hk⟩ := hno j hj hgood
        exact ⟨k, Nat.zero_le k, hkj, (congrArg CueRecord.body (hcue (hkj.trans_lt hj))).trans hk⟩
      rw [cueScan_reseek hflag, reseek_none hfind, State.channel_onChannel_self]
      exact if_neg nofun
    · unfold cueScan
      rw [hflag]
      rfl

end Sys2Proof.Proofs
end

section
/-! PROOFS. The parts of a channel's step, and the frame it sends (R108, R154, R164 to R167). -/

namespace Sys2Proof.Machine

/-! ## The timers of a step (R100, R154) -/

section
variable {ch : Fin 4} {s : State}

theorem shuttleStep_eq (time : Nat) : shuttleStep ch time s =
    if (s.channel ch).source = .shuttle ∧ (s.channel ch).holdOff = 1 then
      raise time (.shuttleLapse ch (s.channel ch).speed) (s.onChannel ch fun c => { c with holdOff := 0, target := 0 })
    else if (s.channel ch).source = .shuttle then s.onChannel ch fun c => { c with holdOff := c.holdOff - 1 }
    else s := by
  unfold shuttleStep
  dsimp only
  by_cases hsource : (s.channel ch).source = .shuttle
  · simp only [hsource, true_and, if_true]
    obtain h0 | h1 | h2 : (s.channel ch).holdOff = 0 ∨ (s.channel ch).holdOff = 1 ∨ 1 < (s.channel ch).holdOff := by omega
    · rw [if_neg (by omega), if_neg (by omega)]
      refine (State.onChannel_id s ch).symm.trans (State.onChannel_congr ?_)
      rw [h0]
      exact congrArg (fun n => { s.channel ch with holdOff := n }) h0
    · rw [if_pos (by omega), if_pos h1, if_pos h1, State.onChannel_onChannel]
      refine congrArg (raise time (.shuttleLapse ch (s.channel ch).speed)) (State.onChannel_congr ?_)
      exact congrArg (fun n => { s.channel ch with holdOff := n - 1, target := 0 }) h1
    · rw [if_pos (by omega), if_neg (by omega), if_neg (by omega)]
  · simp only [hsource, false_and, if_false]

theorem breakTimerStep_eq (time : Nat) : breakTimerStep ch time s =
    if (s.channel ch).breakTimer = 1 then wrap ch (some .timer) time (s.onChannel ch fun c => { c with breakTimer := 0 })
    else s.onChannel ch fun c => { c with breakTimer := c.breakTimer - 1 } := by
  unfold breakTimerStep
  dsimp only
  obtain h0 | h1 | h2 : (s.channel ch).breakTimer = 0 ∨ (s.channel ch).breakTimer = 1 ∨ 1 < (s.channel ch).breakTimer := by
    omega
  · rw [if_pos h0, if_neg (by omega)]
    refine (State.onChannel_id s ch).symm.trans (State.onChannel_congr ?_)
    rw [h0]
    exact congrArg (fun n => { s.channel ch with breakTimer := n }) h0
  · rw [if_neg (by omega), if_pos h1, if_pos h1, h1]
  · rw [if_neg (by omega), if_neg (by omega), if_neg (by omega)]
    exact State.onChannel_congr rfl

/-- Part (c) runs for a CUED, RUNNING or BREAK channel (R108). -/
theorem stepPartC_eq : stepPartC ch s =
    if (s.channel ch).state = .cued ∨ (s.channel ch).state = .running ∨ (s.channel ch).state = .inBreak then
      selectSources ch s
    else s := by
  unfold stepPartC
  simp only [Channel.playing_iff]

end

/-! ## The frame sent (R164 to R166) -/

section
variable {links : Two Link} {h : Nat} {c : Channel}

/-- A frame becomes the emission buffer's frame, and its emission begins (R164, R166). -/
def Channel.sentAs (links : Two Link) (h : Nat) (f : SentFrame) (last : Option Bands) (c : Channel) : Channel :=
  Channel.beginEmission links h
    { c with mixer := { c.mixer with prepared := none, sent := some f, lastPicture := last } }

theorem output_fill {late : Bool} (hfill : c.state = .idle ∨ c.haltCause ≠ none ∨ c.mixer.prepared = none) :
    c.output links h late = c.sentAs links h c.fillFrame c.mixer.lastPicture := by
  have hsend : c.send links h c.fillFrame = c.sentAs links h c.fillFrame c.mixer.lastPicture := by
    unfold Channel.fillFrame
    cases c.config.fill with
    | black => rfl
    | last => cases hl : c.mixer.lastPicture <;> simp only [Channel.send, Channel.sentAs, hl]
  rw [← hsend]
  unfold Channel.output
  split
  · rfl
  · rfl
  · rename_i hidle hhalted
    rw [(hfill.resolve_left hidle).resolve_left (not_not_intro ((Channel.haltCause_none_iff c).mpr hhalted))]

variable (hplay : c.state = .cued ∨ c.state = .running ∨ c.state = .inBreak) {p : Prepared}
  (hp : c.mixer.prepared = some p)
include hplay hp

theorem output_playing (late : Bool) : c.output links h late =
    if late then (c.sendAgain links h).scoreLate
    else if 0 < p.fetches then
      (p.picture.elim (c.sendAgain links h) fun bands => c.send links h (.picture bands)).scoreOnTime
    else p.picture.elim (c.sendAgain links h) fun bands => c.send links h (.picture bands) := by
  unfold Channel.output
  rw [hp]
  obtain hst | hst | hst := hplay
  all_goals
    rw [hst]
    dsimp only
    cases p.picture <;> rfl

theorem output_late : c.output links h true =
    (c.sentAs links h (c.mixer.sent.getD c.fillFrame) c.mixer.lastPicture).scoreLate := by
  rw [output_playing hplay hp]
  exact if_pos rfl

theorem output_picture {f : Bands} (hf : p.picture = some f) : c.output links h false =
    if 0 < p.fetches then (c.sentAs links h (.picture f) (some f)).scoreOnTime
    else c.sentAs links h (.picture f) (some f) := by
  rw [output_playing hplay hp, hf]
  exact if_neg Bool.false_ne_true

theorem output_again (hf : p.picture = none) : c.output links h false =
    if 0 < p.fetches then (c.sentAs links h (c.mixer.sent.getD c.fillFrame) c.mixer.lastPicture).scoreOnTime
    else c.sentAs links h (c.mixer.sent.getD c.fillFrame) c.mixer.lastPicture := by
  rw [output_playing hplay hp, hf]
  exact if_neg Bool.false_ne_true

end

/-! ## The lateness score (R164, R167) -/

/-- The conditions that the score `n` leaves, from the score `old` (R167). -/
def Conditions.scored (n old : Nat) (k : Conditions) : Conditions :=
  { k with
    late := if n = 0 ∧ old ≠ 0 then false else k.late || decide (n = 4 ∧ old < 4)
    degraded := if n = 0 ∧ old ≠ 0 then false else k.degraded || decide (n = 7 ∧ old ≠ 7) }

theorem rescore_eq (n : Nat) (c : Channel) : c.rescore n =
    { c with mixer := { c.mixer with score := n }, conditions := c.conditions.scored n c.mixer.score } := by
  have hconditions : (c.rescore n).conditions = c.conditions.scored n c.mixer.score := by
    unfold Channel.rescore Conditions.scored
    dsimp only
    by_cases h0 : n = 0 ∧ c.mixer.score ≠ 0
    · rw [if_pos h0, if_pos h0, if_pos h0]
    · rw [if_neg h0, if_neg h0, if_neg h0]
      by_cases h4 : n = 4 ∧ c.mixer.score < 4
      · have h7 : ¬(n = 7 ∧ c.mixer.score ≠ 7) := by omega
        simp [if_pos h4, decide_eq_true h4, decide_eq_false h7]
      · rw [if_neg h4, decide_eq_false h4, Bool.or_false]
        by_cases h7 : n = 7 ∧ c.mixer.score ≠ 7
        · rw [if_pos h7, decide_eq_true h7, Bool.or_true]
        · rw [if_neg h7, decide_eq_false h7, Bool.or_false]
  exact congrArg (fun k => ({ c with mixer := { c.mixer with score := n }, conditions := k } : Channel)) hconditions

/-- A score that stays leaves the conditions. -/
theorem Conditions.scored_self (n : Nat) (k : Conditions) : k.scored n n = k := by
  have h0 : ¬(n = 0 ∧ n ≠ 0) := fun h => h.2 h.1
  have h4 : ¬(n = 4 ∧ n < 4) := by omega
  have h7 : ¬(n = 7 ∧ n ≠ 7) := fun h => h.2 h.1
  unfold Conditions.scored
  rw [if_neg h0, if_neg h0, decide_eq_false h4, decide_eq_false h7, Bool.or_false, Bool.or_false]

theorem slip_eq (m : Mixer) : (if m.emission.isSome then bump m.slip else m.slip) =
    if m.emission ≠ none ∧ m.slip < 65535 then m.slip + 1 else m.slip := by
  unfold bump
  cases m.emission with
  | none => rfl
  | some e => simp

theorem outputStep_of {ch : Fin 4} {h : Nat} {s : State} {c' : Channel}
    (hc : (s.channel ch).output s.links h (s.store.awaits ch) = c') :
    outputStep ch h s = (s.onChannel ch fun _ => c').onStore (Store.discardFetches ch) :=
  congrArg (State.onStore (Store.discardFetches ch)) (State.onChannel_congr hc)

end Sys2Proof.Machine

namespace Sys2Proof.Proofs
open Sys2Proof.Machine

/-- Settles O47: the parts of the step, and the frame sent by the cases of R164. -/
theorem stepAndOutputFrame : Obligations.StepAndOutputFrame := by
  refine ⟨fun h ch s => ?_, fun ch time s => ⟨shuttleStep_eq time, breakTimerStep_eq time⟩, fun h ch s => ?_,
    fun st ch k => ⟨st.awaits_discardFetches ch k, st.fetchesOf_discardFetches ch k, ?_⟩⟩
  · intro a b d
    have hb : stepPartB ch (h * 2880) (s.channel ch).state (outputStep ch h s) = b := by
      dsimp only [b]
      cases (s.channel ch).state <;> rfl
    show settleFault ch (h * 2880) (stepPartC ch (stepPartB ch (h * 2880) (s.channel ch).state (outputStep ch h s))) = _
    rw [hb, stepPartC_eq]
  · intro c m awaits fill sent scored sends again
    have hfill : c.fillFrame = fill := by
      dsimp only [fill]
      unfold Channel.fillFrame
      cases c.config.fill <;> cases c.mixer.lastPicture <;> rfl
    have hemission : (c.config.route.bind fun r =>
        if (s.port r.link).up then some { link := r.link, endpoint := r.endpoint, frame := h, next := 0 } else none) =
          (sent fill none).emission := by
      dsimp only [sent]
      cases c.config.route <;> rfl
    have hsent (f : SentFrame) (last : Option Bands) : c.sentAs s.links h f last = { c with mixer := sent f last } := by
      refine Eq.trans (b := { c with mixer := { c.mixer with
        prepared := none, sent := some f, lastPicture := last, emission := (sent fill none).emission,
        slip := if c.mixer.emission.isSome then bump c.mixer.slip else c.mixer.slip } }) ?_ ?_
      · rw [← hemission]
        rfl
      · rw [slip_eq]
    have hscored (n : Nat) (f : SentFrame) (last : Option Bands) :
        (c.sentAs s.links h f last).rescore n = scored n (sent f last) := by
      rw [hsent, rescore_eq]
      rfl
    have hkept (f : SentFrame) (last : Option Bands) : c.sentAs s.links h f last = scored m.score (sent f last) := by
      rw [hsent]
      exact congrArg (fun k => ({ c with mixer := sent f last, conditions := k } : Channel))
        (Conditions.scored_self m.score c.conditions).symm
    refine ⟨fun hno => outputStep_of ((output_fill hno).trans ?_), fun hplay p hp => ⟨fun haw => outputStep_of ?_, fun haw => ?_⟩⟩
    · rw [hfill, hsent]
    · rw [show s.store.awaits ch = true from haw, output_late hplay hp, Channel.scoreLate]
      refine (hscored _ _ _).trans ?_
      rw [hfill]
      rfl
    · have hawaits : s.store.awaits ch = false := haw
      intro n
      have hscore (f : SentFrame) (last : Option Bands) :
          (if 0 < p.fetches then (c.sentAs s.links h f last).scoreOnTime else c.sentAs s.links h f last) =
            scored n (sent f last) := by
        dsimp only [n]
        split
        · exact hscored _ f last
        · exact hkept f last
      refine ⟨fun f hf => outputStep_of ?_, fun hf => outputStep_of ?_⟩
      · rw [hawaits, output_picture hplay hp hf]
        exact hscore _ _
      · rw [hawaits, output_again hplay hp hf]
        refine (hscore _ _).trans ?_
        rw [hfill]
  · rw [Store.inFlight_discardFetches, List.length_map]

end Sys2Proof.Proofs
end

section
/-! PROOFS. The sources of a step, their lookups and fetches, and the blend (R91, R120 to R125, R163). -/

namespace Sys2Proof.Machine

/-! ## The sources a step finds and fetches (R121 to R125) -/

section
variable {ch : Fin 4} {s : State} {i : Fin 8}

/-- The sources found under a role: none, or one. -/
def sourceOf (role : Role) (x : Option (Nat × Nat)) : List Source := (x.map fun x => Source.mk role x.1 x.2).toList

theorem foundSources_earlier {key w : Nat} (h : wantedSources (s.channel ch).effectiveMix w = (true, false)) :
    foundSources s ch i key w = sourceOf .earlier (s.sourceLookup ch i key) := by
  unfold foundSources
  rw [h]
  exact List.append_nil _

theorem foundSources_later {key w : Nat} (h : wantedSources (s.channel ch).effectiveMix w = (false, true)) :
    foundSources s ch i key w = sourceOf .later (s.sourceLookup ch i (key + 1)) := by
  unfold foundSources
  rw [h]
  rfl

theorem foundSources_both {key w : Nat} (h : wantedSources (s.channel ch).effectiveMix w = (true, true)) :
    foundSources s ch i key w =
      sourceOf .earlier (s.sourceLookup ch i key) ++ sourceOf .later (s.sourceLookup ch i (key + 1)) := by
  unfold foundSources
  rw [h]
  rfl

/-- The channel's waiting fetches withdrawn, and the sources fetched for the frame prepared (R124, R125). -/
def fetchFrom (ch : Fin 4) (w : Nat) (fetched : List Source) (s : State) : State :=
  fetched.foldl (issueFetch ch)
    ((s.onStore (Store.withdrawFetches ch)).onChannel ch (Channel.prepare (preparedFor w fetched)))

theorem selectSources_of {q p : Nat} (h : s.playedStream ch = some i) (hq : s.period i = q)
    (hp : (s.channel ch).position = p) : selectSources ch s =
      fetchFrom ch (mixWeight (p % q) q)
        (fetchedSources (s.store.servingChannel ch) (mixWeight (p % q) q) (foundSources s ch i (p / q) (mixWeight (p % q) q)))
        s := by
  unfold selectSources
  rw [h]
  dsimp only
  rw [hq, hp]
  rfl

/-- A single source is fetched, whatever is in service. -/
theorem fetchedSources_one (busy : Bool) (w : Nat) (role : Role) (x : Option (Nat × Nat)) :
    fetchedSources busy w (sourceOf role x) = sourceOf role x := by
  cases x <;> rfl

theorem fetchedSources_two (busy : Bool) (w : Nat) (x y : Nat × Nat) :
    fetchedSources busy w (sourceOf .earlier (some x) ++ sourceOf .later (some y)) =
      if busy = false then sourceOf .earlier (some x) ++ sourceOf .later (some y)
      else if w < 8 then sourceOf .earlier (some x) else sourceOf .later (some y) := by
  cases busy <;> rfl

theorem fetchFrom_none (w : Nat) : fetchFrom ch w [] s =
    ((s.onStore (Store.withdrawFetches ch)).onChannel ch fun c =>
      { c with mixer := { c.mixer with prepared := some { kind := .again, fetches := 0 } } }).onChannel ch fun c =>
      { c with warnings := { c.warnings with gap := true } } := by
  rw [State.onChannel_onChannel]
  rfl

end

/-- A blend of a DEGRADED channel is NEAREST (R121). -/
theorem effectiveMix_eq (c : Channel) : c.effectiveMix =
    if c.config.mixMode = .blend ∧ c.conditions.degraded = true then .nearest else c.config.mixMode := by
  unfold Channel.effectiveMix
  cases c.config.mixMode <;> simp

/-! ## Lookups (R91, R123) -/

theorem coveringExtent_some {key : Nat} {l : List Extent} {e : Extent} (he : e ∈ l)
    (hcovers : e.firstKey ≤ key ∧ key < e.firstKey + e.count)
    (hone : ∀ e' ∈ l, e'.firstKey ≤ key ∧ key < e'.firstKey + e'.count → e' = e) : coveringExtent key l = some e := by
  obtain ⟨e', hfind⟩ := Option.isSome_iff_exists.mp
    (List.find?_isSome (p := fun e : Extent => decide (e.firstKey ≤ key ∧ key < e.firstKey + e.count))
      |>.mpr ⟨e, he, decide_eq_true hcovers⟩)
  have hcovers' : e'.firstKey ≤ key ∧ key < e'.firstKey + e'.count := by simpa using List.find?_some hfind
  rw [← hone e' (List.mem_of_find?_eq_some hfind) hcovers']
  exact hfind

theorem coveringExtent_none {key : Nat} {l : List Extent}
    (h : ∀ e ∈ l, ¬(e.firstKey ≤ key ∧ key < e.firstKey + e.count)) : coveringExtent key l = none :=
  List.find?_eq_none.mpr fun e he => by
    rw [decide_eq_true_eq]
    exact h e he

section
variable {ch : Fin 4} {s : State}

theorem sourceLookup_covered {i : Fin 8} {key : Nat} {e : Extent} (h : coveringExtent key (s.playedExtents ch) = some e) :
    s.sourceLookup ch i key =
      if s.store.owner (e.firstSlot + (key - e.firstKey)) = some i ∧
          (s.store.slot (e.firstSlot + (key - e.firstKey))).occupant = .full key then
        some (e.firstSlot + (key - e.firstKey), (s.store.slot (e.firstSlot + (key - e.firstKey))).generation)
      else none := by
  unfold State.sourceLookup Store.holdsFrame
  rw [h]
  simp only [decide_eq_true_eq]

theorem sourceLookup_uncovered {i : Fin 8} {key : Nat} (h : coveringExtent key (s.playedExtents ch) = none) :
    s.sourceLookup ch i key = s.store.lookup i key := by
  unfold State.sourceLookup
  rw [h]

end

theorem Store.enqueue_busy {st : Store} (h : st.service ≠ none) (e : ReadEntry) :
    st.enqueue e = { st with queue := st.queue ++ [e] } := by
  obtain ⟨_, _, _, _, service, queue, _⟩ := st
  cases service with
  | none => exact absurd rfl h
  | some _ => rfl

theorem Store.enqueue_idle {st : Store} (h : st.service = none) (hq : st.queue = []) (e : ReadEntry) :
    st.enqueue e = { st with service := some e } := by
  obtain ⟨_, _, _, _, service, queue, _⟩ := st
  subst h hq
  rfl

/-! ## The mix weight and the blend (R120, R163) -/

theorem mixWeight_le {r q : Nat} (hq : 0 < q) (h : r < q) : mixWeight r q ≤ 16 := by
  refine Nat.lt_succ_iff.mp ((Nat.div_lt_iff_lt_mul (by omega)).mpr ?_)
  omega

theorem mixSample_bounds {w : Nat} (a b : Nat) (hw : w ≤ 16) : min a b ≤ mixSample w a b ∧ mixSample w a b ≤ max a b := by
  obtain ⟨v, hv⟩ : ∃ v, v + w = 16 := ⟨16 - w, by omega⟩
  have hlow : 16 * min a b ≤ v * a + w * b := by
    calc 16 * min a b = v * min a b + w * min a b := by rw [← Nat.add_mul, hv]
      _ ≤ v * a + w * b := Nat.add_le_add (Nat.mul_le_mul_left v (min_le_left a b)) (Nat.mul_le_mul_left w (min_le_right a b))
  have hhigh : v * a + w * b ≤ 16 * max a b := by
    calc v * a + w * b ≤ v * max a b + w * max a b :=
          Nat.add_le_add (Nat.mul_le_mul_left v (le_max_left a b)) (Nat.mul_le_mul_left w (le_max_right a b))
      _ = 16 * max a b := by rw [← Nat.add_mul, hv]
  have hsample : mixSample w a b = (v * a + w * b + 8) / 16 := by
    rw [mixSample, show 16 - w = v by omega]
  rw [hsample]
  omega

end Sys2Proof.Machine

namespace Sys2Proof.Proofs
open Sys2Proof.Machine

/-- Settles O48: the sources by the effective mix and the weight, each looked up and fetched. -/
theorem sourcesOfAStep : Obligations.SourcesOfAStep := by
  refine ⟨fun ch s i hplayed => ?_, fun ch s i key => ?_, fun e st => ⟨fun h => Store.enqueue_busy h e,
    fun h hq => Store.enqueue_idle h hq e⟩, fun r q hq hr => ⟨mixWeight_le hq hr, Nat.mul_div_le _ _, ?_⟩,
    fun w a b hw => ⟨rfl, mixSample_bounds a b hw⟩, fun w a hw => ?_⟩
  · intro c q k w mix busy t prepared issue gap alone e l
    have hmix : c.effectiveMix = mix := effectiveMix_eq c
    have hselect := selectSources_of hplayed (q := q) rfl rfl
    have halone (role : Role) (x : Option (Nat × Nat)) : fetchFrom ch w (sourceOf role x) s = alone role x := by
      cases x with
      | none => exact fetchFrom_none w
      | some x => rfl
    have hearlier (h : wantedSources c.effectiveMix w = (true, false)) : selectSources ch s = alone .earlier e := by
      rw [hselect, foundSources_earlier h, fetchedSources_one]
      exact halone .earlier e
    have hlater (h : wantedSources c.effectiveMix w = (false, true)) : selectSources ch s = alone .later l := by
      rw [hselect, foundSources_later h, fetchedSources_one]
      exact halone .later l
    refine ⟨fun h => hearlier ?_, fun h => hlater ?_, fun hblend h0 h16 => ?_⟩
    · rw [hmix]
      obtain hm | ⟨hm, hw⟩ | ⟨hm, hw⟩ := h
      · rw [hm]; rfl
      · rw [hm, hw]; rfl
      · rw [hm, wantedSources, decide_eq_true hw, decide_eq_false (by omega)]
    · rw [hmix]
      obtain ⟨hm, hw⟩ | ⟨hm, hw⟩ := h
      · rw [hm, wantedSources, decide_eq_false (by omega), decide_eq_true (by omega)]
      · rw [hm, wantedSources, decide_eq_false (by omega), decide_eq_true hw]
    · have hwanted : wantedSources c.effectiveMix w = (true, true) := by
        rw [hmix, hblend, wantedSources, decide_eq_true h16, decide_eq_true h0]
      rw [hselect, foundSources_both hwanted]
      refine ⟨fun he => ?_, fun hl => ?_, fun x y hx hy => ?_⟩
      · rw [show s.sourceLookup ch i k = none from he]
        exact (congrArg (fetchFrom ch w · s) (fetchedSources_one _ _ .later l)).trans (halone .later l)
      · rw [show s.sourceLookup ch i (k + 1) = none from hl]
        refine (congrArg (fun f => fetchFrom ch w (fetchedSources busy w f) s) (List.append_nil _)).trans ?_
        rw [fetchedSources_one]
        exact halone .earlier e
      · rw [show s.sourceLookup ch i k = some x from hx, show s.sourceLookup ch i (k + 1) = some y from hy,
          fetchedSources_two]
        show fetchFrom ch w (if busy = false then _ else _) s = _
        by_cases hbusy : busy = false
        · rw [if_pos hbusy, if_pos hbusy]
          rfl
        · rw [if_neg hbusy, if_neg hbusy, hx, hy]
          by_cases h8 : w < 8
          · exact (congrArg (fetchFrom ch w · s) (if_pos h8)).trans ((halone .earlier _).trans (if_pos h8).symm)
          · exact (congrArg (fetchFrom ch w · s) (if_neg h8)).trans ((halone .later _).trans (if_neg h8).symm)
  · intro held covers
    have hheld : s.playedExtents ch = held := by
      dsimp only [held]
      unfold State.playedExtents
      cases (s.channel ch).binding with
      | clip id a =>
        dsimp only
        cases (s.clip id).bind Clip.protection <;> rfl
      | free origin j => rfl
      | unbound => rfl
    refine ⟨fun e he hcovers hone => ?_, fun hno => ?_⟩
    · refine sourceLookup_covered ?_
      rw [hheld]
      exact coveringExtent_some he hcovers hone
    · refine sourceLookup_uncovered ?_
      rw [hheld]
      exact coveringExtent_none hno
  · exact Nat.lt_mul_div_succ _ (by omega)
  · obtain ⟨hlow, hhigh⟩ := mixSample_bounds a a hw
    rw [min_self] at hlow
    rw [max_self] at hhigh
    exact le_antisymm hhigh hlow

end Sys2Proof.Proofs
end

section
/-! PROOFS. Parts (b2) and (b3) of a RUNNING channel's step (R110 to R119, R139, R140). -/

namespace Sys2Proof.Machine

/-! ## A notice raised when a condition holds -/

/-- A notice raised when a condition holds. -/
def raiseIf (p : Prop) [Decidable p] (time : Nat) (body : NoticeBody) (s : State) : State :=
  if p then raise time body s else s

section
variable (p : Prop) [Decidable p] (time : Nat) (body : NoticeBody) (s : State) (ch : Fin 4)

theorem raise_onChannel (f : Channel → Channel) : (raise time body s).onChannel ch f = raise time body (s.onChannel ch f) :=
  rfl

theorem raiseIf_onChannel (f : Channel → Channel) :
    (raiseIf p time body s).onChannel ch f = raiseIf p time body (s.onChannel ch f) := by
  unfold raiseIf
  split <;> rfl

theorem raiseIf_channel (j : Fin 4) : (raiseIf p time body s).channel j = s.channel j := by
  unfold raiseIf
  split <;> rfl

theorem raiseIf_not (q : Prop) [Decidable q] : raiseIf (¬q) time body s = if q then s else raise time body s := by
  unfold raiseIf
  split <;> simp [*]

end

/-! ## The parts of a moving step -/

section
variable {ch : Fin 4} {s : State}

theorem setAtLive_eq (i : Fin 8) (live : Bool) (time after : Nat) : setAtLive ch i live time after s =
    raiseIf (live = true ∧ (s.channel ch).atLive = false) time (.atLive ch i after)
      (s.onChannel ch fun c => { c with atLive := live }) := by
  unfold setAtLive raiseIf
  cases live <;> cases (s.channel ch).atLive <;> rfl

theorem overtake_eq (i : Fin 8) (x : Int) (p time : Nat) : overtake ch i x p time s =
    raiseIf (¬(s.channel ch).warnings.overtaken = true) time (.overtaken ch i x p)
      (s.onChannel ch fun c => { c with position := p, warnings := { c.warnings with overtaken := true } }) := by
  rw [raiseIf_not]
  rfl

/-- The scanner flagged for re-seek by a position below `p` (R140). -/
def Channel.flagged (p : Nat) (c : Channel) : Channel :=
  { c with scanner := { c.scanner with reseek := c.scanner.reseek || decide (c.position < p) } }

theorem flagReseek_eq (p : Nat) (s : State) : flagReseek ch p s = s.onChannel ch (Channel.flagged p) := by
  unfold flagReseek
  split
  · rename_i h
    refine State.onChannel_congr ?_
    unfold Channel.flagged
    rw [decide_eq_true h, Bool.or_true]
  · rename_i h
    refine (State.onChannel_id s ch).symm.trans (State.onChannel_congr ?_)
    unfold Channel.flagged
    rw [decide_eq_false h, Bool.or_false]

theorem Channel.mayScan_iff (c : Channel) : c.mayScan = true ↔
    c.source = .program ∧ (c.scanner.state = .active ∨ c.scanner.state = .ended ∧ c.scanner.reseek = true) := by
  unfold Channel.mayScan
  simp

/-- Part (b3) after part (b2) has left the state `u` (R139). -/
def State.scanned (s : State) (ch : Fin 4) (time : Nat) (u : State) : State :=
  if (s.channel ch).position < (u.channel ch).position ∧ (u.channel ch).source = .program ∧
      ((u.channel ch).scanner.state = .active ∨ (u.channel ch).scanner.state = .ended ∧
        (u.channel ch).scanner.reseek = true) then
    cueScan ch (s.relative ch) (u.relative ch) time u
  else u

/-- A moving step that may scan, by what part (b2) leaves with a position `p` in its notices (R119, R139). -/
theorem motion_of_moved {time : Nat} {u v : Nat → State} (hhold : (s.channel ch).hold = 0)
    (hmove : ∀ p, movingStep ch time p s = ⟨v p, true⟩)
    (hflag : ∀ p, (v p).onChannel ch (Channel.flagged (s.channel ch).position) = u p) :
    motion ch time s = s.scanned ch time (u ((s.scanned ch time (u 0)).channel ch).position) := by
  have hshowing (p : Nat) : motionShowing ch time p s = s.scanned ch time (u p) := by
    unfold motionShowing
    dsimp only
    rw [if_neg (by omega), hmove p]
    refine (if_pos rfl).trans ?_
    rw [flagReseek_eq, hflag p]
    unfold State.scanned
    simp only [Channel.mayScan_iff]
  unfold motion withPositionAfter
  rw [hshowing, hshowing]

/-- A moving step that leaves the scan to its wrap (R139, R147). -/
theorem motion_of_wrapped {time : Nat} {t : State} (hhold : (s.channel ch).hold = 0)
    (hmove : ∀ p, movingStep ch time p s = ⟨t, false⟩) : motion ch time s = t := by
  have hshowing (p : Nat) : motionShowing ch time p s = t := by
    unfold motionShowing
    dsimp only
    rw [if_neg (by omega), hmove p]
    exact if_neg Bool.false_ne_true
  exact hshowing _

/-- A hold step, by what it leaves with a position `p` in its notices (R110, R119). -/
theorem motion_of_held {time : Nat} {u : Nat → State} (hhold : 0 < (s.channel ch).hold)
    (hheld : ∀ p, (holdStep ch time p s).onChannel ch (Channel.flagged (s.channel ch).position) = u p) :
    motion ch time s = u ((u 0).channel ch).position := by
  have hshowing (p : Nat) : motionShowing ch time p s = u p := by
    unfold motionShowing
    dsimp only
    rw [if_pos hhold, flagReseek_eq, hheld]
  unfold motion withPositionAfter
  rw [hshowing, hshowing]

/-! ## A moving step by its binding (R112) -/

/-- The advanced position of a moving step (R112). -/
def Channel.advanced (c : Channel) : Int := c.position + 30 * c.ramped.speed

theorem movingStep_clip {id a tin out : Nat} {k : Clip} (time p : Nat) (hb : (s.channel ch).binding = .clip id a)
    (hk : s.clip id = some k) (hin : k.inPoint = tin) (hout : k.outPoint = some out) :
    movingStep ch time p s =
      clipBounds ch id tin out (s.channel ch).advanced time p (s.onChannel ch Channel.ramped) := by
  subst hin
  have hbound : (s.onChannel ch Channel.ramped).bounds ch = some (k.inPoint, out) := by
    rw [State.bounds_eq, State.channel_onChannel_self]
    show s.boundsBy (s.channel ch).binding = _
    rw [hb, State.boundsBy, hk]
    exact congrArg (Option.map _) hout
  unfold movingStep
  dsimp only
  rw [hbound, State.channel_onChannel_self, show (s.channel ch).ramped.binding = .clip id a from hb]
  rfl

theorem movingStep_free {origin : Nat} {i : Fin 8} (time p : Nat) (hb : (s.channel ch).binding = .free origin i) :
    movingStep ch time p s =
      ⟨freeBounds ch i (s.channel ch).advanced true time p (s.onChannel ch Channel.ramped), true⟩ := by
  unfold movingStep
  dsimp only
  rw [State.channel_onChannel_self, show (s.channel ch).ramped.binding = .free origin i from hb]
  rfl

section
variable {id tin out time p : Nat} {x : Int}

theorem clipBounds_below (h : x < tin) : clipBounds ch id tin out x time p s =
    ⟨raise time (.startReached ch (.clip id) p) (s.onChannel ch (Channel.restAt tin)), true⟩ := if_pos h

theorem clipBounds_inside (h1 : (tin : Int) ≤ x) (h2 : x ≤ out) : clipBounds ch id tin out x time p s =
    ⟨s.onChannel ch fun c => { c with position := x.toNat }, true⟩ :=
  (if_neg (not_lt.mpr h1)).trans (if_neg (not_lt.mpr h2))

theorem clipBounds_beyond (hle : tin ≤ out) (h : (out : Int) < x) :
    clipBounds ch id tin out x time p s = endAction ch id tin out x time p s :=
  (if_neg (by omega)).trans (if_pos h)

theorem endAction_stop (h : (s.channel ch).config.endAction = .stop) :
    endAction ch id tin out x time p s = ⟨stopAtEnd ch id out .stop none time p s, true⟩ := by
  unfold endAction
  dsimp only
  rw [h]

theorem endAction_noLive {i : Fin 8} (h : (s.channel ch).config.endAction = .runOn) (hi : s.playedStream ch = some i)
    (hlive : (s.stream i).lastKey = none) :
    endAction ch id tin out x time p s = ⟨stopAtEnd ch id out .runOn (some true) time p s, true⟩ := by
  unfold endAction
  dsimp only
  rw [h, hi]
  dsimp only
  rw [streamBounds_of_none hlive]

theorem endAction_runOn {i : Fin 8} {lo hi : Nat} (h : (s.channel ch).config.endAction = .runOn)
    (hplayed : s.playedStream ch = some i) (hb : s.streamBounds i = some (lo, hi)) :
    endAction ch id tin out x time p s = ⟨runOn ch id tin i lo hi x time p s, true⟩ := by
  unfold endAction
  dsimp only
  rw [h, hplayed]
  dsimp only
  rw [hb]

theorem endAction_break (h : (s.channel ch).config.endAction = .loop) (ha : (s.channel ch).breakAnnounced = true) :
    endAction ch id tin out x time p s = ⟨enterBreak ch out time s, true⟩ := by
  unfold endAction
  dsimp only
  rw [h, ha]
  rfl

theorem endAction_wrap (h : (s.channel ch).config.endAction = .loop) (ha : (s.channel ch).breakAnnounced = false) :
    endAction ch id tin out x time p s = ⟨wrap ch none time s, false⟩ := by
  unfold endAction
  dsimp only
  rw [h, ha]
  rfl

end

/-! ## RUN_ON (R115) -/

theorem runOn_eq {id a tin lo hi time p : Nat} {i : Fin 8} {x : Int} {k : Clip} (hb : (s.channel ch).binding = .clip id a)
    (hk : s.clip id = some k) (hle : lo ≤ hi) : runOn ch id tin i lo hi x time p s =
      let t := ({ s with clips := s.clips.insert id { k with useCount := k.useCount - 1 } } : State).onChannel ch fun c =>
        { c with binding := .free tin i, position := within lo hi x, breakTimer := 0 }
      raise time (.endReached ch id .runOn (some false) p)
        (if (hi : Int) < x then
          raiseIf (¬(s.channel ch).atLive = true) time (.atLive ch i p) (t.onChannel ch fun c => { c with atLive := true })
        else if x < lo then
          raiseIf (¬(s.channel ch).warnings.overtaken = true) time (.overtaken ch i x lo)
            (t.onChannel ch fun c => { c with position := lo, warnings := { c.warnings with overtaken := true } })
        else t) := by
  unfold runOn
  dsimp only
  rw [hb, leaveClip_of_some hk, clampPos_eq_within hle, setAtLive_eq, overtake_eq, State.channel_onChannel_self]
  simp only [true_and, Bool.not_eq_true]
  rfl

/-! ## The bounds of a free channel (R116 to R118) -/

section
variable {i : Fin 8} {lo hi time p : Nat} {x : Int} {moving : Bool} (hb : s.streamBounds i = some (lo, hi))
include hb

theorem freeBounds_inside (h : (lo : Int) ≤ x) : freeBounds ch i x moving time p s =
    raiseIf (min x.toNat hi = hi ∧ (s.channel ch).atLive = false) time (.atLive ch i p)
      (s.onChannel ch fun c => { c with position := min x.toNat hi, atLive := decide (min x.toNat hi = hi) }) := by
  have hposition : (if (hi : Int) < x then s.onChannel ch fun c => { c with position := hi }
      else if x < lo then
        if moving && decide ((s.channel ch).speed < 0) then
          raise time (.startReached ch (.free i.val) p) (s.onChannel ch (Channel.restAt lo))
        else overtake ch i x lo time s
      else s.onChannel ch fun c => { c with position := x.toNat }) =
        s.onChannel ch fun c => { c with position := min x.toNat hi } := by
    by_cases hhi : (hi : Int) < x
    · rw [if_pos hhi, min_eq_right (by omega)]
    · rw [if_neg hhi, if_neg (by omega), min_eq_left (by omega)]
  unfold freeBounds
  rw [hb]
  dsimp only
  rw [hposition, setAtLive_eq, State.channel_onChannel_self, State.onChannel_onChannel]
  simp only [decide_eq_true_eq]

theorem freeBounds_start (hx : x < lo) (hle : lo ≤ hi) (hmoving : moving = true) (hspeed : (s.channel ch).speed < 0) :
    freeBounds ch i x moving time p s =
      raiseIf (lo = hi ∧ (s.channel ch).atLive = false) time (.atLive ch i p)
        (raise time (.startReached ch (.free i.val) p)
          (s.onChannel ch fun c => { c with position := lo, speed := 0, target := 0, atLive := decide (lo = hi) })) := by
  unfold freeBounds
  rw [hb]
  dsimp only
  rw [if_neg (by omega), if_pos hx, hmoving, decide_eq_true hspeed, Bool.and_self, if_pos rfl, setAtLive_eq,
    raise_onChannel, State.channel_raise, State.channel_onChannel_self, State.onChannel_onChannel]
  simp only [decide_eq_true_eq]
  rfl

theorem freeBounds_overtaken (hx : x < lo) (hle : lo ≤ hi) (hrest : ¬(moving = true ∧ (s.channel ch).speed < 0)) :
    freeBounds ch i x moving time p s =
      raiseIf (lo = hi ∧ (s.channel ch).atLive = false) time (.atLive ch i p)
        (raiseIf (¬(s.channel ch).warnings.overtaken = true) time (.overtaken ch i x lo)
          (s.onChannel ch fun c =>
            { c with position := lo, warnings := { c.warnings with overtaken := true }, atLive := decide (lo = hi) })) := by
  have hnot : ¬(moving && decide ((s.channel ch).speed < 0)) = true := by simpa using hrest
  unfold freeBounds
  rw [hb]
  dsimp only
  rw [if_neg (by omega), if_pos hx, if_neg hnot, setAtLive_eq, overtake_eq, raiseIf_onChannel, raiseIf_channel,
    State.channel_onChannel_self, State.onChannel_onChannel]
  simp only [decide_eq_true_eq]

end

end

end Sys2Proof.Machine
end

section
/-! PROOFS. Hold steps and moving steps as a whole (R110 to R119, R139, R140, R150). -/

namespace Sys2Proof.Machine

section
variable {ch : Fin 4} {s : State} {time : Nat}

theorem channel_ramped : (s.onChannel ch Channel.ramped).channel ch = (s.channel ch).ramped :=
  State.channel_onChannel_self s ch _

theorem Channel.flagged_of_le {p : Nat} {c : Channel} (h : p ≤ c.position) : c.flagged p = c := by
  unfold Channel.flagged
  rw [decide_eq_false (not_lt.mpr h), Bool.or_false]

/-- A change that does not lower the position leaves the flag (R140). -/
theorem onChannel_flagged {f : Channel → Channel} {p : Nat} (h : p ≤ (f (s.channel ch)).position) :
    (s.onChannel ch fun c => (f c).flagged p) = s.onChannel ch f :=
  State.onChannel_congr (Channel.flagged_of_le h)

/-- A hold step of a clip-bound channel keeps its position (R110). -/
theorem motion_heldClip {id a : Nat} (hhold : 0 < (s.channel ch).hold) (hb : (s.channel ch).binding = .clip id a) :
    motion ch time s = s.onChannel ch fun c => { c.ramped with hold := c.hold - 1 } := by
  refine motion_of_held (u := fun _ => s.onChannel ch fun c => { c.ramped with hold := c.hold - 1 }) hhold fun p => ?_
  unfold holdStep
  dsimp only
  rw [State.channel_onChannel_self, show ({ (s.channel ch).ramped with hold := (s.channel ch).hold - 1 } : Channel).binding =
    .clip id a from hb]
  dsimp only
  rw [State.onChannel_onChannel]
  exact onChannel_flagged (f := fun c => { c.ramped with hold := c.hold - 1 }) le_rfl

theorem holdStep_free {origin : Nat} {i : Fin 8} (p : Nat) (hb : (s.channel ch).binding = .free origin i) :
    holdStep ch time p s =
      freeBounds ch i ((s.channel ch).position : Int) false time p
        (s.onChannel ch fun c => { c.ramped with hold := c.hold - 1 }) := by
  unfold holdStep
  dsimp only
  rw [State.channel_onChannel_self, show ({ (s.channel ch).ramped with hold := (s.channel ch).hold - 1 } : Channel).binding =
    .free origin i from hb]
  rfl

/-- A hold step of a free channel holds it to its bounds (R116, R118). -/
theorem motion_heldFree {origin lo hi : Nat} {i : Fin 8} (hhold : 0 < (s.channel ch).hold)
    (hb : (s.channel ch).binding = .free origin i) (hlo : s.recallStart i = some lo) (hhi : s.liveEdge i = some hi)
    (hle : lo ≤ hi) (hpos : (s.channel ch).position ≤ hi) : motion ch time s =
      raiseIf (max lo (s.channel ch).position = hi ∧ (s.channel ch).atLive = false) time
        (.atLive ch i (max lo (s.channel ch).position))
        (raiseIf ((s.channel ch).position < lo ∧ (s.channel ch).warnings.overtaken = false) time
          (.overtaken ch i (s.channel ch).position lo)
          (s.onChannel ch fun c =>
            { c.ramped with
              hold := c.hold - 1, position := max lo (s.channel ch).position
              atLive := decide (max lo (s.channel ch).position = hi)
              warnings := { c.warnings with
                overtaken := c.warnings.overtaken || decide ((s.channel ch).position < lo) } })) := by
  have hbounds : (s.onChannel ch fun c => { c.ramped with hold := c.hold - 1 }).streamBounds i = some (lo, hi) :=
    streamBounds_of hlo hhi
  have hkept (p : Nat) : (holdStep ch time p s).onChannel ch (Channel.flagged (s.channel ch).position) =
      raiseIf (max lo (s.channel ch).position = hi ∧ (s.channel ch).atLive = false) time (.atLive ch i p)
        (raiseIf ((s.channel ch).position < lo ∧ (s.channel ch).warnings.overtaken = false) time
          (.overtaken ch i (s.channel ch).position lo)
          (s.onChannel ch fun c =>
            { c.ramped with
              hold := c.hold - 1, position := max lo (s.channel ch).position
              atLive := decide (max lo (s.channel ch).position = hi)
              warnings := { c.warnings with
                overtaken := c.warnings.overtaken || decide ((s.channel ch).position < lo) } })) := by
    rw [holdStep_free p hb]
    by_cases hx : (s.channel ch).position < lo
    · rw [freeBounds_overtaken (moving := false) hbounds (by omega) hle (fun h => Bool.false_ne_true h.1), raiseIf_onChannel, raiseIf_onChannel,
        State.onChannel_onChannel, State.onChannel_onChannel, State.channel_onChannel_self]
      rw [max_eq_left hx.le, onChannel_flagged (by exact hx.le)]
      unfold raiseIf
      simp only [hx, true_and, Bool.not_eq_true, decide_true, Bool.or_true]
      rfl
    · have hmin : min ((s.channel ch).position : Int).toNat hi = (s.channel ch).position := by
        rw [Int.toNat_natCast, min_eq_left hpos]
      rw [freeBounds_inside hbounds (by omega), raiseIf_onChannel, State.onChannel_onChannel, State.onChannel_onChannel,
        State.channel_onChannel_self, hmin, max_eq_right (not_lt.mp hx)]
      rw [onChannel_flagged (by exact le_rfl)]
      unfold raiseIf
      simp only [hx, false_and, if_false, decide_false, Bool.or_false]
      rfl
  refine (motion_of_held hhold hkept).trans ?_
  rw [raiseIf_channel, raiseIf_channel, State.channel_onChannel_self]

/-! ## Moving steps -/

/-- The changes of a moving step after its ramp, and the flag. -/
theorem moved_flagged {f : Channel → Channel} {p : Nat} :
    ((s.onChannel ch Channel.ramped).onChannel ch f).onChannel ch (Channel.flagged p) =
      s.onChannel ch fun c => (f c.ramped).flagged p := by
  rw [State.onChannel_onChannel, State.onChannel_onChannel]

theorem stopAtEnd_flagged {id out p q : Nat} {e : EndAction} {r : Option Bool} :
    (stopAtEnd ch id out e r time q (s.onChannel ch Channel.ramped)).onChannel ch (Channel.flagged p) =
      raise time (.endReached ch id e r q) (s.onChannel ch fun c =>
        { c with position := out, speed := 0, target := 0,
                 scanner := { c.scanner with reseek := c.scanner.reseek || decide (out < p) } }) := by
  unfold stopAtEnd
  rw [raise_onChannel, moved_flagged]
  rfl

theorem enterBreak_flagged {id a out p : Nat} (hb : (s.channel ch).binding = .clip id a) :
    (enterBreak ch out time (s.onChannel ch Channel.ramped)).onChannel ch (Channel.flagged p) =
      raise time (.breakStart ch (.clip id) (s.channel ch).passCount (s.channel ch).config.breakLimit)
        (s.onChannel ch fun c =>
          { c.ramped with
            state := .inBreak, position := out, breakTimer := c.config.breakLimit
            scanner := { c.scanner with reseek := c.scanner.reseek || decide (out < p) } }) := by
  have hbound : (s.channel ch).binding.boundTo = .clip id := by rw [hb]; rfl
  unfold enterBreak
  dsimp only
  rw [raise_onChannel, moved_flagged, State.channel_onChannel_self, channel_ramped, ← hbound]
  rfl

/-- RUN_ON, with the flag (R115, R140). -/
theorem runOn_flagged {id a tin lo hi p q : Nat} {i : Fin 8} {x : Int} {k : Clip}
    (hb : (s.channel ch).binding = .clip id a) (hk : s.clip id = some k) (hle : lo ≤ hi) :
    (runOn ch id tin i lo hi x time q (s.onChannel ch Channel.ramped)).onChannel ch (Channel.flagged p) =
      let free := ({ s with clips := s.clips.insert id { k with useCount := k.useCount - 1 } } : State).onChannel ch fun c =>
        { c.ramped with
          binding := .free tin i, position := within lo hi x, breakTimer := 0
          scanner := { c.scanner with reseek := c.scanner.reseek || decide (within lo hi x < p) } }
      raise time (.endReached ch id .runOn (some false) q)
        (if (hi : Int) < x then
          raiseIf (¬(s.channel ch).atLive = true) time (.atLive ch i q) (free.onChannel ch fun c => { c with atLive := true })
        else if x < lo then
          raiseIf (¬(s.channel ch).warnings.overtaken = true) time (.overtaken ch i x lo)
            (free.onChannel ch fun c => { c with warnings := { c.warnings with overtaken := true } })
        else free) := by
  have hb1 : ((s.onChannel ch Channel.ramped).channel ch).binding = .clip id a := by rw [channel_ramped]; exact hb
  have hstart : ({ s.onChannel ch Channel.ramped with
      clips := (s.onChannel ch Channel.ramped).clips.insert id { k with useCount := k.useCount - 1 } } : State) =
      ({ s with clips := s.clips.insert id { k with useCount := k.useCount - 1 } } : State).onChannel ch Channel.ramped := rfl
  rw [runOn_eq hb1 hk hle, hstart, channel_ramped]
  dsimp only
  rw [raise_onChannel]
  refine congrArg (raise time (.endReached ch id .runOn (some false) q)) ?_
  by_cases hhi : (hi : Int) < x
  · rw [if_pos hhi, if_pos hhi, raiseIf_onChannel]
    simp only [State.onChannel_onChannel]
    rfl
  · rw [if_neg hhi, if_neg hhi]
    by_cases hlo : x < lo
    · have hwithin : within lo hi x = lo := if_pos hlo.le
      rw [if_pos hlo, if_pos hlo, raiseIf_onChannel, hwithin]
      simp only [State.onChannel_onChannel]
      rfl
    · rw [if_neg hlo, if_neg hlo]
      simp only [State.onChannel_onChannel]
      rfl

end

end Sys2Proof.Machine

namespace Sys2Proof.Proofs
open Sys2Proof.Machine

/-- Settles O46: hold steps and moving steps by the binding, the bounds and the end action. -/
theorem movingStepAdvances : Obligations.MovingStepAdvances := by
  intro ch time s c x lower scanned steps
  have hsteps {u v : Nat → State} (hhold : c.hold = 0) (hmove : ∀ p, movingStep ch time p s = ⟨v p, true⟩)
      (hflag : ∀ p, (v p).onChannel ch (Channel.flagged c.position) = u p) : steps u :=
    motion_of_moved hhold hmove hflag
  clear_value steps
  refine ⟨fun id a hhold hb => motion_heldClip hhold hb, fun origin i lo hi hhold hb hlo hhi hle hpos => ?_,
    fun hhold => ⟨fun id a k out hb hk hout hle => ?_, fun origin i lo hi hb hlo hhi hle => ?_⟩⟩
  · exact motion_heldFree hhold hb hlo hhi hle hpos
  · have hmoving (p : Nat) := movingStep_clip (ch := ch) time p hb hk rfl hout
    have hramped : (s.onChannel ch Channel.ramped).channel ch = c.ramped := channel_ramped
    have hplayed {i : Fin 8} (hi : k.angles[a]? = some i) : (s.onChannel ch Channel.ramped).playedStream ch = some i := by
      unfold State.playedStream
      rw [hramped, show c.ramped.binding = .clip id a from hb]
      show ((s.clip id).bind fun c => c.angles[a]?) = some i
      rw [hk]
      exact hi
    refine ⟨fun hin hx => ?_, fun hx => ?_, fun hx => ?_⟩
    · exact hsteps hhold (fun p => (hmoving p).trans (clipBounds_inside hin hx)) fun p => moved_flagged
    · refine hsteps hhold (fun p => (hmoving p).trans (clipBounds_below hx)) fun p => ?_
      rw [raise_onChannel, moved_flagged]
      rfl
    · have hend (p : Nat) := (hmoving p).trans (clipBounds_beyond hle hx)
      intro stops
      refine ⟨fun hact => ?_, fun hact i hi hlive => ?_, fun hact i lo hi hplay hlo hhi hle' => ?_, fun hact hann => ?_,
        fun hact hann => ?_⟩
      · exact hsteps hhold (fun p => (hend p).trans (endAction_stop (hramped ▸ hact))) fun p => stopAtEnd_flagged
      · exact hsteps hhold (fun p => (hend p).trans (endAction_noLive (hramped ▸ hact) (hplayed hi) hlive))
          fun p => stopAtEnd_flagged
      · intro q free u
        refine hsteps hhold
          (fun p => (hend p).trans (endAction_runOn (hramped ▸ hact) (hplayed hplay) (streamBounds_of hlo hhi))) fun p => ?_
        rw [runOn_flagged hb hk hle']
        simp only [raiseIf_not]
        rfl
      · exact hsteps hhold (fun p => (hend p).trans (endAction_break (hramped ▸ hact) (hramped ▸ hann)))
          fun p => enterBreak_flagged hb
      · exact motion_of_wrapped hhold fun p => (hend p).trans (endAction_wrap (hramped ▸ hact) (hramped ▸ hann))
  · have hmoving (p : Nat) : movingStep ch time p s =
        ⟨freeBounds ch i x true time p (s.onChannel ch Channel.ramped), true⟩ := movingStep_free time p hb
    have hbounds : (s.onChannel ch Channel.ramped).streamBounds i = some (lo, hi) := streamBounds_of hlo hhi
    intro live
    refine ⟨fun hx => ?_, fun hx hspeed => ?_, fun hx hspeed => ?_⟩
    · refine hsteps hhold hmoving fun p => ?_
      rw [freeBounds_inside hbounds hx, raiseIf_onChannel, moved_flagged, channel_ramped]
      dsimp only [live]
      rw [State.onChannel_onChannel]
      rfl
    · refine hsteps hhold hmoving fun p => ?_
      rw [freeBounds_start hbounds hx hle rfl (by rw [channel_ramped]; exact hspeed), raiseIf_onChannel, raise_onChannel,
        moved_flagged, channel_ramped]
      dsimp only [live]
      rw [raise_onChannel, State.onChannel_onChannel]
      rfl
    · intro t
      refine hsteps hhold hmoving fun p => ?_
      rw [freeBounds_overtaken hbounds hx hle (fun h => not_lt.mpr hspeed (by rw [channel_ramped] at h; exact h.2)),
        raiseIf_onChannel, raiseIf_onChannel, moved_flagged, channel_ramped]
      dsimp only [live]
      rw [← raiseIf_not, raiseIf_onChannel, State.onChannel_onChannel]
      rfl

end Sys2Proof.Proofs
end

section
/-! PROOFS. What a channel's step leaves: the counts that a scan keeps, and the clips, of which a step lowers use counts
alone (R59, R100, R110, R154). -/

namespace Sys2Proof.Machine

/-! ## Output and selection (R108) -/

/-- What output and selection leave of a channel record. -/
structure Channel.SameMotion (c c' : Channel) : Prop where
  state : c'.state = c.state
  source : c'.source = c.source
  binding : c'.binding = c.binding
  position : c'.position = c.position
  config : c'.config = c.config
  hold : c'.hold = c.hold
  holdOff : c'.holdOff = c.holdOff
  breakTimer : c'.breakTimer = c.breakTimer
  passCount : c'.passCount = c.passCount

/-- The Mixer's part and the marks of a channel written anew leave its motion. -/
theorem Channel.SameMotion.of_mixer (c : Channel) (m : Mixer) (k : Conditions) (w : Warnings) (l : Nat) :
    c.SameMotion { c with mixer := m, conditions := k, warnings := w, level := l } :=
  ⟨rfl, rfl, rfl, rfl, rfl, rfl, rfl, rfl, rfl⟩

theorem Channel.SameMotion.trans {c d e : Channel} (h : c.SameMotion d) (k : d.SameMotion e) : c.SameMotion e :=
  ⟨k.state.trans h.state, k.source.trans h.source, k.binding.trans h.binding, k.position.trans h.position,
    k.config.trans h.config, k.hold.trans h.hold, k.holdOff.trans h.holdOff, k.breakTimer.trans h.breakTimer,
    k.passCount.trans h.passCount⟩

theorem Channel.SameMotion.output (links : Two Link) (h : Nat) (late : Bool) (c : Channel) :
    c.SameMotion (c.output links h late) := by
  have hagain : c.SameMotion (c.sendAgain links h) := .of_mixer c _ _ _ _
  have hsend (f : SentFrame) : c.SameMotion (c.send links h f) := .of_mixer c _ _ _ _
  have hscore (d : Channel) (n : Nat) (hd : c.SameMotion d) : c.SameMotion (d.rescore n) :=
    hd.trans (.of_mixer d _ _ _ _)
  unfold Channel.output
  split
  · exact hsend _
  · exact hsend _
  · split
    · exact hsend _
    · split
      · exact hscore _ _ hagain
      · split <;> split
        · exact hscore _ _ (hsend _)
        · exact hsend _
        · exact hscore _ _ hagain
        · exact hagain

theorem Channel.SameMotion.prepare (p : Prepared) (c : Channel) : c.SameMotion (c.prepare p) := by
  unfold Channel.prepare
  dsimp only
  split <;> exact .of_mixer c _ _ _ _

/-- An operation on a channel that leaves its motion, the clips and the lines. -/
structure Steady (ch : Fin 4) (s t : State) : Prop where
  clips : t.clips = s.clips
  lines : t.lines = s.lines
  channel : (s.channel ch).SameMotion (t.channel ch)

namespace Steady

variable (ch : Fin 4) (s : State)

theorem of_eq {ch : Fin 4} {s t : State} (hclips : t.clips = s.clips) (hlines : t.lines = s.lines)
    (hchannel : t.channel ch = s.channel ch) : Steady ch s t :=
  ⟨hclips, hlines, hchannel ▸ .of_mixer _ _ _ _ _⟩

theorem refl : Steady ch s s := of_eq rfl rfl rfl

theorem trans {ch : Fin 4} {s t u : State} (h : Steady ch s t) (k : Steady ch t u) : Steady ch s u :=
  ⟨k.clips.trans h.clips, k.lines.trans h.lines, h.channel.trans k.channel⟩

theorem onChannel {f : Channel → Channel} (h : (s.channel ch).SameMotion (f (s.channel ch))) :
    Steady ch s (s.onChannel ch f) :=
  ⟨rfl, rfl, (State.channel_onChannel_self s ch f).symm ▸ h⟩

theorem settleFault (time : Nat) : Steady ch s (settleFault ch time s) := by
  obtain ⟨-, h⟩ | ⟨-, h⟩ := settleFault_cases s ch time <;> rw [h]
  · exact refl ch s
  · refine trans (onChannel ch s (f := fun c => { c with level := (s.channel ch).faultLevel }) ?_) (of_eq rfl rfl rfl)
    exact .of_mixer _ _ _ _ _

theorem outputStep (h : Nat) : Steady ch s (outputStep ch h s) :=
  (onChannel ch s (.output _ _ _ _)).trans (of_eq rfl rfl rfl)

theorem issueFetches (l : List Source) : Steady ch s (l.foldl (issueFetch ch) s) := by
  induction l generalizing s with
  | nil => exact refl ch s
  | cons x l ih => exact (of_eq rfl rfl rfl : Steady ch s (issueFetch ch s x)).trans (ih _)

theorem selectSources : Steady ch s (selectSources ch s) := by
  have hprep (p : Prepared) :
      Steady ch s ((s.onStore (Store.withdrawFetches ch)).onChannel ch (Channel.prepare p)) :=
    (of_eq rfl rfl rfl : Steady ch s (s.onStore (Store.withdrawFetches ch))).trans (onChannel ch _ (.prepare p _))
  unfold Machine.selectSources
  dsimp only
  split
  · exact hprep _
  · exact (hprep _).trans (issueFetches ch _ _)

theorem stepPartC : Steady ch s (stepPartC ch s) := by
  unfold Machine.stepPartC
  split
  · exact selectSources ch s
  · exact refl ch s

end Steady

/-! ## Scans (R141) -/

/-- What a scan leaves: the clips, and the state and the counts of the channel that a boundary counts. -/
structure CountsKept (ch : Fin 4) (s t : State) : Prop where
  clips : t.clips = s.clips
  state : (t.channel ch).state = (s.channel ch).state
  holdOff : (t.channel ch).holdOff = (s.channel ch).holdOff
  breakTimer : (t.channel ch).breakTimer = (s.channel ch).breakTimer
  passCount : (t.channel ch).passCount = (s.channel ch).passCount

theorem Steady.counts {ch : Fin 4} {s t : State} (h : Steady ch s t) : CountsKept ch s t :=
  ⟨h.clips, h.channel.state, h.channel.holdOff, h.channel.breakTimer, h.channel.passCount⟩

namespace CountsKept

variable (ch : Fin 4) (s : State)

theorem of_eq {ch : Fin 4} {s t : State} (hclips : t.clips = s.clips) (hchannel : t.channel ch = s.channel ch) :
    CountsKept ch s t := by
  refine ⟨hclips, ?_, ?_, ?_, ?_⟩ <;> rw [hchannel]

theorem refl : CountsKept ch s s := of_eq rfl rfl

theorem trans {ch : Fin 4} {s t u : State} (h : CountsKept ch s t) (k : CountsKept ch t u) : CountsKept ch s u :=
  ⟨k.clips.trans h.clips, k.state.trans h.state, k.holdOff.trans h.holdOff, k.breakTimer.trans h.breakTimer,
    k.passCount.trans h.passCount⟩

theorem onChannel {f : Channel → Channel}
    (h : ∀ c, (f c).state = c.state ∧ (f c).holdOff = c.holdOff ∧ (f c).breakTimer = c.breakTimer ∧
      (f c).passCount = c.passCount := by exact fun _ => ⟨rfl, rfl, rfl, rfl⟩) : CountsKept ch s (s.onChannel ch f) := by
  obtain ⟨hstate, hoff, htimer, hpass⟩ := h (s.channel ch)
  refine ⟨rfl, ?_, ?_, ?_, ?_⟩ <;> rw [State.channel_onChannel_self]
  · exact hstate
  · exact hoff
  · exact htimer
  · exact hpass

theorem onChannelRaise {f : Channel → Channel} {time : Nat} {body : NoticeBody}
    (h : CountsKept ch s (s.onChannel ch f)) : CountsKept ch s (raise time body (s.onChannel ch f)) :=
  h.trans (of_eq rfl rfl)

theorem warnCue (w : Warning) (index time : Nat) : CountsKept ch s (warnCue ch w index time s) := by
  obtain h | h := warnCue_cases ch w index time s <;> rw [h]
  · exact refl ch s
  · exact onChannelRaise ch s (onChannel ch s)

theorem angleCue (n index time : Nat) : CountsKept ch s (angleCue ch n index time s).1 := by
  unfold Machine.angleCue
  split
  · split
    · dsimp only
      exact onChannel ch s
    · exact warnCue ch s _ _ _
  · split
    · exact warnCue ch s _ _ _
    · split
      · exact warnCue ch s _ _ _
      · dsimp only
        exact onChannel ch s
  · exact refl ch s

theorem jumpCue (target index time : Nat) : CountsKept ch s (jumpCue ch target index time s) := by
  unfold Machine.jumpCue
  dsimp only
  refine trans ?_ (onChannel ch _)
  split
  · exact warnCue ch s _ _ _
  · exact refl ch s

theorem executeCue (q : CueRecord) (time : Nat) : CountsKept ch s (executeCue ch q time s).1 := by
  have hdone {t : State} (h : CountsKept ch s t) : CountsKept ch s (t.onChannel ch (Channel.executed q.mark)) :=
    h.trans (onChannel ch t)
  unfold Machine.executeCue
  dsimp only
  split
  · exact hdone (onChannel ch s)
  · exact hdone (onChannel ch s)
  · exact hdone (onChannel ch s)
  · exact hdone (of_eq rfl rfl)
  · exact hdone (of_eq (by rw [actOnLines_eq]) (actOnLines_channel _ _ _ _ _))
  · exact hdone (angleCue ch s _ _ _)
  · exact hdone (jumpCue ch s _ _ _)
  · split
    · exact hdone (warnCue ch s _ _ _)
    · dsimp only [returnCue]
      exact onChannel ch s
  · exact refl ch s
  · exact refl ch s

theorem scan (limit : Int) (time : Nat) : CountsKept ch s (scan ch limit time s) := by
  unfold Machine.scan
  generalize (s.channel ch).listLength + 1 = n
  induction n generalizing s with
  | zero => exact refl ch s
  | succ n ih =>
    unfold scanLoop
    dsimp only
    split
    · exact onChannel ch s
    · split
      · exact onChannel ch s
      · split
        · exact (onChannel ch s).trans (ih _)
        · split
          · exact onChannel ch s
          · split
            · exact onChannelRaise ch s (onChannel ch s)
            · split
              · exact executeCue ch s _ _
              · exact (executeCue ch s _ _).trans (ih _)

theorem reseek (start : Int) : CountsKept ch s (reseek ch start s) := by
  unfold Machine.reseek
  exact onChannel ch s

theorem cueScan (start limit : Int) (time : Nat) : CountsKept ch s (cueScan ch start limit time s) := by
  unfold Machine.cueScan
  dsimp only
  split <;> split
  · exact (reseek ch s _).trans (scan ch _ _ _)
  · exact reseek ch s _
  · exact scan ch s _ _
  · exact refl ch s

theorem wrapScan (time : Nat) : CountsKept ch s (wrapScan ch time s) := by
  unfold Machine.wrapScan
  dsimp only
  split
  · exact (onChannel ch s).trans (onChannel ch _)
  · exact onChannel ch s
  · exact ((onChannel ch s).trans (onChannel ch _)).trans (scan ch _ _ _)

theorem raiseAhead (src : Option BreakSource) (time : Nat) : CountsKept ch s (raiseAhead ch src time s) := by
  cases src with
  | none => exact refl ch s
  | some b => exact of_eq rfl rfl

/-- A wrap after its new pass (R151): the announcement, the notices and the scan leave the counts. -/
theorem wrap (cause : Option BreakCause) (time : Nat) :
    CountsKept ch (s.onChannel ch (Channel.newPass (s.base ch))) (wrap ch cause time s) := by
  have hannounce (u : State) (src : Option BreakSource) : CountsKept ch u (u.onChannel ch (Channel.announce src)) :=
    onChannel ch u fun c => by cases src <;> exact ⟨rfl, rfl, rfl, rfl⟩
  unfold Machine.wrap
  dsimp only
  refine ((hannounce _ (breakSource ch (s.onChannel ch (Channel.newPass (s.base ch))))).trans ?_).trans
    ((raiseAhead ch _ _ _).trans (wrapScan ch _ _))
  cases cause with
  | none => exact refl ch _
  | some b => exact of_eq rfl rfl

end CountsKept

/-! ## The clips that a step leaves (R59) -/

/-- A clip as it was, but for a use count that is no higher. -/
def Clip.UsedLess (c c' : Clip) : Prop := ∃ n ≤ c.useCount, c' = c.withUse n

theorem Clip.UsedLess.refl (c : Clip) : c.UsedLess c := ⟨c.useCount, le_rfl, rfl⟩

theorem Clip.UsedLess.trans {a b c : Clip} (h : a.UsedLess b) (k : b.UsedLess c) : a.UsedLess c := by
  obtain ⟨n, hn, rfl⟩ := h
  obtain ⟨m, hm, rfl⟩ := k
  exact ⟨m, hm.trans hn, rfl⟩

/-- The clips as they were, but for use counts that are no higher. -/
structure ClipsUsed (s t : State) : Prop where
  wf : s.clips.wf → t.clips.wf
  clip : ∀ id, Option.Rel Clip.UsedLess (s.clip id) (t.clip id)

theorem ClipsUsed.of_clips {s t : State} (h : t.clips = s.clips) : ClipsUsed s t := by
  refine ⟨fun hwf => h ▸ hwf, fun id => ?_⟩
  rw [clip_of_clips h]
  cases s.clip id with
  | none => exact .none
  | some c => exact .some (.refl c)

theorem ClipsUsed.trans {s t u : State} (h : ClipsUsed s t) (k : ClipsUsed t u) : ClipsUsed s u := by
  refine ⟨fun hs => k.wf (h.wf hs), fun id => ?_⟩
  have h1 := h.clip id
  have h2 := k.clip id
  generalize s.clip id = a, t.clip id = b, u.clip id = c at h1 h2
  cases h1 with
  | none => exact h2
  | some hf => cases h2 with
    | some hk => exact .some (hf.trans hk)

theorem ClipsUsed.leaveClip (b : Binding) (s : State) : ClipsUsed s (leaveClip b s) := by
  refine ⟨fun h => leaveClip_wf h b, fun id => ?_⟩
  rw [clip_leaveClip]
  cases s.clip id with
  | none => split <;> exact .none
  | some c =>
    split
    · exact .some ⟨_, Nat.sub_le _ _, rfl⟩
    · exact .some (.refl c)

/-- A fold of operations each of which leaves the clips but for use counts does so. -/
theorem ClipsUsed.foldl {α : Type} {f : State → α → State} (hf : ∀ s a, ClipsUsed s (f s a)) (l : List α) (s : State) :
    ClipsUsed s (l.foldl f s) := by
  induction l generalizing s with
  | nil => exact of_clips rfl
  | cons a l ih => exact (hf s a).trans (ih _)

/-- What motion leaves: the hold-off counter and the clips, whose use counts it may lower (R115). -/
structure MotionKept (ch : Fin 4) (s t : State) : Prop where
  clips : ClipsUsed s t
  holdOff : (t.channel ch).holdOff = (s.channel ch).holdOff

namespace MotionKept

variable (ch : Fin 4) (s : State)

theorem of_clips {ch : Fin 4} {s t : State} (hclips : t.clips = s.clips)
    (hoff : (t.channel ch).holdOff = (s.channel ch).holdOff) : MotionKept ch s t := ⟨.of_clips hclips, hoff⟩

theorem of_counts {ch : Fin 4} {s t : State} (h : CountsKept ch s t) : MotionKept ch s t := of_clips h.clips h.holdOff

theorem refl : MotionKept ch s s := of_clips rfl rfl

theorem trans {ch : Fin 4} {s t u : State} (h : MotionKept ch s t) (k : MotionKept ch t u) : MotionKept ch s u :=
  ⟨h.clips.trans k.clips, k.holdOff.trans h.holdOff⟩

theorem onChannel {f : Channel → Channel} (h : ∀ c, (f c).holdOff = c.holdOff := by exact fun _ => rfl) :
    MotionKept ch s (s.onChannel ch f) :=
  of_clips rfl ((congrArg Channel.holdOff (State.channel_onChannel_self s ch f)).trans (h _))

theorem raise (time : Nat) (body : NoticeBody) : MotionKept ch s (raise time body s) := of_clips rfl rfl

theorem leaveClip (b : Binding) : MotionKept ch s (leaveClip b s) := ⟨.leaveClip b s, by rw [leaveClip_channel]⟩

theorem wrap (cause : Option BreakCause) (time : Nat) : MotionKept ch s (wrap ch cause time s) :=
  (onChannel ch s).trans (of_counts (CountsKept.wrap ch s cause time))

theorem setAtLive (i : Fin 8) (live : Bool) (time after : Nat) : MotionKept ch s (setAtLive ch i live time after s) := by
  rw [setAtLive_eq, raiseIf]
  split
  · exact (onChannel ch s).trans (raise ch _ _ _)
  · exact onChannel ch s

theorem overtake (i : Fin 8) (x : Int) (p time : Nat) : MotionKept ch s (overtake ch i x p time s) := by
  rw [overtake_eq, raiseIf]
  split
  · exact (onChannel ch s).trans (raise ch _ _ _)
  · exact onChannel ch s

theorem freeBounds (i : Fin 8) (x : Int) (moving : Bool) (time after : Nat) :
    MotionKept ch s (freeBounds ch i x moving time after s) := by
  unfold Machine.freeBounds
  dsimp only
  split
  · exact onChannel ch s
  · refine trans ?_ (setAtLive ch _ _ _ _ _)
    split
    · exact onChannel ch s
    · split
      · split
        · exact (onChannel ch s).trans (raise ch _ _ _)
        · exact overtake ch s _ _ _ _
      · exact onChannel ch s

theorem stopAtEnd (id out : Nat) (action : EndAction) (noLive : Option Bool) (time after : Nat) :
    MotionKept ch s (stopAtEnd ch id out action noLive time after s) := (onChannel ch s).trans (raise ch _ _ _)

theorem runOn (id tin : Nat) (stream : Fin 8) (lo hi : Nat) (x : Int) (time after : Nat) :
    MotionKept ch s (runOn ch id tin stream lo hi x time after s) := by
  have hfree := leaveClip ch s (s.channel ch).binding
  unfold Machine.runOn
  dsimp only
  refine trans ?_ (raise ch _ _ _)
  split
  · exact (hfree.trans (onChannel ch _)).trans (setAtLive ch _ _ _ _ _)
  · split
    · exact (hfree.trans (onChannel ch _)).trans (overtake ch _ _ _ _ _)
    · exact hfree.trans (onChannel ch _)

theorem endAction (id tin out : Nat) (x : Int) (time after : Nat) :
    MotionKept ch s (endAction ch id tin out x time after s).state := by
  unfold Machine.endAction
  dsimp only
  split
  · exact stopAtEnd ch s _ _ _ _ _ _
  · split
    · exact stopAtEnd ch s _ _ _ _ _ _
    · split
      · exact stopAtEnd ch s _ _ _ _ _ _
      · exact runOn ch s _ _ _ _ _ _ _ _
  · split
    · exact (onChannel ch s).trans (raise ch _ _ _)
    · dsimp only
      exact wrap ch s _ _

theorem clipBounds (id tin out : Nat) (x : Int) (time after : Nat) :
    MotionKept ch s (clipBounds ch id tin out x time after s).state := by
  unfold Machine.clipBounds
  split
  · exact (onChannel ch s).trans (raise ch _ _ _)
  · split
    · exact endAction ch s _ _ _ _ _ _
    · dsimp only
      exact onChannel ch s

theorem holdStep (time after : Nat) : MotionKept ch s (holdStep ch time after s) := by
  unfold Machine.holdStep
  dsimp only
  split
  · exact (onChannel ch s).trans (freeBounds ch _ _ _ _ _ _)
  · exact onChannel ch s

theorem movingStep (time after : Nat) : MotionKept ch s (movingStep ch time after s).state := by
  have h : MotionKept ch s (s.onChannel ch Channel.ramped) := onChannel ch s
  unfold Machine.movingStep
  dsimp only
  split
  · exact h.trans (freeBounds ch _ _ _ _ _ _)
  · split
    · exact h.trans (clipBounds ch _ _ _ _ _ _ _)
    · exact h
  · exact h

theorem flagReseek (p0 : Nat) : MotionKept ch s (flagReseek ch p0 s) := by
  rw [flagReseek_eq]
  exact onChannel ch s

theorem motionShowing (time after : Nat) : MotionKept ch s (motionShowing ch time after s) := by
  unfold Machine.motionShowing
  dsimp only
  split
  · exact (holdStep ch s _ _).trans (flagReseek ch _ _)
  · split
    · split
      · exact ((movingStep ch s _ _).trans (flagReseek ch _ _)).trans (of_counts (.cueScan ch _ _ _ _))
      · exact (movingStep ch s _ _).trans (flagReseek ch _ _)
    · exact movingStep ch s _ _

theorem motion (time : Nat) : MotionKept ch s (motion ch time s) := motionShowing ch s _ _

end MotionKept

theorem Steady.clipsUsed {ch : Fin 4} {s t : State} (h : Steady ch s t) : ClipsUsed s t := .of_clips h.clips

theorem clipsUsed_stepPartB (ch : Fin 4) (time : Nat) (began : ChannelState) (s : State) :
    ClipsUsed s (stepPartB ch time began s) := by
  unfold stepPartB
  split
  · refine ClipsUsed.trans ?_ (MotionKept.motion ch _ time).clips
    rw [shuttleStep_eq]
    split
    · exact .of_clips rfl
    · split <;> exact .of_clips rfl
  · rw [breakTimerStep_eq]
    split
    · exact (ClipsUsed.of_clips rfl : ClipsUsed s (s.onChannel ch fun c => { c with breakTimer := 0 })).trans
        (MotionKept.wrap ch _ _ _).clips
    · exact .of_clips rfl
  · exact .of_clips rfl

theorem clipsUsed_channelStep (h : Nat) (s : State) (ch : Fin 4) : ClipsUsed s (channelStep h s ch) :=
  ((Steady.outputStep ch s h).clipsUsed.trans (clipsUsed_stepPartB ch _ _ _)).trans
    ((Steady.stepPartC ch _).trans (Steady.settleFault ch _ _)).clipsUsed

end Sys2Proof.Machine
end

section
/-! PROOFS. A house frame boundary: what it leaves, the clips it closes, and the pulses it counts (R10, R11, R66, R175). -/

namespace Sys2Proof.Machine

/-! ## The clips closed (R66) -/

/-- A clip at a boundary whose house time is `time` (R66). -/
def Clip.closedAt (time : Nat) (c : Clip) : Clip :=
  { c with
    state := if c.state = .closing ∧ (c.outPoint.any fun out => decide (out ≤ time)) = true then .closed else c.state }

theorem Clip.closedAt_closing {time out : Nat} {c : Clip} (hst : c.state = .closing) (hout : c.outPoint = some out)
    (hle : out ≤ time) : c.closedAt time = { c with state := .closed } := by
  have hany : (c.outPoint.any fun out => decide (out ≤ time)) = true := by
    rw [hout]
    exact decide_eq_true hle
  exact congrArg (fun st => ({ c with state := st } : Clip)) (if_pos ⟨hst, hany⟩)

theorem Clip.closedAt_of_not {time : Nat} {c : Clip} (h : ∀ out, c.outPoint = some out → ¬(c.state = .closing ∧ out ≤ time)) :
    c.closedAt time = c := by
  refine congrArg (fun st => ({ c with state := st } : Clip)) (if_neg fun hclosed => ?_)
  obtain ⟨hst, hany⟩ := hclosed
  obtain ⟨out, hout, hle⟩ := (Option.any_eq_true _ _).mp hany
  exact h out hout ⟨hst, of_decide_eq_true hle⟩

theorem closeClip_of (time : Nat) (s : State) (e : Nat × Clip) : closeClip time s e =
    match e.2.outPoint with
    | some out =>
      if e.2.state = .closing ∧ out ≤ time then
        raise time (.clipClosed e.1 e.2.inPoint (some out))
          { s with clips := s.clips.insert e.1 { e.2 with state := .closed } }
      else s
    | none => s := by
  unfold closeClip
  cases hout : e.2.outPoint with
  | none => cases e.2.state <;> rfl
  | some out => cases e.2.state <;> simp

theorem clip_closeClip {time : Nat} {s : State} {a : Nat × Clip} (ha : s.clip a.1 = some a.2) (id : Nat) :
    (closeClip time s a).clip id = if id = a.1 then (s.clip id).map (Clip.closedAt time) else s.clip id := by
  have hsame (h : a.2.closedAt time = a.2) :
      s.clip id = if id = a.1 then (s.clip id).map (Clip.closedAt time) else s.clip id := by
    split
    · rename_i e
      rw [e, ha, Option.map_some, h]
    · rfl
  rw [closeClip_of]
  cases hout : a.2.outPoint with
  | none =>
    refine hsame (Clip.closedAt_of_not fun out h => ?_)
    rw [hout] at h
    cases h
  | some out =>
    dsimp only
    split
    · rename_i hle
      have hclip := clip_insert s a.1 id { a.2 with state := .closed }
      refine (clip_of_clips (raise_clips _ _ _) id).trans (hclip.trans ?_)
      split
      · rename_i e
        rw [e, ha, Option.map_some, Clip.closedAt_closing hle.1 hout hle.2]
      · rfl
    · rename_i hle
      refine hsame (Clip.closedAt_of_not fun o h => ?_)
      rw [hout] at h
      cases h
      exact hle

/-- Each clip of a table in order, after the closings of a boundary. -/
theorem clip_closeClips {time : Nat} {s : State} (hwf : s.clips.wf) (id : Nat) :
    (closeClips time s).clip id = (s.clip id).map (Clip.closedAt time) := by
  have hperm := clipList_perm s.clips
  have hlisted : ∀ e ∈ clipList s.clips, s.clip e.1 = some e.2 := fun e he =>
    Table.find_of_mem hwf (hperm.mem_iff.mp he)
  have hnodup : (clipList s.clips).Pairwise fun a b => a.1 ≠ b.1 :=
    List.pairwise_map.mp ((hperm.map Prod.fst).nodup_iff.mpr (List.Pairwise.imp Nat.ne_of_lt hwf))
  have hheld : id ∈ (clipList s.clips).map Prod.fst ∨ s.clip id = none := by
    cases hc : s.clip id with
    | none => exact .inr rfl
    | some c => exact .inl (List.mem_map.mpr ⟨(id, c), hperm.mem_iff.mpr (Table.mem_of_find hc), rfl⟩)
  have hfold : ∀ (l : List (Nat × Clip)) (u : State), (∀ e ∈ l, u.clip e.1 = some e.2) →
      l.Pairwise (fun a b => a.1 ≠ b.1) → (l.foldl (closeClip time) u).clip id =
        if id ∈ l.map Prod.fst then (u.clip id).map (Clip.closedAt time) else u.clip id := by
    intro l
    induction l with
    | nil => simp
    | cons a l ih =>
      intro u hl hne
      obtain ⟨hna, hne⟩ := List.pairwise_cons.mp hne
      have ha := hl a List.mem_cons_self
      have hrest : ∀ e ∈ l, (closeClip time u a).clip e.1 = some e.2 := fun e he => by
        rw [clip_closeClip ha, if_neg (hna e he).symm]
        exact hl e (List.mem_cons_of_mem _ he)
      rw [List.foldl_cons, ih _ hrest hne, clip_closeClip ha]
      by_cases hid : id = a.1
      · have hno : id ∉ l.map Prod.fst := fun h => by
          obtain ⟨e, he, hi⟩ := List.mem_map.mp h
          exact hna e he (hid.symm.trans hi.symm)
        rw [if_neg hno, if_pos hid, if_pos (hid ▸ List.mem_cons_self)]
      · rw [if_neg hid, List.map_cons]
        simp only [List.mem_cons, hid, false_or]
  unfold closeClips
  rw [hfold _ _ hlisted hnodup]
  obtain hin | hnone := hheld
  · rw [if_pos hin]
  · rw [hnone]
    split <;> rfl

/-! ## The pulses counted (R175) -/

theorem line_countPulses (h : Nat) (s : State) (n : Fin 8) : (countPulses h s).line n = (s.line n).countPulse h := by
  have hfold := get_foldl State.line (fun _ => Line.countPulse h) (f := fun t n => t.onLine n (Line.countPulse h))
    (fun t i j => State.line_onLine _ _ _ _) nodup_allEight s n
  rw [if_pos (mem_allEight n)] at hfold
  exact hfold

theorem countPulses_clips (h : Nat) (s : State) : (countPulses h s).clips = s.clips := by
  unfold countPulses
  generalize allEight = l
  induction l generalizing s with
  | nil => rfl
  | cons n l ih => rw [List.foldl_cons, ih]; rfl

end Sys2Proof.Machine

namespace Sys2Proof.Proofs
open Sys2Proof.Machine

/-- Settles O17: the boundary by its receivers, the clips by what a step and the closings leave of them, and the pulses
line by line. -/
theorem boundaryLeavesTheRest : Obligations.BoundaryLeavesTheRest := by
  refine ⟨fun s => ?_, fun s => ?_, fun time s => ?_, line_countPulses⟩
  · have h := boundary_frame s
    exact ⟨h.timer, h.streams, h.groups, h.latches, h.engine, h.cues, h.links, h.store, h.endpoint, h.channels, h.lines,
      h.rest⟩
  · intro h
    refine ⟨congrArg Timer.frames (boundary_timer s), rfl, fun hwf id => ?_⟩
    have hused : ClipsUsed s (allFour.foldl (channelStep h) (s.onTimer fun t => { t with frames := h, fresh := false })) :=
      (ClipsUsed.of_clips rfl :
        ClipsUsed s (s.onTimer fun t => { t with frames := h, fresh := false })).trans
          (.foldl (clipsUsed_channelStep h) _ _)
    have hboundary : (boundary s).clip id = ((allFour.foldl (channelStep h)
        (s.onTimer fun t => { t with frames := h, fresh := false })).clip id).map (Clip.closedAt (h * 2880)) :=
      (clip_of_clips (countPulses_clips _ _) id).trans (clip_closeClips (hused.wf hwf) id)
    have hclip := hused.clip id
    rw [hboundary]
    generalize (allFour.foldl (channelStep h) _).clip id = o at hclip
    refine ⟨fun hnone => ?_, fun c hc => ?_⟩
    · rw [hnone] at hclip
      cases hclip
      rfl
    · rw [hc] at hclip
      cases hclip with
      | some hless =>
        obtain ⟨n, hn, rfl⟩ := hless
        exact ⟨n, hn, rfl⟩
  · exact congrArg (fun f => (clipList s.clips).foldl f s) (funext fun t => funext fun e => closeClip_of time t e)

end Sys2Proof.Proofs
end

section
/-! PROOFS. The rows that are the last count of a counter: each is the next boundary without a pulse, whose step makes that
count (R11, R100, R110, R154, R175). -/

namespace Sys2Proof.Machine

/-! ## The step of a channel at its last counts -/

section
variable {ch : Fin 4} {s : State}

theorem channelStep_steady (h : Nat) (hrun : (s.channel ch).state ≠ .running) (hbr : (s.channel ch).state ≠ .inBreak) :
    Steady ch s (channelStep h s ch) := by
  have hpart : stepPartB ch (h * 2880) (s.channel ch).state (outputStep ch h s) = outputStep ch h s := by
    unfold stepPartB
    split
    · exact absurd ‹_› hrun
    · exact absurd ‹_› hbr
    · rfl
  unfold channelStep
  dsimp only
  rw [hpart]
  exact ((Steady.outputStep ch s h).trans (.stepPartC ch _)).trans (.settleFault ch _ _)

/-- A RUNNING channel's step, but for its motion (R108). -/
theorem channelStep_running (h : Nat) (hrun : (s.channel ch).state = .running) :
    Steady ch (motion ch (h * 2880) (shuttleStep ch (h * 2880) (outputStep ch h s))) (channelStep h s ch) := by
  unfold channelStep
  dsimp only
  rw [hrun]
  exact (Steady.stepPartC ch _).trans (.settleFault ch _ _)

theorem channelStep_lapse (h : Nat) (hrun : (s.channel ch).state = .running) (hsource : (s.channel ch).source = .shuttle)
    (hoff : (s.channel ch).holdOff = 1) : ((channelStep h s ch).channel ch).holdOff = 0 := by
  have hout := (Steady.outputStep ch s h).channel
  rw [(channelStep_running h hrun).channel.holdOff, (MotionKept.motion ch _ _).holdOff, shuttleStep_eq,
    if_pos ⟨hout.source.trans hsource, hout.holdOff.trans hoff⟩, State.channel_raise, State.channel_onChannel_self]

theorem freeBounds_hold (i : Fin 8) (x : Int) (moving : Bool) (time after : Nat) :
    ((freeBounds ch i x moving time after s).channel ch).hold = (s.channel ch).hold := by
  unfold freeBounds
  split
  · rw [State.channel_onChannel_self]
  · dsimp only
    rw [setAtLive_eq, raiseIf_channel, State.channel_onChannel_self]
    split
    · rw [State.channel_onChannel_self]
    · split
      · split
        · rw [State.channel_raise, State.channel_onChannel_self]
          rfl
        · rw [overtake_eq, raiseIf_channel, State.channel_onChannel_self]
      · rw [State.channel_onChannel_self]

theorem holdStep_hold (time after : Nat) :
    ((holdStep ch time after s).channel ch).hold = (s.channel ch).hold - 1 := by
  unfold holdStep
  dsimp only
  split
  · rw [freeBounds_hold, State.channel_onChannel_self]
  · rw [State.channel_onChannel_self]

theorem motion_hold (time : Nat) (hhold : 0 < (s.channel ch).hold) :
    ((motion ch time s).channel ch).hold = (s.channel ch).hold - 1 := by
  unfold motion withPositionAfter
  generalize ((motionShowing ch time 0 s).channel ch).position = p
  unfold motionShowing
  rw [if_pos hhold, flagReseek_eq, State.channel_onChannel_self]
  exact holdStep_hold time p

theorem shuttleStep_rest (time : Nat) : ((shuttleStep ch time s).channel ch).hold = (s.channel ch).hold ∧
    ((shuttleStep ch time s).channel ch).binding = (s.channel ch).binding ∧
    ((shuttleStep ch time s).channel ch).position = (s.channel ch).position := by
  rw [shuttleStep_eq]
  split
  · rw [State.channel_raise, State.channel_onChannel_self]
    exact ⟨rfl, rfl, rfl⟩
  · split
    · rw [State.channel_onChannel_self]
      exact ⟨rfl, rfl, rfl⟩
    · exact ⟨rfl, rfl, rfl⟩

theorem channelStep_holdEnds (h : Nat) (hrun : (s.channel ch).state = .running) (hhold : (s.channel ch).hold = 1) :
    ((channelStep h s ch).channel ch).hold = 0 ∧
      ∀ id a, (s.channel ch).binding = .clip id a →
        ((channelStep h s ch).channel ch).position = (s.channel ch).position := by
  have hout := (Steady.outputStep ch s h).channel
  have hend := (channelStep_running h hrun).channel
  obtain ⟨hh, hb, hp⟩ := shuttleStep_rest (ch := ch) (s := outputStep ch h s) (h * 2880)
  have hone := (hh.trans hout.hold).trans hhold
  refine ⟨?_, fun id a hbind => ?_⟩
  · rw [hend.hold, motion_hold _ (by omega), hone]
  · rw [hend.position, motion_heldClip (by omega) ((hb.trans hout.binding).trans hbind), State.channel_onChannel_self]
    exact hp.trans hout.position

theorem channelStep_breakEnds (h : Nat) (hbr : (s.channel ch).state = .inBreak) (htimer : (s.channel ch).breakTimer = 1) :
    ((channelStep h s ch).channel ch).state = .running ∧ ((channelStep h s ch).channel ch).breakTimer = 0 ∧
      ((channelStep h s ch).channel ch).passCount = ((s.channel ch).passCount + 1) % (s.channel ch).config.passPeriod := by
  have hout := (Steady.outputStep ch s h).channel
  have hend : Steady ch (breakTimerStep ch (h * 2880) (outputStep ch h s)) (channelStep h s ch) := by
    unfold channelStep
    dsimp only
    rw [hbr]
    exact (Steady.stepPartC ch _).trans (.settleFault ch _ _)
  rw [breakTimerStep_eq, if_pos (hout.breakTimer.trans htimer)] at hend
  have hwrap := CountsKept.wrap ch ((outputStep ch h s).onChannel ch fun c => { c with breakTimer := 0 }) (some .timer) (h * 2880)
  have hkept := hwrap.trans hend.counts
  refine ⟨hkept.state.trans ?_, hkept.breakTimer.trans ?_, hkept.passCount.trans ?_⟩ <;>
    rw [State.channel_onChannel_self, State.channel_onChannel_self]
  · rfl
  · rfl
  · show (((outputStep ch h s).channel ch).passCount + 1) % ((outputStep ch h s).channel ch).config.passPeriod = _
    rw [hout.passCount, hout.config]

end

/-! ## The steps of a boundary -/

/-- A channel's record after the steps of a boundary is the one its own step leaves. -/
theorem channel_steps (h : Nat) {ch : Fin 4} {l : List (Fin 4)} (hl : l.Nodup) (hch : ch ∈ l) (s : State) :
    ∃ u, u.channel ch = s.channel ch ∧ (l.foldl (channelStep h) s).channel ch = (channelStep h u ch).channel ch := by
  have hother (u : State) (j : Fin 4) (hj : ch ≠ j) : (channelStep h u j).channel ch = u.channel ch :=
    (Changes.channelStep rfl trivial h u : Changes (.one j) u (channelStep h u j)).channel_ne hj
  induction l generalizing s with
  | nil => cases hch
  | cons j l ih =>
    obtain ⟨hj, hl⟩ := List.nodup_cons.mp hl
    rw [List.foldl_cons]
    by_cases he : ch = j
    · subst he
      exact ⟨s, rfl, ((channel_foldl (P := fun _ => True) (fun _ _ => trivial)
        (fun u i k hk => (Changes.channelStep rfl trivial h u : Changes (.one i) u (channelStep h u i)).channel_ne hk)
        l _ ch).2 hj)⟩
    · obtain ⟨u, hu, hstep⟩ := ih hl ((List.mem_cons.mp hch).resolve_left he) (channelStep h s j)
      exact ⟨u, hu.trans (hother s j he), hstep⟩

/-- With no channel RUNNING or in BREAK, the steps of a boundary leave the lines. -/
theorem lines_steps (h : Nat) (l : List (Fin 4)) {s : State}
    (hrest : ∀ ch, (s.channel ch).state ≠ .running ∧ (s.channel ch).state ≠ .inBreak) :
    (l.foldl (channelStep h) s).lines = s.lines := by
  induction l generalizing s with
  | nil => rfl
  | cons j l ih =>
    have hstep : Steady j s (channelStep h s j) := channelStep_steady h (hrest j).1 (hrest j).2
    rw [List.foldl_cons, ih fun ch => ?_, hstep.lines]
    by_cases he : ch = j
    · subst he
      rw [hstep.channel.state]
      exact hrest ch
    · rw [(Changes.channelStep rfl trivial h s : Changes (.one j) s (channelStep h s j)).channel_ne he]
      exact hrest ch

theorem countPulses_channels (h : Nat) (s : State) : (countPulses h s).channels = s.channels := by
  unfold countPulses
  generalize allEight = l
  induction l generalizing s with
  | nil => rfl
  | cons n l ih => rw [List.foldl_cons, ih]; rfl

/-- After the steps of a boundary, the Clip Table leaves channels and lines as they are. -/
theorem closeClips_rest (time : Nat) (s : State) :
    (closeClips time s).channels = s.channels ∧ (closeClips time s).lines = s.lines := by
  obtain ⟨t, e, hclose, -⟩ := closeClips_eq time s
  rw [hclose]
  exact ⟨rfl, rfl⟩

theorem boundary_channel (s : State) (ch : Fin 4) :
    ∃ h u, u.channel ch = s.channel ch ∧ (boundary s).channel ch = (channelStep h u ch).channel ch := by
  have hboundary : (boundary s).channels = (allFour.foldl (channelStep (nextFrame s.timer.frames))
      (s.onTimer fun t => { t with frames := nextFrame s.timer.frames, fresh := false })).channels := by
    unfold boundary
    dsimp only
    rw [countPulses_channels, (closeClips_rest _ _).1]
  obtain ⟨u, hu, hstep⟩ := channel_steps (nextFrame s.timer.frames) nodup_allFour (mem_allFour ch)
    (s.onTimer fun t => { t with frames := nextFrame s.timer.frames, fresh := false })
  exact ⟨_, u, hu, (congrArg (fun cs => Four.get cs ch) hboundary).trans hstep⟩

theorem boundary_line {s : State}
    (hrest : ∀ ch, (s.channel ch).state ≠ .running ∧ (s.channel ch).state ≠ .inBreak) (n : Fin 8) :
    (boundary s).line n = (s.line n).countPulse (nextFrame s.timer.frames) := by
  have hsteps : (allFour.foldl (channelStep (nextFrame s.timer.frames))
      (s.onTimer fun t => { t with frames := nextFrame s.timer.frames, fresh := false })).lines = s.lines :=
    lines_steps _ allFour (s := s.onTimer fun t => { t with frames := nextFrame s.timer.frames, fresh := false }) hrest
  unfold boundary
  dsimp only
  rw [line_countPulses]
  unfold State.line
  rw [(closeClips_rest _ _).2, hsteps]

theorem noteState_rest (old : RefState) (s : State) :
    (noteState old s).channels = s.channels ∧ (noteState old s).lines = s.lines := by
  unfold noteState
  split <;> exact ⟨rfl, rfl⟩

/-- The next boundary without a pulse, for a timer that is not in UNLOCKED: the channels and lines are those a boundary leaves. -/
theorem nextBoundary_of_locked {s : State} (h : s.timer.state ≠ .unlocked) :
    ∃ t, nextBoundary s = .next t ∧
      t.channels = (boundary (s.onTimer fun t => { t with count := t.due })).channels ∧
      t.lines = (boundary (s.onTimer fun t => { t with count := t.due })).lines := by
  have hcases := nextBoundary_cases s
  dsimp only at hcases
  generalize boundary (s.onTimer fun t => { t with count := t.due }) = b at hcases ⊢
  obtain ⟨hst, -⟩ | ⟨-, hnext⟩ | ⟨-, -, hnext⟩ := hcases
  · exact absurd hst h
  · exact ⟨_, hnext, rfl, rfl⟩
  · obtain ⟨hchannels, hlines⟩ := noteState_rest s.timer.state (b.onTimer Timer.expired)
    exact ⟨_, hnext, hchannels, hlines⟩

end Sys2Proof.Machine

namespace Sys2Proof.Proofs
open Sys2Proof.Machine

/-- Settles O54: each row is the next boundary when its last count is due, and the step of that boundary makes the count. -/
theorem counterExpiries : Obligations.CounterExpiries := by
  intro s next h
  have hnext : next = nextBoundary s := by
    dsimp only [next]
    unfold nextBoundary
    cases s.timer.state <;> rfl
  clear_value next
  subst hnext
  refine ⟨fun ch => ?_, fun n => ?_⟩
  · intro c lapses holdEnds breakEnds
    have hlapse : exec (.shuttleLapse ch) s = if lapses then nextBoundary s else .next s := if_congr decide_eq_true_iff rfl rfl
    have hhold : exec (.holdCountExpiry ch) s = if holdEnds then nextBoundary s else .next s :=
      if_congr decide_eq_true_iff rfl rfl
    have hbreak : exec (.breakTimerExpiry ch) s = if breakEnds then nextBoundary s else .next s :=
      if_congr decide_eq_true_iff rfl rfl
    refine ⟨hlapse, hhold, hbreak, fun hst => ?_⟩
    obtain ⟨t, ht, hchannels, -⟩ := nextBoundary_of_locked hst
    obtain ⟨k, u, hu, hstep⟩ := boundary_channel (s.onTimer fun t => { t with count := t.due }) ch
    have hc : u.channel ch = c := hu
    have hchannel : t.channel ch = (channelStep k u ch).channel ch :=
      (congrArg (fun cs => Four.get cs ch) hchannels).trans hstep
    refine ⟨t, ?_⟩
    rw [hchannel, ← hc]
    refine ⟨fun hl => ⟨?_, ?_⟩, fun hl => ⟨?_, ?_⟩, fun hl => ⟨?_, ?_⟩⟩
    · rw [hlapse, if_pos hl, ht]
    · obtain ⟨hrun, hsource, hoff⟩ := hl
      exact channelStep_lapse k (hc ▸ hrun) (hc ▸ hsource) (hc ▸ hoff)
    · rw [hhold, if_pos hl, ht]
    · obtain ⟨hrun, hone⟩ := hl
      exact channelStep_holdEnds k (hc ▸ hrun) (hc ▸ hone)
    · rw [hbreak, if_pos hl, ht]
    · obtain ⟨hbr, hone⟩ := hl
      exact channelStep_breakEnds k (hc ▸ hbr) (hc ▸ hone)
  · intro l ends
    have hexec : exec (.pulseEnd n) s = if ends then nextBoundary s else .next s := if_congr decide_eq_true_iff rfl rfl
    refine ⟨hexec, fun hl hst => ?_⟩
    obtain ⟨t, ht, -, hlines⟩ := nextBoundary_of_locked hst
    refine ⟨t, by rw [hexec, if_pos hl, ht], fun hrest => ?_⟩
    have hline : t.line n = l.countPulse h :=
      (congrArg (fun ls => Eight.get ls n) hlines).trans
        (boundary_line (s := s.onTimer fun t => { t with count := t.due }) hrest n)
    obtain ⟨houtput, hone, hframe⟩ := hl
    rw [hline, Line.countPulse, if_pos ⟨houtput, by omega, hframe⟩, if_pos hone]

end Sys2Proof.Proofs
end

section
/-! PROOFS. The read requests and their results byte by byte (R70, R71, R106, R132, R136, R177, R189). -/

namespace Sys2Proof.Machine

theorem clipPosition_eq (id : Nat) (t : Table Clip) :
    clipPosition id t = ((clipList t).takeWhile fun e => decide (e.1 ≠ id)).length := by
  have hnot : (fun e : Nat × Clip => !decide (e.1 ≠ id)) = fun e => decide (e.1 = id) := by
    funext e
    rw [decide_not, Bool.not_not]
  rw [List.takeWhile_eq_take_findIdx_not, List.length_take, hnot]
  exact (min_eq_left List.findIdx_le_length).symm

theorem SpeedSource.code_eq (x : SpeedSource) : x.code = if x = .program then 1 else 2 := by cases x <;> rfl

theorem Polarity.code_eq (x : Polarity) : x.code = if x = .activeHigh then 1 else 2 := by cases x <;> rfl

theorem HouseRate.code_eq (x : HouseRate) : x.code = if x = .hz50 then 1 else 2 := by cases x <;> rfl

theorem Polarity.drive_eq (x : Polarity) (active : Bool) : x.drive active = if x = .activeHigh then active else !active := by
  cases x <;> rfl

/-- The assembly state of a stream in a reply (R31). -/
theorem assembly_code (o : Option Assembly) : (if o.isSome then 2 else 1) = if o = none then 1 else 2 := by
  cases o <;> rfl

theorem onAir_eq (c : Channel) : c.onAir = decide (c.state = .running ∨ c.state = .inBreak) := by
  unfold Channel.onAir
  cases c.state <;> simp

theorem drivesPin_iff (s : State) (n : Fin 8) : s.drivesPin n = true ↔
    ((s.line n).function = .output ∨ (s.line n).function = .tally) ∧ s.resetHeld = false := by
  unfold State.drivesPin LineFunction.isInput
  cases (s.line n).function <;> simp

theorem linePin_eq (s : State) (n : Fin 8) : s.linePin n =
    if ((s.line n).function = .output ∨ (s.line n).function = .tally) ∧ s.resetHeld = false then
      (if (s.line n).polarity = .activeHigh then s.lineActive n else !s.lineActive n)
    else (s.line n).pinHigh := by
  unfold State.linePin
  rw [Polarity.drive_eq]
  exact if_congr (drivesPin_iff s n) rfl rfl

/-- The oldest frame a stream can recall, present with a live key (R31). -/
theorem oldest_bytes (key start : Option Nat) : (if key.isSome then start else none).map (be 7) =
    if key = none then none else start.map (be 7) := by
  cases key <;> rfl

end Sys2Proof.Machine

namespace Sys2Proof.Proofs
open Sys2Proof.Machine

/-- Settles O44: each read's results, field by field. -/
theorem readRequests : Obligations.ReadRequests := by
  unfold Obligations.ReadRequests
  intro opt yes bit streams summary params cue route
  have hopt {α : Type} (enc : α → List Byte) (o : Option α) : optional enc o = opt (o.map enc) := by cases o <;> rfl
  have hsummary (e : Nat × Clip) : clipSummary e = summary e.1 e.2 := by
    have hlabel : counted 1 (fun b : Byte => [b]) = fun l => be 1 l.length ++ l := by
      funext l
      rw [counted, List.flatMap_singleton']
    dsimp only [summary]
    unfold clipSummary
    dsimp only
    rw [hopt, hopt, hopt, hlabel, Option.map_map]
    rfl
  have hcue : cueBytes = cue := by
    funext q
    exact congrArg (fun b => be 4 q.mark ++ be 1 q.passRepeat ++ be 1 q.passFirst ++ b) (by cases q.body <;> rfl)
  refine ⟨hsummary, ⟨by decide, by decide, fun k => by cases k <;> decide, by decide, by decide, by decide, by decide, by decide, by decide,
    by decide⟩, fun o s htake => ?_⟩
  intro b answers
  refine ⟨fun id hid => ?_, fun id hid hnone => ?_, fun id c hid hc => ?_, fun ch => ?_, ?_, fun page hp => ?_, fun page hp => ?_,
    ?_, ?_⟩
  · exact takeRequest_refused htake (onClipNo_of_le _ hid)
  · exact takeRequest_refused htake (onClipNo_of_none _ hid hnone)
  · intro place
    refine takeRequest_accepted htake (Eq.trans (b := accept _ b) (onClipNo_of_some _ hid hc) ?_)
    rw [hsummary, clipPosition_eq, hopt]
    rfl
  · intro c k w d mix bound fetches
    refine channelRequest_accepted htake (congrArg (accept · b) ?_)
    have hmix : c.effectiveMix = mix := effectiveMix_eq c
    have hbound : c.binding.bytes = bound := by
      dsimp only [bound]
      cases c.binding <;> exact congrArg (_ ++ ·) (hopt (be 1) _)
    clear_value bound
    show channelBytes ch s = _
    unfold channelBytes Channel.breakFlags ChannelConfig.bytes
    dsimp only
    rw [show s.channel ch = c from rfl, hmix, SpeedSource.code_eq, Warnings.mask_eq, Conditions.mask_eq, hopt, hopt, hopt, hopt, hopt,
      hbound]
    cases c.binding <;> rfl
  · refine takeRequest_accepted htake (congrArg (accept · b) ?_)
    have hentry : optional cueBytes = fun e => opt (e.map cue) := by
      funext e
      rw [hopt, hcue]
    rw [hentry]
    rfl
  · exact takeRequest_refused htake (if_pos hp)
  · intro users
    refine takeRequest_accepted htake ((if_neg (not_le.mpr hp)).trans ?_)
    rw [hcue, counted, ← List.append_assoc]
    rfl
  · refine takeRequest_accepted htake (congrArg (accept · b) (congrArg (List.flatMap · allEight) (funext fun n => ?_)))
    show lineEntry n s = _
    unfold lineEntry
    dsimp only
    rw [Polarity.code_eq, linePin_eq, hopt, hopt, hopt]
    unfold State.lineActive
    dsimp only
    rw [onAir_eq]
    cases (s.line n).function <;> rfl
  · refine takeRequest_accepted htake (congrArg (accept · b) ?_)
    show statusBytes s = _
    unfold statusBytes noticeSettings referencePart storePart counterPart streamPart allotmentPart
    dsimp only
    simp only [assembly_code, oldest_bytes, hopt, HouseRate.code_eq, List.append_assoc]
    rfl

end Sys2Proof.Proofs
end

section
/-! PROOFS. The transmitter: what it chooses, and the packets it sends (R165, R166, R184, R186, R188, R191). -/

namespace Sys2Proof.Machine

/-! ## A band of BLACK (R165) -/

theorem packSamples_black (n : Nat) : packSamples (List.replicate (2 * n) [512, 64]).flatten =
    (List.replicate n ([0x80, 0x04, 0x08, 0x00, 0x40] : List Byte)).flatten := by
  induction n with
  | zero => rfl
  | succ n ih =>
    have hgroup : be 5 (512 * 2 ^ 30 + 64 * 2 ^ 20 + 512 * 2 ^ 10 + 64) = [0x80, 0x04, 0x08, 0x00, 0x40] := by decide
    rw [show 2 * (n + 1) = 2 * n + 1 + 1 from rfl, List.replicate_succ, List.replicate_succ, List.replicate_succ,
      List.flatten_cons, List.flatten_cons, List.flatten_cons, ← ih, ← hgroup]
    rfl

theorem blackBand_eq : blackBand = (List.replicate 7680 ([0x80, 0x04, 0x08, 0x00, 0x40] : List Byte)).flatten :=
  packSamples_black 7680

theorem SentFrame.payload_eq (o : Option SentFrame) (n : Nat) : (o.map fun f => f.band n).getD [] =
    match o with
    | some (.picture f) | some (.fillLast f) => f.getD n []
    | some .fillBlack => (List.replicate 7680 ([0x80, 0x04, 0x08, 0x00, 0x40] : List Byte)).flatten
    | none => [] := by
  cases o with
  | none => rfl
  | some f => cases f with
    | picture bands => rfl
    | fillLast bands => rfl
    | fillBlack => exact blackBand_eq

/-! ## The rotation (R186) -/

theorem rotationFrom_eq (r : Fin 4) : rotationFrom r = allFour.map (r + 1 + ·) := by
  revert r
  decide

/-- The first number that finds something. -/
theorem findSome?_allFour {β : Type} {f : Fin 4 → Option β} {k : Fin 4} {b : β} (hk : f k = some b)
    (hbefore : ∀ j < k, f j = none) : allFour.findSome? f = some b := by
  unfold allFour
  match k, hk, hbefore with
  | 0, hk, _ => simp [hk]
  | 1, hk, hj => simp [hk, hj 0 (by decide)]
  | 2, hk, hj => simp [hk, hj 0 (by decide), hj 1 (by decide)]
  | 3, hk, hj => simp [hk, hj 0 (by decide), hj 1 (by decide), hj 2 (by decide)]

/-- What a channel offers the transmitter of a link (R186). -/
def offered (l : Fin 2) (s : State) (ch : Fin 4) : Option (Fin 4 × Emission) :=
  match (s.channel ch).mixer.emission with
  | some e => if e.link = l then some (ch, e) else none
  | none => none

section
variable {l : Fin 2} {s : State} {ch : Fin 4}

theorem offered_some {e : Emission} (h : (s.channel ch).mixer.emission = some e) (hl : e.link = l) :
    offered l s ch = some (ch, e) := by
  unfold offered
  rw [h]
  exact if_pos hl

theorem offered_none (h : ¬∃ e, (s.channel ch).mixer.emission = some e ∧ e.link = l) : offered l s ch = none := by
  unfold offered
  cases he : (s.channel ch).mixer.emission with
  | none => rfl
  | some e => exact if_neg fun hl => h ⟨e, he, hl⟩

theorem bandReady_eq : bandReady l s = (rotationFrom (s.port l).rotation).findSome? (offered l s) := rfl

/-- The first channel in rotation with an emission on the link. -/
theorem bandReady_some {k : Fin 4} {e : Emission}
    (h : (s.channel ((s.port l).rotation + 1 + k)).mixer.emission = some e) (hl : e.link = l)
    (hbefore : ∀ j < k, ¬∃ e, (s.channel ((s.port l).rotation + 1 + j)).mixer.emission = some e ∧ e.link = l) :
    bandReady l s = some ((s.port l).rotation + 1 + k, e) := by
  rw [bandReady_eq, rotationFrom_eq, List.findSome?_map]
  exact findSome?_allFour (f := offered l s ∘ ((s.port l).rotation + 1 + ·)) (offered_some h hl)
    fun j hj => offered_none (hbefore j hj)

theorem bandReady_none (h : ∀ ch, ¬∃ e, (s.channel ch).mixer.emission = some e ∧ e.link = l) : bandReady l s = none := by
  rw [bandReady_eq, List.findSome?_eq_none_iff]
  exact fun ch _ => offered_none (h ch)

end

theorem ResetProgress.isSending_eq_false (r : ResetProgress) : r.isSending = false ↔ ∀ k, r ≠ .sending k := by
  cases r <;> simp [ResetProgress.isSending]

/-- Whether the transmitter of a link may choose (R178, R186, R191, R192). -/
theorem transmitter_ready_iff (l : Fin 2) (s : State) :
    ((s.port l).up && (s.port l).sending.isNone && !s.resetHeld && !s.endpoint.reset.isSending) = true ↔
      (s.port l).up = true ∧ (s.port l).sending = none ∧ s.resetHeld = false ∧ ∀ k, s.endpoint.reset ≠ .sending k := by
  rw [← ResetProgress.isSending_eq_false]
  simp [and_assoc]

/-! ## The reply and the notice chosen -/

section
variable {l : Fin 2} {s : State}

/-- The reply of the RESET PART taken, which the reset waits for (R191). -/
theorem sendReply_reset {r : Reply} {rest : List Reply} (hkind : r.kind = 46) (hok : r.status = .ok)
    (hqueued : s.endpoint.reset = .queued l) : sendReply l r rest s =
      (s.onPort l fun q => { q with sending := some (r.packet s.endpoint.id).bytes, replies := rest }).onEndpoint fun e =>
        { e with reset := .sending l } :=
  if_pos ⟨decide_eq_true ⟨hkind, hok⟩, hqueued⟩

theorem sendReply_other {r : Reply} {rest : List Reply} (h : r.kind = 46 → s.endpoint.reset ≠ .queued l) :
    sendReply l r rest s =
      s.onPort l fun q => { q with sending := some (r.packet s.endpoint.id).bytes, replies := rest } :=
  if_neg fun hreset => h (of_decide_eq_true hreset.1).1 hreset.2

theorem sendNotice_of {n : Notice} {rest : List Notice} {e : Nat} (hn : s.endpoint.notices = n :: rest)
    (hroute : s.endpoint.route = some ⟨l, e⟩) : sendNotice l s =
      (s.onEndpoint fun x => { x with notices := rest }).onPort l fun q =>
        { q with sending := some (n.packet s.endpoint.id e).bytes } := by
  unfold sendNotice
  rw [hn, hroute]
  exact if_pos rfl

theorem sendNotice_none (h : s.endpoint.notices = [] ∨ ∀ r, s.endpoint.route = some r → r.link ≠ l) :
    sendNotice l s = s := by
  unfold sendNotice
  split
  · rename_i r n rest hroute hn
    exact if_neg (h.resolve_left (by rw [hn]; exact List.cons_ne_nil _ _) r hroute)
  · rfl

end

end Sys2Proof.Machine

namespace Sys2Proof.Proofs
open Sys2Proof.Machine

/-- Settles O58: the sources of the transmitter in their order, with each packet's fields. -/
theorem transmitterChooses : Obligations.TransmitterChooses := by
  unfold Obligations.TransmitterChooses
  intro opt bit bound status clip ref endOf layout black l s p ready onLink band reply notice
  have hopt {α : Type} (enc : α → List Byte) (o : Option α) : optional enc o = opt (o.map enc) := by cases o <;> rfl
  have hlayout (b : NoticeBody) : layout b = (b.code, b.noticeClass.code, b.details) := by
    cases b with
    | clipMarked => exact congrArg (fun d => (4, 3, d)) (by rw [NoticeBody.details, hopt, hopt]; rfl)
    | clipDropped => exact congrArg (fun d => (6, 3, d)) (by rw [NoticeBody.details, hopt]; rfl)
    | protectDone => exact congrArg (fun d => (7, 4, d)) (by rw [NoticeBody.details, hopt]; rfl)
    | commitDone page failing held =>
      exact congrArg (fun d => (7, 4, d)) (by rw [NoticeBody.details, hopt]; cases failing <;> rfl)
    | endReached => exact congrArg (fun d => (9, 5, d)) (by rw [NoticeBody.details, hopt]; rfl)
    | faultLevel =>
      exact congrArg (fun d => (13, 5, d))
        (by rw [NoticeBody.details, hopt, Conditions.mask_eq, Warnings.mask_eq]; rfl)
    | lineEdge => exact congrArg (fun d => (20, 8, d)) (by rw [NoticeBody.details, hopt, hopt]; rfl)
    | _ => rfl
  have hreply (r : Reply) : r.packet s.endpoint.id = reply r := rfl
  have hnotice (e : Nat) (n : Notice) : n.packet s.endpoint.id e = notice e n := by
    dsimp only [notice]
    rw [hlayout]
    rfl
  have hband (ch : Fin 4) (e : Emission) : bandPacket s.endpoint.id ch e (s.channel ch) = band ch e :=
    congrArg (fun d => (⟨1, e.endpoint, s.endpoint.id, ch.val, e.frame, 0, e.next, d⟩ : Packet)) (SentFrame.payload_eq _ _)
  have hchoose (hready : ready) : exec (.transmitChoose l) s = .next (chooseNext l s) :=
    if_pos ((transmitter_ready_iff l s).mpr hready)
  refine ⟨fun hnot => if_neg fun h => hnot ((transmitter_ready_iff l s).mp h), fun hready => ⟨?_, fun hno => ?_⟩,
    fun h => if_neg h, fun h => if_pos h⟩
  · intro k e he hl hbefore ch
    rw [hchoose hready, chooseNext, bandReady_some he hl hbefore]
    dsimp only
    rw [sendBand, ← hband]
    rfl
  · have hnone : bandReady l s = none := bandReady_none hno
    rw [hchoose hready, chooseNext, hnone]
    dsimp only
    refine ⟨fun b rest hf => ?_, fun r rest hf hr hreset => ?_, fun r rest hf hr hreset hkind hok => ?_,
      fun n rest e hf hr hn hroute => ?_, fun hf hr hn => ?_⟩
    · rw [show (s.port l).forward = b :: rest from hf]
    · rw [show (s.port l).forward = [] from hf, show (s.port l).replies = r :: rest from hr]
      dsimp only
      rw [← hreply, sendReply_other fun h hqueued => hreset hqueued h]
    · rw [show (s.port l).forward = [] from hf, show (s.port l).replies = r :: rest from hr]
      dsimp only
      rw [← hreply, sendReply_reset hkind hok hreset]
    · rw [show (s.port l).forward = [] from hf, show (s.port l).replies = [] from hr]
      dsimp only
      rw [← hnotice, sendNotice_of hn hroute]
    · rw [show (s.port l).forward = [] from hf, show (s.port l).replies = [] from hr]
      dsimp only
      rw [sendNotice_none hn]

end Sys2Proof.Proofs
end

section
/-! PROOFS. What a request answers: it is carried out, or it is refused and leaves the state (R184, R185). -/

namespace Sys2Proof.Machine

/-- The answers to a request made in the state `s`. -/
inductive Answers (s : State) : Answer → Prop
  | done (results : List Byte) (t : State) : Answers s (accept results t)
  | accepted (results : List Byte) (t : State) : Answers s ⟨t, .accepted, results⟩
  | refused (st : Status) : Answers s (refuse st s)

namespace Answers

variable {s : State}

/-- A refusal carries no results and leaves the state (R184). -/
theorem of_refusal {a : Answer} (h : Answers s a) (hok : a.status ≠ .ok) (haccepted : a.status ≠ .accepted) :
    a.results = [] ∧ a.state = s := by
  cases h with
  | done => exact absurd rfl hok
  | accepted => exact absurd rfl haccepted
  | refused => exact ⟨rfl, rfl⟩

theorem ite {p : Prop} [Decidable p] {a b : Answer} (ha : p → Answers s a) (hb : ¬p → Answers s b) :
    Answers s (if p then a else b) := by
  split
  · exact ha ‹_›
  · exact hb ‹_›

/-- A request with a check that refuses it. -/
theorem check {p : Prop} [Decidable p] {st : Status} {a : Answer} (ha : Answers s a) :
    Answers s (if p then refuse st s else a) := ite (fun _ => .refused st) fun _ => ha

theorem onChannelNo {n : Nat} {run : Fin 4 → State → Answer} (h : ∀ ch, Answers s (run ch s)) :
    Answers s (onChannelNo n run s) := by
  unfold Machine.onChannelNo
  split
  · exact .refused _
  · exact h _

theorem withFlag {n : Nat} {run : Bool → State → Answer} (h : ∀ b, Answers s (run b s)) : Answers s (withFlag n run s) := by
  unfold Machine.withFlag
  split
  · exact .refused _
  · exact h _

theorem onClipNo {id : Nat} {run : Clip → State → Answer} (h : ∀ c, Answers s (run c s)) : Answers s (onClipNo id run s) := by
  unfold Machine.onClipNo
  refine check ?_
  split
  · exact .refused _
  · exact h _

/-! ## Timer, recorder, store, marks -/

theorem setHouseTime (rate count : Nat) : Answers s (setHouseTime rate count s) := by
  unfold Machine.setHouseTime
  split
  · exact .refused _
  · exact check (check (.done _ _))

theorem enableStream (stream sourceId link k : Nat) : Answers s (enableStream stream sourceId link k s) := by
  unfold Machine.enableStream
  split
  · exact ite (fun _ => check (check (check (check (check (.done _ _)))))) fun _ => .refused _
  · exact .refused _

theorem disableStream (stream : Nat) : Answers s (disableStream stream s) := by
  unfold Machine.disableStream
  split
  · exact .refused _
  · exact .done _ _

theorem configureStore (pairs : Eight (Nat × Nat)) : Answers s (configureStore pairs s) := by
  unfold Machine.configureStore
  split
  · exact .refused _
  · exact .done _ _

theorem setMarkGroup (group : Nat) (angles : List Nat) (d pre post recycle : Nat) :
    Answers s (setMarkGroup group angles d pre post recycle s) := by
  unfold Machine.setMarkGroup
  split
  · exact ite (fun _ => .done _ _) fun _ => .refused _
  · exact .refused _

theorem readMarkGroup (group : Nat) : Answers s (readMarkGroup group s) := by
  unfold Machine.readMarkGroup
  split
  · exact .refused _
  · exact .done _ _

theorem answerMark (r : Except Status Marked) : Answers s (answerMark r s) := by
  cases r with
  | error e => exact .refused _
  | ok m => exact .done _ _

theorem markRequest (k : MarkKind) (group : Nat) (time : MarkTime) : Answers s (markRequest k group time s) := by
  unfold Machine.markRequest
  split
  · exact .refused _
  · exact answerMark _

theorem setClipLabel (id : Nat) (label : List Byte) : Answers s (setClipLabel id label s) :=
  check (onClipNo fun _ => .done _ _)

theorem dropClip (id : Nat) : Answers s (dropClip id s) := onClipNo fun _ => check (check (.done _ _))

theorem listClips (start count : Nat) : Answers s (listClips start count s) := check (.done _ _)

theorem readClip (id : Nat) : Answers s (readClip id s) := onClipNo fun _ => .done _ _

theorem takeLatch (line action group : Nat) : Answers s (takeLatch line action group s) := by
  unfold Machine.takeLatch
  split
  · split
    · exact .refused _
    · unfold takeCaptured
      dsimp only
      split
      · exact .done _ _
      · split
        · exact .refused _
        · exact .done _ _
  · exact .refused _

theorem protectClip (id : Nat) : Answers s (protectClip id s) := onClipNo fun _ => check (check (.accepted _ _))

theorem releaseClip (id : Nat) : Answers s (releaseClip id s) := by
  refine onClipNo fun c => check ?_
  split
  · exact .done _ _
  · exact .done _ _
  · exact .refused _

/-! ## Channels -/

theorem configureChannel (a : ChannelArgs) (ch : Fin 4) : Answers s (configureChannel a ch s) := by
  unfold Machine.configureChannel
  split
  · exact .refused _
  · exact check (.done _ _)

theorem bindChannel (f : BindForm) (ch : Fin 4) : Answers s (bindChannel f ch s) := by
  unfold Machine.bindChannel
  dsimp only
  split
  · exact .refused _
  · refine check ?_
    split
    · exact .refused _
    · exact .done _ _

theorem play (target : Int) (immediate : Bool) (ch : Fin 4) : Answers s (play target immediate ch s) :=
  check (check (.done _ _))

theorem stopPlay (immediate : Bool) (ch : Fin 4) : Answers s (stopPlay immediate ch s) := check (.done _ _)

theorem shuttle (speed : Int) (ch : Fin 4) : Answers s (shuttle speed ch s) := check (check (.done _ _))

theorem jog (n : Int) (ch : Fin 4) : Answers s (jog n ch s) := ite (fun _ => .done _ _) fun _ => .refused _

theorem seek (f : SeekForm) (ch : Fin 4) : Answers s (seek f ch s) := ite (fun _ => .done _ _) fun _ => .refused _

theorem angle (n : Nat) (ch : Fin 4) : Answers s (angle n ch s) := by
  unfold Machine.angle
  dsimp only
  refine check ?_
  split
  · exact ite (fun _ => .done _ _) fun _ => .refused _
  · split
    · exact .refused _
    · split
      · exact .refused _
      · exact .done _ _
  · exact .refused _

theorem requestBreak (ch : Fin 4) : Answers s (requestBreak ch s) := ite (fun _ => .done _ _) fun _ => .refused _

theorem continueBreak (ch : Fin 4) : Answers s (continueBreak ch s) := by
  unfold Machine.continueBreak
  dsimp only
  split
  · exact .refused _
  · exact .done _ _
  · exact ite (fun _ => .done _ _) fun _ => .done _ _
  · exact .done _ _

/-! ## Cues, lines, endpoint -/

theorem stageCues (start : Nat) (records : List CueRecord) : Answers s (stageCues start records s) := check (check (.done _ _))

theorem clearStaging : Answers s (clearStaging s) := check (.done _ _)

theorem commitCuePage (page : Nat) : Answers s (commitCuePage page s) := check (check (check (.accepted _ _)))

theorem readCuePage (page : Nat) : Answers s (readCuePage page s) := check (.done _ _)

theorem bindCues (first count : Nat) (ch : Fin 4) : Answers s (bindCues first count ch s) := check (check (.done _ _))

theorem configureLine (n f ch p a g : Nat) : Answers s (configureLine n f ch p a g s) := by
  unfold Machine.configureLine
  split
  · exact .done _ _
  · exact .refused _

theorem setNoticeEnables (classes : Nat) : Answers s (setNoticeEnables classes s) := check (.done _ _)

theorem setNoticeRoute (r : Option RouteArg) : Answers s (setNoticeRoute r s) := by
  unfold Machine.setNoticeRoute
  split
  · exact .refused _
  · exact .done _ _

end Answers

/-- Every request is carried out or refused. -/
theorem requestRun_answers {i : Instr} {o : Origin} {kind : Nat} {run : State → Answer}
    (hi : requestRun i = some (o, kind, run)) (s : State) : Answers s (run s) := by
  cases i with
  | setHouseTime => cases hi; exact .setHouseTime _ _
  | enableStream => cases hi; exact .enableStream _ _ _ _
  | disableStream => cases hi; exact .disableStream _
  | configureStore => cases hi; exact .configureStore _
  | setMarkGroup => cases hi; exact .setMarkGroup _ _ _ _ _ _
  | readMarkGroup => cases hi; exact .readMarkGroup _
  | markIn | markOut | markSpot => cases hi; exact .markRequest _ _ _
  | setClipLabel => cases hi; exact .setClipLabel _ _
  | dropClip => cases hi; exact .dropClip _
  | listClips => cases hi; exact .listClips _ _
  | readClip => cases hi; exact .readClip _
  | takeLatch => cases hi; exact .takeLatch _ _ _
  | protectClip => cases hi; exact .protectClip _
  | releaseClip => cases hi; exact .releaseClip _
  | configureChannel => cases hi; exact .onChannelNo fun ch => .configureChannel _ ch
  | bindChannel => cases hi; exact .onChannelNo fun ch => .bindChannel _ ch
  | play => cases hi; exact .onChannelNo fun ch => .withFlag fun b => .play _ b ch
  | stop => cases hi; exact .onChannelNo fun ch => .withFlag fun b => .stopPlay b ch
  | shuttle => cases hi; exact .onChannelNo fun ch => .shuttle _ ch
  | jog => cases hi; exact .onChannelNo fun ch => .jog _ ch
  | seek => cases hi; exact .onChannelNo fun ch => .seek _ ch
  | angle => cases hi; exact .onChannelNo fun ch => .angle _ ch
  | halt | resetChannel | readChannel | clearWarnings => cases hi; exact .onChannelNo fun _ => .done _ _
  | stageCues => cases hi; exact .stageCues _ _
  | clearStaging => cases hi; exact .clearStaging
  | commitCuePage => cases hi; exact .commitCuePage _
  | readCuePage => cases hi; exact .readCuePage _
  | bindCues => cases hi; exact .onChannelNo fun ch => .bindCues _ _ ch
  | requestBreak => cases hi; exact .onChannelNo fun ch => .requestBreak ch
  | continue_ => cases hi; exact .onChannelNo fun ch => .continueBreak ch
  | configureLine => cases hi; exact .configureLine _ _ _ _ _ _
  | setLines | clearLines | pulseLines | readStaging | readLines | readStatus | clearStatus | resetPart =>
    cases hi; exact .done _ _
  | setNoticeEnables => cases hi; exact .setNoticeEnables _
  | setNoticeRoute => cases hi; exact .setNoticeRoute _
  | unknownRequest =>
    rw [requestRun_unknown] at hi
    split at hi
    · cases hi
    · cases hi
      exact .refused _
  | _ => cases hi

/-- No request writes a reply queue: its reply joins by the arbiter alone (R184). -/
theorem requestRun_replies {i : Instr} {o : Origin} {kind : Nat} {run : State → Answer}
    (hi : requestRun i = some (o, kind, run)) (s : State) (l : Fin 2) : ((run s).state.port l).replies = (s.port l).replies := by
  by_cases h : i = .clearStatus o
  · subst h
    cases hi
    exact (congrArg Link.replies (port_clearCounters s l) : _ = (s.port l).clearCounters.replies)
  · have hscope : Changes ⟨fun _ => True, True, False⟩ s (run s).state :=
      requestRun_changes (fun _ => trivial) trivial hi h s
    unfold State.port
    rw [hscope.outOfScope.links id]

end Sys2Proof.Machine
end

section
/-! PROOFS. The argument bytes of requests: each reader against its encoder, both ways (R180). -/

namespace Sys2Proof

/-- A reader reads exactly what an encoder writes of the values that fit, and leaves the bytes after it. -/
def Reads {α : Type} (enc : α → List Byte) (rd : List Byte → Option (α × List Byte)) (ok : α → Bool) : Prop :=
  ∀ bs a rest, rd bs = some (a, rest) ↔ ok a = true ∧ bs = enc a ++ rest

section
variable {α β : Type} {enc : α → List Byte} {rd : List Byte → Option (α × List Byte)} {ok : α → Bool} {a : α}
  {bs rest : List Byte}

/-- A value that fits is read back. -/
theorem Reads.read (h : Reads enc rd ok) (ha : ok a = true) : rd (enc a ++ rest) = some (a, rest) := (h _ _ _).mpr ⟨ha, rfl⟩

/-- What stands in front of the rest of a reader. -/
theorem Reads.bind (h : Reads enc rd ok) {k : α × List Byte → Option β} {y : β} (hk : (rd bs >>= k) = some y) :
    ∃ a rest, ok a = true ∧ bs = enc a ++ rest ∧ k (a, rest) = some y := by
  obtain ⟨⟨a, rest⟩, hr, hy⟩ := Option.bind_eq_some_iff.mp hk
  obtain ⟨ha, hbs⟩ := (h _ _ _).mp hr
  exact ⟨a, rest, ha, hbs, hy⟩

/-- A reader that is read back goes on with the rest. -/
theorem Reads.read_bind (h : Reads enc rd ok) (ha : ok a = true) (k : α × List Byte → Option β) :
    (rd (enc a ++ rest) >>= k) = k (a, rest) := by
  rw [h.read ha]
  rfl

/-- A value read under a constructor. -/
theorem Reads.map (h : Reads enc rd ok) {f : α → β} {y : β} (hm : (rd bs).map (fun x => (f x.1, x.2)) = some (y, rest)) :
    ∃ a, ok a = true ∧ bs = enc a ++ rest ∧ y = f a := by
  obtain ⟨⟨a, r⟩, hr, he⟩ := Option.map_eq_some_iff.mp hm
  obtain ⟨ha, hbs⟩ := (h _ _ _).mp hr
  cases he
  exact ⟨a, ha, hbs, rfl⟩

theorem Reads.read_map (h : Reads enc rd ok) (ha : ok a = true) (f : α → β) :
    (rd (enc a ++ rest)).map (fun x => (f x.1, x.2)) = some (f a, rest) := by
  rw [h.read ha]
  rfl

end

/-! ## Numbers -/

/-- Bytes above those of a field do not show in it. -/
theorem be_add_mul (n a x : Nat) : be n (a * 256 ^ n + x) = be n x := by
  induction n generalizing a with
  | zero => rfl
  | succ n ih =>
    have hpos : 0 < 256 ^ n := Nat.pow_pos (by decide)
    have hsplit : a * 256 ^ (n + 1) + x = a * 256 * 256 ^ n + x := by ring
    have hhead : BitVec.ofNat 8 ((a * 256 * 256 ^ n + x) / 256 ^ n) = BitVec.ofNat 8 (x / 256 ^ n) := by
      rw [Nat.add_comm, Nat.add_mul_div_right _ _ hpos]
      exact BitVec.eq_of_toNat_eq (Nat.add_mul_mod_self_right _ _ _)
    unfold be
    rw [hsplit, hhead, ih]

theorem be_ofBE (l : List Byte) : be l.length (ofBE l) = l := by
  induction l with
  | nil => rfl
  | cons b l ih =>
    have hpos : 0 < 256 ^ l.length := Nat.pow_pos (by decide)
    have hhead : (b.toNat * 256 ^ l.length + ofBE l) / 256 ^ l.length = b.toNat := by
      rw [Nat.add_comm, Nat.add_mul_div_right _ _ hpos, Nat.div_eq_of_lt (ofBE_lt l), Nat.zero_add]
    show BitVec.ofNat 8 ((b.toNat * 256 ^ l.length + ofBE l) / 256 ^ l.length) ::
      be l.length (b.toNat * 256 ^ l.length + ofBE l) = b :: l
    rw [hhead, be_add_mul, ih, BitVec.ofNat_toNat, BitVec.setWidth_eq]

theorem reads_nat (n : Nat) : Reads (be n) (readNat n) (fits n) := by
  intro bs x rest
  rw [fits, decide_eq_true_eq]
  refine ⟨fun h => ?_, fun ⟨hx, hbs⟩ => hbs ▸ readNat_be hx rest⟩
  unfold readNat at h
  split at h
  · cases h
  · rename_i hlen
    cases h
    have htake : (bs.take n).length = n := by rw [List.length_take]; omega
    have hbytes := be_ofBE (bs.take n)
    rw [htake] at hbytes
    exact ⟨(ofBE_lt _).trans_eq (by rw [htake]), by rw [hbytes, List.take_append_drop]⟩

/-- The number that the two's complement reading of a field writes back is the field's. -/
theorem beInt_signed {n y : Nat} (hn : 0 < n) (hy : y < 256 ^ n) :
    fitsInt n (signed n y) = true ∧ beInt n (signed n y) = be n y := by
  obtain ⟨k, rfl⟩ : ∃ k, n = k + 1 := ⟨n - 1, by omega⟩
  have he : 256 ^ (k + 1) = 2 * (128 * 256 ^ k) := by ring
  have hpos : 0 < 256 ^ k := Nat.pow_pos (by decide)
  have hmod : (signed (k + 1) y % (256 ^ (k + 1) : Nat)).toNat = y ∧
      -(256 ^ (k + 1) / 2 : Nat) ≤ signed (k + 1) y ∧ signed (k + 1) y < (256 ^ (k + 1) / 2 : Nat) := by
    unfold signed
    rw [he] at hy ⊢
    generalize 128 * 256 ^ k = m at *
    rw [Nat.mul_div_cancel_left m (by decide)]
    split
    · rw [Int.emod_eq_of_lt (by omega) (by omega)]
      omega
    · rw [Int.sub_emod_right, Int.emod_eq_of_lt (by omega) (by omega)]
      omega
  exact ⟨decide_eq_true hmod.2, congrArg (be (k + 1)) hmod.1⟩

theorem reads_int {n : Nat} (hn : 0 < n) : Reads (beInt n) (readInt n) (fitsInt n) := by
  intro bs x rest
  refine ⟨fun h => ?_, fun ⟨hx, hbs⟩ => ?_⟩
  · obtain ⟨y, hy, rfl, rfl⟩ := (reads_nat n).map h
    obtain ⟨hfits, hbytes⟩ := beInt_signed hn (of_decide_eq_true hy)
    exact ⟨hfits, by rw [hbytes]⟩
  · obtain ⟨hlo, hhi⟩ := of_decide_eq_true hx
    exact hbs ▸ readInt_beInt hn hlo hhi rest

theorem reads_byte : Reads (fun b : Byte => [b]) readByte (fun _ => true) := by
  intro bs b rest
  cases bs with
  | nil => simp [readByte]
  | cons c bs => simp [readByte]

/-! ## Lists and absent fields -/

section
variable {α : Type} {enc : α → List Byte} {rd : List Byte → Option (α × List Byte)} {ok : α → Bool}

theorem Reads.many (h : Reads enc rd ok) (n : Nat) (bs : List Byte) (l : List α) (rest : List Byte) :
    readMany rd n bs = some (l, rest) ↔ l.length = n ∧ l.all ok = true ∧ bs = l.flatMap enc ++ rest := by
  refine ⟨fun hr => ?_, fun ⟨hn, hok, hbs⟩ => ?_⟩
  · induction n generalizing bs l with
    | zero => cases hr; exact ⟨rfl, rfl, rfl⟩
    | succ n ih =>
      unfold readMany at hr
      split at hr
      · cases hr
      · rename_i a bs' ha
        split at hr
        · cases hr
        · rename_i l' rest' hl
          cases hr
          obtain ⟨hlen, hall, rfl⟩ := ih _ _ hl
          obtain ⟨hok, rfl⟩ := (h _ _ _).mp ha
          refine ⟨congrArg (· + 1) hlen, by rw [List.all_cons, hok, hall]; rfl, ?_⟩
          rw [List.flatMap_cons, List.append_assoc]
  · subst hn hbs
    exact readMany_flatMap (fun a ha bs => h.read (List.all_eq_true.mp hok a ha)) rest

theorem Reads.counted (h : Reads enc rd ok) :
    Reads (counted 1 enc) (readCounted rd) fun l => fits 1 l.length && l.all ok := by
  intro bs l rest
  rw [Bool.and_eq_true]
  refine ⟨fun hr => ?_, fun ⟨⟨hlen, hall⟩, hbs⟩ => ?_⟩
  · unfold readCounted at hr
    split at hr
    · rename_i n r hn
      obtain ⟨hfits, rfl⟩ := (reads_nat 1 _ _ _).mp hn
      obtain ⟨rfl, hall, rfl⟩ := (h.many _ _ _ _).mp hr
      exact ⟨⟨hfits, hall⟩, by rw [Sys2Proof.counted, List.append_assoc]⟩
    · cases hr
  · rw [hbs, Sys2Proof.counted, List.append_assoc, readCounted, (reads_nat 1).read hlen]
    exact (h.many _ _ _ _).mpr ⟨rfl, hall, rfl⟩

theorem Reads.optional (h : Reads enc rd ok) : Reads (optional enc) (readOptional rd) fun o => o.all ok := by
  intro bs o rest
  refine ⟨fun hr => ?_, fun ⟨ho, hbs⟩ => ?_⟩
  · unfold readOptional at hr
    split at hr
    · rename_i r hn
      obtain ⟨-, rfl⟩ := (reads_nat 1 _ _ _).mp hn
      cases hr
      exact ⟨rfl, rfl⟩
    · rename_i r hn
      obtain ⟨-, rfl⟩ := (reads_nat 1 _ _ _).mp hn
      obtain ⟨a, ha, rfl, rfl⟩ := h.map hr
      exact ⟨ha, rfl⟩
    · cases hr
  · subst hbs
    cases o with
    | none =>
      have hread : readNat 1 ([0] ++ rest) = some (0, rest) := (reads_nat 1).read (a := 0) rfl
      show readOptional rd ([0] ++ rest) = _
      rw [readOptional, hread]
      rfl
    | some a =>
      have hread : readNat 1 ([1] ++ (enc a ++ rest)) = some (1, enc a ++ rest) := (reads_nat 1).read (a := 1) rfl
      show readOptional rd ([1] ++ (enc a ++ rest)) = _
      rw [readOptional, hread]
      exact h.read_map ho _

end

/-! ## Compound arguments -/

theorem reads_route : Reads routeArgBytes readRoute RouteArg.wf := by
  intro bs r rest
  refine ⟨fun h => ?_, fun ⟨hr, hbs⟩ => ?_⟩
  · obtain ⟨l, bs1, hl, rfl, h1⟩ := (reads_nat 1).bind h
    obtain ⟨e, bs2, he, rfl, h2⟩ := (reads_nat 1).bind h1
    cases h2
    exact ⟨by rw [RouteArg.wf, hl, he]; rfl, by rw [routeArgBytes, List.append_assoc]⟩
  · obtain ⟨hl, he⟩ := (Bool.and_eq_true _ _).mp hr
    rw [hbs, routeArgBytes, List.append_assoc, readRoute, (reads_nat 1).read_bind hl]
    exact (reads_nat 1).read_bind he _

/-- A field whose first byte is a form: what the form carries. -/
theorem read_form {n : Nat} (hn : fits 1 n = true) (bs : List Byte) : readNat 1 (be 1 n ++ bs) = some (n, bs) :=
  (reads_nat 1).read hn

theorem reads_time : Reads timeBytes readTime MarkTime.wf := by
  intro bs t rest
  refine ⟨fun h => ?_, fun ⟨ht, hbs⟩ => ?_⟩
  · unfold readTime at h
    split at h
    · rename_i r hn
      obtain ⟨-, rfl⟩ := (reads_nat 1 _ _ _).mp hn
      cases h
      exact ⟨rfl, rfl⟩
    · rename_i r hn
      obtain ⟨-, rfl⟩ := (reads_nat 1 _ _ _).mp hn
      obtain ⟨a, ha, rfl, rfl⟩ := (reads_nat 7).map h
      exact ⟨ha, by rw [timeBytes, List.append_assoc]⟩
    · cases h
  · subst hbs
    cases t with
    | now =>
      rw [timeBytes, readTime, read_form rfl]
      rfl
    | explicit a =>
      rw [timeBytes, List.append_assoc, readTime, read_form rfl]
      exact (reads_nat 7).read_map ht _

theorem reads_freePosition : Reads freePositionBytes readFreePosition FreePosition.wf := by
  intro bs p rest
  refine ⟨fun h => ?_, fun ⟨hp, hbs⟩ => ?_⟩
  · unfold readFreePosition at h
    split at h
    · rename_i r hn
      obtain ⟨-, rfl⟩ := (reads_nat 1 _ _ _).mp hn
      obtain ⟨a, ha, rfl, rfl⟩ := (reads_nat 7).map h
      exact ⟨ha, by rw [freePositionBytes, List.append_assoc]⟩
    · rename_i r hn
      obtain ⟨-, rfl⟩ := (reads_nat 1 _ _ _).mp hn
      obtain ⟨a, ha, rfl, rfl⟩ := (reads_nat 3).map h
      exact ⟨ha, by rw [freePositionBytes, List.append_assoc]⟩
    · cases h
  · subst hbs
    cases p with
    | absolute t =>
      rw [freePositionBytes, List.append_assoc, readFreePosition, read_form rfl]
      exact (reads_nat 7).read_map hp _
    | liveMinus n =>
      rw [freePositionBytes, List.append_assoc, readFreePosition, read_form rfl]
      exact (reads_nat 3).read_map hp _

theorem reads_seek : Reads seekBytes readSeek SeekForm.wf := by
  intro bs f rest
  refine ⟨fun h => ?_, fun ⟨hf, hbs⟩ => ?_⟩
  · unfold readSeek at h
    split at h
    · rename_i r hn
      obtain ⟨-, rfl⟩ := (reads_nat 1 _ _ _).mp hn
      obtain ⟨a, ha, rfl, rfl⟩ := (reads_nat 4).map h
      exact ⟨ha, by rw [seekBytes, List.append_assoc]⟩
    · rename_i r hn
      obtain ⟨-, rfl⟩ := (reads_nat 1 _ _ _).mp hn
      obtain ⟨a, ha, rfl, rfl⟩ := (reads_nat 7).map h
      exact ⟨ha, by rw [seekBytes, List.append_assoc]⟩
    · cases h
  · subst hbs
    cases f with
    | relative n =>
      rw [seekBytes, List.append_assoc, readSeek, read_form rfl]
      exact (reads_nat 4).read_map hf _
    | absolute t =>
      rw [seekBytes, List.append_assoc, readSeek, read_form rfl]
      exact (reads_nat 7).read_map hf _

theorem reads_binding : Reads bindingBytes readBinding BindForm.wf := by
  intro bs f rest
  refine ⟨fun h => ?_, fun ⟨hf, hbs⟩ => ?_⟩
  · unfold readBinding at h
    split at h
    · rename_i r hn
      obtain ⟨-, rfl⟩ := (reads_nat 1 _ _ _).mp hn
      obtain ⟨id, bs1, hid, rfl, h1⟩ := (reads_nat 2).bind h
      obtain ⟨a, bs2, ha, rfl, h2⟩ := (reads_nat 1).bind h1
      obtain ⟨off, bs3, hoff, rfl, h3⟩ := (reads_nat 4).bind h2
      cases h3
      exact ⟨by rw [BindForm.wf, hid, ha, hoff]; rfl, by simp only [bindingBytes, List.append_assoc]⟩
    · rename_i r hn
      obtain ⟨-, rfl⟩ := (reads_nat 1 _ _ _).mp hn
      obtain ⟨st, bs1, hst, rfl, h1⟩ := (reads_nat 1).bind h
      obtain ⟨p, bs2, hp, rfl, h2⟩ := reads_freePosition.bind h1
      cases h2
      exact ⟨by rw [BindForm.wf, hst, hp]; rfl, by simp only [bindingBytes, List.append_assoc]⟩
    · cases h
  · subst hbs
    cases f with
    | clip id a off =>
      simp only [BindForm.wf, Bool.and_eq_true] at hf
      obtain ⟨⟨hid, ha⟩, hoff⟩ := hf
      simp only [bindingBytes, List.append_assoc]
      rw [readBinding, read_form rfl]
      exact ((reads_nat 2).read_bind hid _).trans (((reads_nat 1).read_bind ha _).trans ((reads_nat 4).read_bind hoff _))
    | free st p =>
      obtain ⟨hst, hp⟩ := (Bool.and_eq_true _ _).mp hf
      simp only [bindingBytes, List.append_assoc]
      rw [readBinding, read_form rfl]
      exact ((reads_nat 1).read_bind hst _).trans (reads_freePosition.read_bind hp _)

theorem reads_channelArgs : Reads channelArgBytes readChannelArgs ChannelArgs.wf := by
  intro bs a rest
  refine ⟨fun h => ?_, fun ⟨ha, hbs⟩ => ?_⟩
  · obtain ⟨pr, bs1, hpr, rfl, h1⟩ := (reads_nat 2).bind h
    obtain ⟨sr, bs2, hsr, rfl, h2⟩ := (reads_nat 2).bind h1
    obtain ⟨ho, bs3, hho, rfl, h3⟩ := (reads_nat 1).bind h2
    obtain ⟨ea, bs4, hea, rfl, h4⟩ := (reads_nat 1).bind h3
    obtain ⟨pp, bs5, hpp, rfl, h5⟩ := (reads_nat 1).bind h4
    obtain ⟨bl, bs6, hbl, rfl, h6⟩ := (reads_nat 2).bind h5
    obtain ⟨mm, bs7, hmm, rfl, h7⟩ := (reads_nat 1).bind h6
    obtain ⟨fl, bs8, hfl, rfl, h8⟩ := (reads_nat 1).bind h7
    obtain ⟨rt, bs9, hrt, rfl, h9⟩ := reads_route.optional.bind h8
    cases h9
    exact ⟨by rw [ChannelArgs.wf, hpr, hsr, hho, hea, hpp, hbl, hmm, hfl, hrt]; rfl,
      by simp only [channelArgBytes, List.append_assoc]⟩
  · simp only [ChannelArgs.wf, Bool.and_eq_true] at ha
    obtain ⟨⟨⟨⟨⟨⟨⟨⟨hpr, hsr⟩, hho⟩, hea⟩, hpp⟩, hbl⟩, hmm⟩, hfl⟩, hrt⟩ := ha
    subst hbs
    simp only [channelArgBytes, List.append_assoc]
    unfold readChannelArgs
    refine ((reads_nat 2).read_bind hpr _).trans (((reads_nat 2).read_bind hsr _).trans (((reads_nat 1).read_bind hho _).trans
      (((reads_nat 1).read_bind hea _).trans (((reads_nat 1).read_bind hpp _).trans (((reads_nat 2).read_bind hbl _).trans
        (((reads_nat 1).read_bind hmm _).trans (((reads_nat 1).read_bind hfl _).trans ?_)))))))
    exact reads_route.optional.read_bind hrt _

theorem reads_pair : Reads pairBytes readPair pairWf := by
  intro bs p rest
  refine ⟨fun h => ?_, fun ⟨hp, hbs⟩ => ?_⟩
  · obtain ⟨d, bs1, hd, rfl, h1⟩ := (reads_nat 3).bind h
    obtain ⟨f, bs2, hf, rfl, h2⟩ := (reads_nat 2).bind h1
    cases h2
    exact ⟨by rw [pairWf, hd, hf]; rfl, by rw [pairBytes, List.append_assoc]⟩
  · obtain ⟨hd, hf⟩ := (Bool.and_eq_true _ _).mp hp
    rw [hbs, pairBytes, List.append_assoc, readPair, (reads_nat 3).read_bind hd]
    exact (reads_nat 2).read_bind hf _

/-- The type byte a cue's parameters stand under (R128). -/
def CueBody.typeByte : CueBody → Nat
  | .speed .. => 1
  | .hold .. => 2
  | .angle .. => 3
  | .jump .. => 4
  | .ret => 5
  | .line .. => 6
  | .note .. => 7
  | .stop => 8
  | .listEnd => 9
  | .other c => c

/-- A cue's parameters, behind its type byte (R128). -/
def CueBody.paramBytes : CueBody → List Byte
  | .speed v f => beInt 2 v ++ be 1 f
  | .hold n => be 2 n
  | .angle n => be 1 n
  | .jump t => be 4 t
  | .line m a n => be 1 m ++ be 1 a ++ be 1 n
  | .note t => be 1 t
  | .ret | .stop | .listEnd | .other _ => []

theorem bodyArgBytes_eq (b : CueBody) : bodyArgBytes b = be 1 b.typeByte ++ b.paramBytes := by
  cases b <;> simp [bodyArgBytes, CueBody.typeByte, CueBody.paramBytes]

theorem CueBody.typeByte_fits {b : CueBody} (h : b.wf = true) : fits 1 b.typeByte = true := by
  cases b with
  | other c => exact ((Bool.and_eq_true _ _).mp h).1
  | _ => rfl

/-- The parameters of a type byte are read exactly as they are written. -/
theorem readBody_iff {code : Nat} (hcode : fits 1 code = true) (bs : List Byte) (b : CueBody) (rest : List Byte) :
    readBody code bs = some (b, rest) ↔ b.wf = true ∧ code = b.typeByte ∧ bs = b.paramBytes ++ rest := by
  refine ⟨fun h => ?_, fun ⟨hb, hcode, hbs⟩ => ?_⟩
  · unfold readBody at h
    split at h
    · obtain ⟨v, bs1, hv, rfl, h1⟩ := (reads_int (by decide)).bind h
      obtain ⟨f, bs2, hf, rfl, h2⟩ := (reads_nat 1).bind h1
      cases h2
      exact ⟨by rw [CueBody.wf, hv, hf]; rfl, rfl, by rw [CueBody.paramBytes, List.append_assoc]⟩
    · obtain ⟨n, hn, rfl, rfl⟩ := (reads_nat 2).map h
      exact ⟨hn, rfl, rfl⟩
    · obtain ⟨n, hn, rfl, rfl⟩ := (reads_nat 1).map h
      exact ⟨hn, rfl, rfl⟩
    · obtain ⟨n, hn, rfl, rfl⟩ := (reads_nat 4).map h
      exact ⟨hn, rfl, rfl⟩
    · cases h
      exact ⟨rfl, rfl, rfl⟩
    · obtain ⟨m, bs1, hm, rfl, h1⟩ := (reads_nat 1).bind h
      obtain ⟨a, bs2, ha, rfl, h2⟩ := (reads_nat 1).bind h1
      obtain ⟨n, bs3, hn, rfl, h3⟩ := (reads_nat 1).bind h2
      cases h3
      exact ⟨by rw [CueBody.wf, hm, ha, hn]; rfl, rfl, by simp only [CueBody.paramBytes, List.append_assoc]⟩
    · obtain ⟨n, hn, rfl, rfl⟩ := (reads_nat 1).map h
      exact ⟨hn, rfl, rfl⟩
    · cases h
      exact ⟨rfl, rfl, rfl⟩
    · cases h
      exact ⟨rfl, rfl, rfl⟩
    · cases h
      have hout : code = 0 ∨ 9 < code := by
        simp only [imp_false] at *
        omega
      exact ⟨by rw [CueBody.wf, hcode]; simpa using hout, rfl, rfl⟩
  · subst hbs hcode
    cases b with
    | speed v f =>
      obtain ⟨hv, hf⟩ := (Bool.and_eq_true _ _).mp hb
      rw [CueBody.paramBytes, List.append_assoc]
      exact ((reads_int (by decide)).read_bind hv _).trans ((reads_nat 1).read_bind hf _)
    | hold n => exact (reads_nat 2).read_map hb _
    | angle n => exact (reads_nat 1).read_map hb _
    | jump t => exact (reads_nat 4).read_map hb _
    | note t => exact (reads_nat 1).read_map hb _
    | line m a n =>
      simp only [CueBody.wf, Bool.and_eq_true] at hb
      obtain ⟨⟨hm, ha⟩, hn⟩ := hb
      rw [CueBody.paramBytes, List.append_assoc, List.append_assoc]
      exact ((reads_nat 1).read_bind hm _).trans (((reads_nat 1).read_bind ha _).trans ((reads_nat 1).read_bind hn _))
    | other c =>
      have hout : c = 0 ∨ 9 < c := by
        simp only [CueBody.wf, Bool.and_eq_true, Bool.or_eq_true, beq_iff_eq, decide_eq_true_eq] at hb
        exact hb.2
      obtain rfl | ⟨k, rfl⟩ : c = 0 ∨ ∃ k, c = k + 10 := hout.imp_right fun h => ⟨c - 10, by omega⟩
      · rfl
      · rfl
    | _ => rfl

theorem reads_cue : Reads cueArgBytes readCue CueRecord.wf := by
  intro bs q rest
  refine ⟨fun h => ?_, fun ⟨hq, hbs⟩ => ?_⟩
  · obtain ⟨m, bs1, hm, rfl, h1⟩ := (reads_nat 4).bind h
    obtain ⟨r, bs2, hr, rfl, h2⟩ := (reads_nat 1).bind h1
    obtain ⟨f, bs3, hf, rfl, h3⟩ := (reads_nat 1).bind h2
    obtain ⟨t, bs4, ht, rfl, h4⟩ := (reads_nat 1).bind h3
    obtain ⟨⟨b, bs5⟩, hread, hsome⟩ := Option.bind_eq_some_iff.mp h4
    obtain ⟨hb, rfl, rfl⟩ := (readBody_iff ht _ _ _).mp hread
    cases hsome
    exact ⟨by rw [CueRecord.wf, hm, hr, hf, hb]; rfl, by simp only [cueArgBytes, bodyArgBytes_eq, List.append_assoc]⟩
  · simp only [CueRecord.wf, Bool.and_eq_true] at hq
    obtain ⟨⟨⟨hm, hr⟩, hf⟩, hb⟩ := hq
    have hbody : readBody q.body.typeByte (q.body.paramBytes ++ rest) = some (q.body, rest) :=
      (readBody_iff (CueBody.typeByte_fits hb) _ _ _).mpr ⟨hb, rfl, rfl⟩
    subst hbs
    simp only [cueArgBytes, bodyArgBytes_eq, List.append_assoc]
    refine ((reads_nat 4).read_bind hm _).trans (((reads_nat 1).read_bind hr _).trans (((reads_nat 1).read_bind hf _).trans
      (((reads_nat 1).read_bind (CueBody.typeByte_fits hb) _).trans ?_)))
    exact Option.bind_eq_some_iff.mpr ⟨_, hbody, rfl⟩

end Sys2Proof
end

section
/-! PROOFS. Requests and their argument bytes: every request is read back, argument list by argument list
(R180, R184). -/

namespace Sys2Proof

/-! ## Argument lists -/

section
variable {bs : List Byte} {i : Instr}

theorem args1_iff {n : Nat} {f : Nat → Instr} :
    args1 n f bs = some i ↔ ∃ a rest, fits n a = true ∧ bs = be n a ++ rest ∧ i = f a := by
  refine ⟨fun h => ?_, ?_⟩
  · obtain ⟨a, rest, ha, hbs, h1⟩ := (reads_nat n).bind h
    cases h1
    exact ⟨a, rest, ha, hbs, rfl⟩
  · rintro ⟨a, rest, ha, rfl, rfl⟩
    exact (reads_nat n).read_bind ha _

theorem args2_iff {n m : Nat} {f : Nat → Nat → Instr} :
    args2 n m f bs = some i ↔
      ∃ a b rest, fits n a = true ∧ fits m b = true ∧ bs = be n a ++ be m b ++ rest ∧ i = f a b := by
  refine ⟨fun h => ?_, ?_⟩
  · obtain ⟨a, bs1, ha, rfl, h1⟩ := (reads_nat n).bind h
    obtain ⟨b, bs2, hb, rfl, h2⟩ := (reads_nat m).bind h1
    cases h2
    exact ⟨a, b, bs2, ha, hb, (List.append_assoc _ _ _).symm, rfl⟩
  · rintro ⟨a, b, rest, ha, hb, rfl, rfl⟩
    rw [List.append_assoc]
    exact ((reads_nat n).read_bind ha _).trans ((reads_nat m).read_bind hb _)

theorem args3_iff {n m k : Nat} {f : Nat → Nat → Nat → Instr} :
    args3 n m k f bs = some i ↔
      ∃ a b c rest, fits n a = true ∧ fits m b = true ∧ fits k c = true ∧ bs = be n a ++ be m b ++ be k c ++ rest ∧
        i = f a b c := by
  refine ⟨fun h => ?_, ?_⟩
  · obtain ⟨a, bs1, ha, rfl, h1⟩ := (reads_nat n).bind h
    obtain ⟨b, bs2, hb, rfl, h2⟩ := (reads_nat m).bind h1
    obtain ⟨c, bs3, hc, rfl, h3⟩ := (reads_nat k).bind h2
    cases h3
    exact ⟨a, b, c, bs3, ha, hb, hc, by simp only [List.append_assoc], rfl⟩
  · rintro ⟨a, b, c, rest, ha, hb, hc, rfl, rfl⟩
    simp only [List.append_assoc]
    exact ((reads_nat n).read_bind ha _).trans (((reads_nat m).read_bind hb _).trans ((reads_nat k).read_bind hc _))

theorem argsWith_iff {α : Type} {enc : α → List Byte} {rd : List Byte → Option (α × List Byte)} {ok : α → Bool}
    (hrd : Reads enc rd ok) {f : Nat → α → Instr} :
    argsWith rd f bs = some i ↔
      ∃ a x rest, fits 1 a = true ∧ ok x = true ∧ bs = be 1 a ++ enc x ++ rest ∧ i = f a x := by
  refine ⟨fun h => ?_, ?_⟩
  · obtain ⟨a, bs1, ha, rfl, h1⟩ := (reads_nat 1).bind h
    obtain ⟨x, bs2, hx, rfl, h2⟩ := hrd.bind h1
    cases h2
    exact ⟨a, x, bs2, ha, hx, (List.append_assoc _ _ _).symm, rfl⟩
  · rintro ⟨a, x, rest, ha, hx, rfl, rfl⟩
    rw [List.append_assoc]
    exact ((reads_nat 1).read_bind ha _).trans (hrd.read_bind hx _)

variable {o : Origin}

theorem argsPlay_iff : argsPlay o bs = some i ↔
    ∃ ch v f rest, fits 1 ch = true ∧ fitsInt 2 v = true ∧ fits 1 f = true ∧ bs = be 1 ch ++ beInt 2 v ++ be 1 f ++ rest ∧
      i = .play o ch v f := by
  have hint : Reads (beInt 2) (readInt 2) (fitsInt 2) := reads_int (by decide)
  refine ⟨fun h => ?_, ?_⟩
  · obtain ⟨ch, bs1, hch, rfl, h1⟩ := (reads_nat 1).bind h
    obtain ⟨v, bs2, hv, rfl, h2⟩ := hint.bind h1
    obtain ⟨f, bs3, hf, rfl, h3⟩ := (reads_nat 1).bind h2
    cases h3
    exact ⟨ch, v, f, bs3, hch, hv, hf, by simp only [List.append_assoc], rfl⟩
  · rintro ⟨ch, v, f, rest, hch, hv, hf, rfl, rfl⟩
    simp only [List.append_assoc]
    exact ((reads_nat 1).read_bind hch _).trans ((hint.read_bind hv _).trans ((reads_nat 1).read_bind hf _))

theorem argsEnable_iff : argsEnable o bs = some i ↔
    ∃ st src l k rest, fits 1 st = true ∧ fits 1 src = true ∧ fits 1 l = true ∧ fits 1 k = true ∧
      bs = be 1 st ++ be 1 src ++ be 1 l ++ be 1 k ++ rest ∧ i = .enableStream o st src l k := by
  refine ⟨fun h => ?_, ?_⟩
  · obtain ⟨st, bs1, hst, rfl, h1⟩ := (reads_nat 1).bind h
    obtain ⟨src, bs2, hsrc, rfl, h2⟩ := (reads_nat 1).bind h1
    obtain ⟨l, bs3, hl, rfl, h3⟩ := (reads_nat 1).bind h2
    obtain ⟨k, bs4, hk, rfl, h4⟩ := (reads_nat 1).bind h3
    cases h4
    exact ⟨st, src, l, k, bs4, hst, hsrc, hl, hk, by simp only [List.append_assoc], rfl⟩
  · rintro ⟨st, src, l, k, rest, hst, hsrc, hl, hk, rfl, rfl⟩
    simp only [List.append_assoc]
    exact ((reads_nat 1).read_bind hst _).trans (((reads_nat 1).read_bind hsrc _).trans
      (((reads_nat 1).read_bind hl _).trans ((reads_nat 1).read_bind hk _)))

theorem argsStore_iff : argsStore o bs = some i ↔
    ∃ p rest, (pairWf p.z0 && pairWf p.z1 && pairWf p.z2 && pairWf p.z3 && pairWf p.z4 && pairWf p.z5 && pairWf p.z6 &&
        pairWf p.z7) = true ∧
      bs = pairBytes p.z0 ++ pairBytes p.z1 ++ pairBytes p.z2 ++ pairBytes p.z3 ++ pairBytes p.z4 ++ pairBytes p.z5 ++
        pairBytes p.z6 ++ pairBytes p.z7 ++ rest ∧
      i = .configureStore o p := by
  refine ⟨fun h => ?_, ?_⟩
  · obtain ⟨p0, bs0, hp0, rfl, h0⟩ := reads_pair.bind h
    obtain ⟨p1, bs1, hp1, rfl, h1⟩ := reads_pair.bind h0
    obtain ⟨p2, bs2, hp2, rfl, h2⟩ := reads_pair.bind h1
    obtain ⟨p3, bs3, hp3, rfl, h3⟩ := reads_pair.bind h2
    obtain ⟨p4, bs4, hp4, rfl, h4⟩ := reads_pair.bind h3
    obtain ⟨p5, bs5, hp5, rfl, h5⟩ := reads_pair.bind h4
    obtain ⟨p6, bs6, hp6, rfl, h6⟩ := reads_pair.bind h5
    obtain ⟨p7, bs7, hp7, rfl, h7⟩ := reads_pair.bind h6
    cases h7
    exact ⟨⟨p0, p1, p2, p3, p4, p5, p6, p7⟩, bs7, by rw [hp0, hp1, hp2, hp3, hp4, hp5, hp6, hp7]; rfl,
      by simp only [List.append_assoc], rfl⟩
  · rintro ⟨p, rest, hp, rfl, rfl⟩
    simp only [Bool.and_eq_true] at hp
    obtain ⟨⟨⟨⟨⟨⟨⟨hp0, hp1⟩, hp2⟩, hp3⟩, hp4⟩, hp5⟩, hp6⟩, hp7⟩ := hp
    simp only [List.append_assoc]
    refine (reads_pair.read_bind hp0 _).trans ((reads_pair.read_bind hp1 _).trans ((reads_pair.read_bind hp2 _).trans
      ((reads_pair.read_bind hp3 _).trans ((reads_pair.read_bind hp4 _).trans ((reads_pair.read_bind hp5 _).trans
        ((reads_pair.read_bind hp6 _).trans ?_))))))
    exact reads_pair.read_bind hp7 _

theorem argsGroup_iff : argsGroup o bs = some i ↔
    ∃ g l d pre post r rest, fits 1 g = true ∧ (fits 1 l.length && l.all (fits 1)) = true ∧ fits 2 d = true ∧
      fits 2 pre = true ∧ fits 2 post = true ∧ fits 1 r = true ∧
      bs = be 1 g ++ counted 1 (be 1) l ++ be 2 d ++ be 2 pre ++ be 2 post ++ be 1 r ++ rest ∧
      i = .setMarkGroup o g l d pre post r := by
  refine ⟨fun h => ?_, ?_⟩
  · obtain ⟨g, bs1, hg, rfl, h1⟩ := (reads_nat 1).bind h
    obtain ⟨l, bs2, hl, rfl, h2⟩ := (reads_nat 1).counted.bind h1
    obtain ⟨d, bs3, hd, rfl, h3⟩ := (reads_nat 2).bind h2
    obtain ⟨pre, bs4, hpre, rfl, h4⟩ := (reads_nat 2).bind h3
    obtain ⟨post, bs5, hpost, rfl, h5⟩ := (reads_nat 2).bind h4
    obtain ⟨r, bs6, hr, rfl, h6⟩ := (reads_nat 1).bind h5
    cases h6
    exact ⟨g, l, d, pre, post, r, bs6, hg, hl, hd, hpre, hpost, hr, by simp only [List.append_assoc], rfl⟩
  · rintro ⟨g, l, d, pre, post, r, rest, hg, hl, hd, hpre, hpost, hr, rfl, rfl⟩
    simp only [List.append_assoc]
    exact ((reads_nat 1).read_bind hg _).trans (((reads_nat 1).counted.read_bind hl _).trans
      (((reads_nat 2).read_bind hd _).trans (((reads_nat 2).read_bind hpre _).trans
        (((reads_nat 2).read_bind hpost _).trans ((reads_nat 1).read_bind hr _)))))

theorem argsLabel_iff : argsLabel o bs = some i ↔
    ∃ id l rest, fits 2 id = true ∧ fits 1 l.length = true ∧ bs = be 2 id ++ counted 1 (fun b => [b]) l ++ rest ∧
      i = .setClipLabel o id l := by
  refine ⟨fun h => ?_, ?_⟩
  · obtain ⟨id, bs1, hid, rfl, h1⟩ := (reads_nat 2).bind h
    obtain ⟨l, bs2, hl, rfl, h2⟩ := reads_byte.counted.bind h1
    cases h2
    exact ⟨id, l, bs2, hid, ((Bool.and_eq_true _ _).mp hl).1, (List.append_assoc _ _ _).symm, rfl⟩
  · rintro ⟨id, l, rest, hid, hl, rfl, rfl⟩
    rw [List.append_assoc]
    refine ((reads_nat 2).read_bind hid _).trans (reads_byte.counted.read_bind ?_ _)
    exact (Bool.and_eq_true _ _).mpr ⟨hl, List.all_eq_true.mpr fun _ _ => rfl⟩

theorem argsLine_iff : argsLine o bs = some i ↔
    ∃ n f ch p a g rest, fits 1 n = true ∧ fits 1 f = true ∧ fits 1 ch = true ∧ fits 1 p = true ∧ fits 1 a = true ∧
      fits 1 g = true ∧ bs = be 1 n ++ be 1 f ++ be 1 ch ++ be 1 p ++ be 1 a ++ be 1 g ++ rest ∧
      i = .configureLine o n f ch p a g := by
  refine ⟨fun h => ?_, ?_⟩
  · obtain ⟨n, bs1, hn, rfl, h1⟩ := (reads_nat 1).bind h
    obtain ⟨f, bs2, hf, rfl, h2⟩ := (reads_nat 1).bind h1
    obtain ⟨ch, bs3, hch, rfl, h3⟩ := (reads_nat 1).bind h2
    obtain ⟨p, bs4, hp, rfl, h4⟩ := (reads_nat 1).bind h3
    obtain ⟨a, bs5, ha, rfl, h5⟩ := (reads_nat 1).bind h4
    obtain ⟨g, bs6, hg, rfl, h6⟩ := (reads_nat 1).bind h5
    cases h6
    exact ⟨n, f, ch, p, a, g, bs6, hn, hf, hch, hp, ha, hg, by simp only [List.append_assoc], rfl⟩
  · rintro ⟨n, f, ch, p, a, g, rest, hn, hf, hch, hp, ha, hg, rfl, rfl⟩
    simp only [List.append_assoc]
    exact ((reads_nat 1).read_bind hn _).trans (((reads_nat 1).read_bind hf _).trans (((reads_nat 1).read_bind hch _).trans
      (((reads_nat 1).read_bind hp _).trans (((reads_nat 1).read_bind ha _).trans ((reads_nat 1).read_bind hg _)))))

theorem argsRoute_iff : argsRoute o bs = some i ↔
    ∃ r rest, r.all RouteArg.wf = true ∧ bs = optional routeArgBytes r ++ rest ∧ i = .setNoticeRoute o r := by
  refine ⟨fun h => ?_, ?_⟩
  · obtain ⟨r, rest, hr, hbs, h1⟩ := reads_route.optional.bind h
    cases h1
    exact ⟨r, rest, hr, hbs, rfl⟩
  · rintro ⟨r, rest, hr, rfl, rfl⟩
    exact reads_route.optional.read_bind hr _

end

/-! ## Every request is read back -/

theorem decodeArgs_of_encode {i : Instr} {o : Origin} {kind : Nat} {args : List Byte} (hw : i.wf = true)
    (he : encodeRequest i = some (o, kind, args)) (extra : List Byte) : decodeArgs o kind (args ++ extra) = some i := by
  cases i
  case unknownRequest o' k =>
    simp only [Instr.wf, Bool.and_eq_true, Bool.or_eq_true, beq_iff_eq, decide_eq_true_eq] at hw
    cases he
    obtain rfl | ⟨m, rfl⟩ : kind = 0 ∨ ∃ m, kind = m + 47 := hw.2.imp_right fun h => ⟨kind - 47, by omega⟩
    · rfl
    · rfl
  case clearStaging | readStaging | readLines | readStatus | clearStatus | resetPart => cases he; rfl
  case disableStream | readMarkGroup | dropClip | readClip | protectClip | releaseClip | halt | resetChannel | readChannel
      | clearWarnings | commitCuePage | readCuePage | requestBreak | continue_ | setLines | clearLines | setNoticeEnables =>
    cases he
    exact args1_iff.mpr ⟨_, _, ((Bool.and_eq_true _ _).mp hw).2, rfl, rfl⟩
  case setHouseTime | listClips | stop | angle | pulseLines =>
    cases he
    simp only [Instr.wf, Bool.and_eq_true] at hw
    obtain ⟨⟨-, ha⟩, hb⟩ := hw
    exact args2_iff.mpr ⟨_, _, _, ha, hb, rfl, rfl⟩
  case takeLatch | bindCues =>
    cases he
    simp only [Instr.wf, Bool.and_eq_true] at hw
    obtain ⟨⟨⟨-, ha⟩, hb⟩, hc⟩ := hw
    exact args3_iff.mpr ⟨_, _, _, _, ha, hb, hc, rfl, rfl⟩
  case markIn | markOut | markSpot =>
    cases he
    simp only [Instr.wf, Bool.and_eq_true] at hw
    obtain ⟨⟨-, ha⟩, hx⟩ := hw
    exact (argsWith_iff reads_time).mpr ⟨_, _, _, ha, hx, rfl, rfl⟩
  case configureChannel =>
    cases he
    simp only [Instr.wf, Bool.and_eq_true] at hw
    obtain ⟨⟨-, ha⟩, hx⟩ := hw
    exact (argsWith_iff reads_channelArgs).mpr ⟨_, _, _, ha, hx, rfl, rfl⟩
  case bindChannel =>
    cases he
    simp only [Instr.wf, Bool.and_eq_true] at hw
    obtain ⟨⟨-, ha⟩, hx⟩ := hw
    exact (argsWith_iff reads_binding).mpr ⟨_, _, _, ha, hx, rfl, rfl⟩
  case seek =>
    cases he
    simp only [Instr.wf, Bool.and_eq_true] at hw
    obtain ⟨⟨-, ha⟩, hx⟩ := hw
    exact (argsWith_iff reads_seek).mpr ⟨_, _, _, ha, hx, rfl, rfl⟩
  case shuttle | jog =>
    cases he
    simp only [Instr.wf, Bool.and_eq_true] at hw
    obtain ⟨⟨-, ha⟩, hx⟩ := hw
    exact (argsWith_iff (reads_int (by decide))).mpr ⟨_, _, _, ha, hx, rfl, rfl⟩
  case stageCues =>
    cases he
    simp only [Instr.wf, Bool.and_eq_true] at hw
    obtain ⟨⟨⟨-, ha⟩, hlen⟩, hx⟩ := hw
    exact (argsWith_iff reads_cue.counted).mpr ⟨_, _, _, ha, (Bool.and_eq_true _ _).mpr ⟨hlen, hx⟩, rfl, rfl⟩
  case play =>
    cases he
    simp only [Instr.wf, Bool.and_eq_true] at hw
    obtain ⟨⟨⟨-, hch⟩, hv⟩, hf⟩ := hw
    exact argsPlay_iff.mpr ⟨_, _, _, _, hch, hv, hf, rfl, rfl⟩
  case enableStream =>
    cases he
    simp only [Instr.wf, Bool.and_eq_true] at hw
    obtain ⟨⟨⟨⟨-, hst⟩, hsrc⟩, hl⟩, hk⟩ := hw
    exact argsEnable_iff.mpr ⟨_, _, _, _, _, hst, hsrc, hl, hk, rfl, rfl⟩
  case configureStore o' p =>
    cases he
    refine argsStore_iff.mpr ⟨p, _, ?_, rfl, rfl⟩
    simp only [Instr.wf, Bool.and_assoc, Bool.and_eq_true] at hw ⊢
    exact hw.2
  case setMarkGroup =>
    cases he
    simp only [Instr.wf, Bool.and_eq_true] at hw
    obtain ⟨⟨⟨⟨⟨⟨⟨-, hg⟩, hlen⟩, hl⟩, hd⟩, hpre⟩, hpost⟩, hr⟩ := hw
    exact argsGroup_iff.mpr ⟨_, _, _, _, _, _, _, hg, (Bool.and_eq_true _ _).mpr ⟨hlen, hl⟩, hd, hpre, hpost, hr, rfl, rfl⟩
  case setClipLabel =>
    cases he
    simp only [Instr.wf, Bool.and_eq_true] at hw
    obtain ⟨⟨-, hid⟩, hl⟩ := hw
    exact argsLabel_iff.mpr ⟨_, _, _, hid, hl, rfl, rfl⟩
  case configureLine =>
    cases he
    simp only [Instr.wf, Bool.and_eq_true] at hw
    obtain ⟨⟨⟨⟨⟨⟨-, hn⟩, hf⟩, hch⟩, hp⟩, ha⟩, hg⟩ := hw
    exact argsLine_iff.mpr ⟨_, _, _, _, _, _, _, hn, hf, hch, hp, ha, hg, rfl, rfl⟩
  case setNoticeRoute =>
    cases he
    exact argsRoute_iff.mpr ⟨_, _, ((Bool.and_eq_true _ _).mp hw).2, rfl, rfl⟩
  all_goals cases he

end Sys2Proof
end

section
/-! PROOFS. Packets read back, and the requests the arbiter takes (R179, R181, R184, R185). -/

namespace Sys2Proof.Machine

/-! ## Packets (R179, R181) -/

/-- A field of a packet behind `k` bytes, and what stands behind the field. -/
theorem field_at {bytes post : List Byte} {n k x : Nat} (h : bytes.drop k = be n x ++ post) (hx : x < 256 ^ n) :
    ofBE ((bytes.drop k).take n) = x ∧ bytes.drop (k + n) = post := by
  refine ⟨by rw [h, List.take_left' (be_length n x), ofBE_be hx], ?_⟩
  rw [← List.drop_drop, h, List.drop_left' (be_length n x)]

theorem Packet.body_length (p : Packet) : p.body.length = 13 + p.payload.length := by
  simp only [Packet.body, List.length_append, be_length]

theorem readPacket_bytes {p : Packet} (hkind : p.kind < 256) (hdest : p.destination < 256) (hsource : p.source < 256)
    (hroute : p.route < 256) (hframe : p.frame < 256 ^ 5) (hsub : p.sub < 256) (hband : p.band < 256)
    (hlen : p.payload.length < 65536) : readPacket p.bytes = some p := by
  have hbytes : p.bytes.length = p.body.length + 4 := by rw [Packet.bytes, List.length_append, be_length]
  have hbody : p.bytes.take (p.bytes.length - 4) = p.body := List.take_left' (by rw [hbytes, Nat.add_sub_cancel])
  have hcheck : ofBE (p.bytes.drop (p.bytes.length - 4)) = (crc p.body).toNat := by
    rw [Packet.bytes, List.drop_left' (by rw [← Packet.bytes, hbytes, Nat.add_sub_cancel])]
    exact ofBE_be (crc p.body).isLt
  have hpayload : p.body.drop 13 = p.payload := List.drop_left' (by simp only [List.length_append, be_length])
  have hfields : p.bytes.drop 0 = be 1 p.kind ++ (be 1 p.destination ++ (be 1 p.source ++ (be 1 p.route ++ (be 5 p.frame ++
      (be 1 p.sub ++ (be 1 p.band ++ (be 2 p.payload.length ++ (p.payload ++ be 4 (crc p.body).toNat)))))))) := by
    rw [List.drop_zero, Packet.bytes]
    generalize be 4 (crc p.body).toNat = check
    simp only [Packet.body, List.append_assoc]
  obtain ⟨f0, h1⟩ := field_at hfields hkind
  obtain ⟨f1, h2⟩ := field_at h1 hdest
  obtain ⟨f2, h3⟩ := field_at h2 hsource
  obtain ⟨f3, h4⟩ := field_at h3 hroute
  obtain ⟨f4, h9⟩ := field_at h4 hframe
  obtain ⟨f9, h10⟩ := field_at h9 hsub
  obtain ⟨f10, h11⟩ := field_at h10 hband
  obtain ⟨f11, -⟩ := field_at h11 hlen
  rw [List.drop_zero] at f0
  unfold readPacket
  dsimp only
  simp only [hbody, hcheck, hpayload, f0, f1, f2, f3, f4, f9, f10, f11]
  refine if_pos ⟨?_, trivial, trivial⟩
  rw [hbytes, p.body_length]
  omega

/-! ## Requests (R184, R185) -/

theorem decodeRequest_of_encode {i : Instr} {o : Origin} {kind : Nat} {args : List Byte} (hw : i.wf = true)
    (he : encodeRequest i = some (o, kind, args)) (extra : List Byte) :
    decodeRequest o kind (args ++ extra) = .request i := by
  unfold decodeRequest
  rw [decodeArgs_of_encode hw he]

section
variable {s : State} {l : Fin 2} {r : Request} {rest : List Request}

/-- A request whose payload carries a tag and a kind is served with its arguments (R184). -/
theorem takeOffered_served {tag kind : Nat} {args : List Byte} (hq : (s.port l).control = r :: rest) (htag : tag < 65536)
    (hkind : kind < 256) (hp : r.payload = be 2 tag ++ be 1 kind ++ args) :
    takeOffered l s = serveRequest ⟨l, r.source, tag⟩ kind args (s.onPort l fun p => { p with control := rest }) := by
  have hlen : 3 ≤ r.payload.length := hp ▸ three_le_length_head tag kind args
  have hargs : r.payload.drop 3 = args := by
    rw [hp]
    exact List.drop_left' (by rw [List.length_append, be_length, be_length])
  have hhead : requestHead r.payload s.freeIndex = (tag, kind) := hp ▸ requestHead_of_payload htag hkind args _
  unfold takeOffered
  rw [hq]
  dsimp only
  rw [hhead, hargs, useFree_of_payload hlen, if_neg (Nat.not_lt.mpr hlen)]

theorem canTake_popped (k : Fin 2) : (s.onPort l fun p => { p with control := rest }).canTake k = s.canTake k := by
  unfold State.canTake
  rw [State.port_onPort]
  split
  · rename_i e
    subst e
    rfl
  · rfl

/-- A request of fewer than 3 bytes is refused, with free bytes for those its reply misses (R185, log entry 12). -/
theorem takeOffered_short (htake : s.canTake l = true) (hq : (s.port l).control = r :: rest) (hshort : r.payload.length < 3) :
    takeOffered l s =
      .next (({ s.onPort l (fun p => { p with control := rest }) with freeIndex := s.freeIndex + 3 } : State).refused
        ⟨l, r.source, (requestHead r.payload s.freeIndex).1⟩ (requestHead r.payload s.freeIndex).2 .badArgument) := by
  unfold takeOffered
  rw [hq]
  dsimp only
  rw [if_pos hshort, useFree, if_pos hshort]
  refine takeRequest_refused ?_ rfl
  exact (canTake_popped (rest := rest) l).trans htake

theorem requestHead_eq (payload : List Byte) (free : Nat) :
    requestHead payload free = ((payload.getD 0 (Config.missingByte free)).toNat * 256 +
      (payload.getD 1 (Config.missingByte (free + 1))).toNat, (payload.getD 2 (Config.missingByte (free + 2))).toNat) := by
  unfold requestHead headByte
  simp [ofBE]

end

end Sys2Proof.Machine

namespace Sys2Proof.Proofs
open Sys2Proof.Machine

/-- Settles O4: the argument bytes by `decodeArgs_of_encode`, and the packet field by field. -/
theorem requestsAndPacketsReadBack : Obligations.RequestsAndPacketsReadBack :=
  ⟨fun _ _ _ _ extra hw he => decodeRequest_of_encode hw he extra, fun _ => readPacket_bytes, fun _ => rfl, by decide +kernel⟩

end Sys2Proof.Proofs
end

section
/-! PROOFS. What is read from argument bytes is a request that spells them, and the requests the arbiter takes (R180, R184, R185). -/

namespace Sys2Proof

/-! ## What is read spells its bytes

The kinds in groups by the shape of their arguments. -/

/-- The request is well formed, of the kind, and its argument bytes stand at the front. -/
def Spells (i : Instr) (o : Origin) (kind : Nat) (bs : List Byte) : Prop :=
  i.wf = true ∧ ∃ args extra, encodeRequest i = some (o, kind, args) ∧ bs = args ++ extra

def noArgKinds : List Nat := [30, 31, 41, 44, 45, 46]

def oneArgKinds : List Nat := [3, 6, 11, 13, 15, 16, 25, 26, 27, 28, 32, 33, 35, 36, 38, 39, 42]

def twoArgKinds : List Nat := [1, 12, 20, 24, 40]

def threeArgKinds : List Nat := [14, 34]

def formKinds : List Nat := [7, 8, 9, 17, 18, 21, 22, 23, 29]

def recordKinds : List Nat := [2, 4, 5, 10, 19, 37, 43]

/-- Every kind is of one of the groups, or an unknown one. -/
theorem kind_cases (kind : Nat) : kind ∈ noArgKinds ∨ kind ∈ oneArgKinds ∨ kind ∈ twoArgKinds ∨ kind ∈ threeArgKinds ∨
    kind ∈ formKinds ∨ kind ∈ recordKinds ∨ kind = 0 ∨ ∃ m, kind = m + 47 := by
  obtain hlt | ⟨m, rfl⟩ : kind < 47 ∨ ∃ m, kind = m + 47 := (Nat.lt_or_ge kind 47).imp_right fun h => ⟨kind - 47, by omega⟩
  · have hknown : ∀ k < 47, k ∈ noArgKinds ∨ k ∈ oneArgKinds ∨ k ∈ twoArgKinds ∨ k ∈ threeArgKinds ∨ k ∈ formKinds ∨
        k ∈ recordKinds ∨ k = 0 := by decide
    have hk := hknown kind hlt
    tauto
  · tauto

section
variable {i : Instr} {o : Origin} {kind : Nat} {bs : List Byte} (ho : o.wf = true) (h : decodeArgs o kind bs = some i)
include ho h

theorem spells_of_noArgs (hk : kind ∈ noArgKinds) : Spells i o kind bs := by
  fin_cases hk
  all_goals
    cases h
    exact ⟨ho, [], bs, rfl, rfl⟩

theorem spells_of_oneArg (hk : kind ∈ oneArgKinds) : Spells i o kind bs := by
  fin_cases hk
  all_goals
    obtain ⟨a, rest, ha, rfl, rfl⟩ := args1_iff.mp h
    exact ⟨by rw [Instr.wf, ho, ha]; rfl, _, rest, rfl, rfl⟩

theorem spells_of_twoArgs (hk : kind ∈ twoArgKinds) : Spells i o kind bs := by
  fin_cases hk
  all_goals
    obtain ⟨a, b, rest, ha, hb, rfl, rfl⟩ := args2_iff.mp h
    exact ⟨by rw [Instr.wf, ho, ha, hb]; rfl, _, rest, rfl, rfl⟩

theorem spells_of_threeArgs (hk : kind ∈ threeArgKinds) : Spells i o kind bs := by
  fin_cases hk
  all_goals
    obtain ⟨a, b, c, rest, ha, hb, hc, rfl, rfl⟩ := args3_iff.mp h
    exact ⟨by rw [Instr.wf, ho, ha, hb, hc]; rfl, _, rest, rfl, rfl⟩

theorem spells_of_form (hk : kind ∈ formKinds) : Spells i o kind bs := by
  simp only [formKinds, List.mem_cons, List.not_mem_nil, or_false] at hk
  obtain rfl | rfl | rfl | rfl | rfl | rfl | rfl | rfl | rfl := hk
  iterate 3
    · obtain ⟨a, x, rest, ha, hx, rfl, rfl⟩ := (argsWith_iff reads_time).mp h
      exact ⟨by rw [Instr.wf, ho, ha, hx]; rfl, _, rest, rfl, rfl⟩
  · obtain ⟨a, x, rest, ha, hx, rfl, rfl⟩ := (argsWith_iff reads_channelArgs).mp h
    exact ⟨by rw [Instr.wf, ho, ha, hx]; rfl, _, rest, rfl, rfl⟩
  · obtain ⟨a, x, rest, ha, hx, rfl, rfl⟩ := (argsWith_iff reads_binding).mp h
    exact ⟨by rw [Instr.wf, ho, ha, hx]; rfl, _, rest, rfl, rfl⟩
  iterate 2
    · obtain ⟨a, x, rest, ha, hx, rfl, rfl⟩ := (argsWith_iff (reads_int (by decide))).mp h
      exact ⟨by rw [Instr.wf, ho, ha, hx]; rfl, _, rest, rfl, rfl⟩
  · obtain ⟨a, x, rest, ha, hx, rfl, rfl⟩ := (argsWith_iff reads_seek).mp h
    exact ⟨by rw [Instr.wf, ho, ha, hx]; rfl, _, rest, rfl, rfl⟩
  · obtain ⟨a, x, rest, ha, hx, rfl, rfl⟩ := (argsWith_iff reads_cue.counted).mp h
    obtain ⟨hlen, hall⟩ := (Bool.and_eq_true _ _).mp hx
    exact ⟨by rw [Instr.wf, ho, ha, hlen, hall]; rfl, _, rest, rfl, rfl⟩

theorem spells_of_record (hk : kind ∈ recordKinds) : Spells i o kind bs := by
  simp only [recordKinds, List.mem_cons, List.not_mem_nil, or_false] at hk
  obtain rfl | rfl | rfl | rfl | rfl | rfl | rfl := hk
  · obtain ⟨st, src, l, k, rest, hst, hsrc, hl, hk, rfl, rfl⟩ := argsEnable_iff.mp h
    exact ⟨by rw [Instr.wf, ho, hst, hsrc, hl, hk]; rfl, _, rest, rfl, rfl⟩
  · obtain ⟨p, rest, hp, rfl, rfl⟩ := argsStore_iff.mp h
    refine ⟨?_, _, rest, rfl, rfl⟩
    simp only [Instr.wf, Bool.and_assoc, Bool.and_eq_true] at hp ⊢
    exact ⟨ho, hp⟩
  · obtain ⟨g, l, d, pre, post, r, rest, hg, hl, hd, hpre, hpost, hr, rfl, rfl⟩ := argsGroup_iff.mp h
    obtain ⟨hlen, hall⟩ := (Bool.and_eq_true _ _).mp hl
    exact ⟨by rw [Instr.wf, ho, hg, hlen, hall, hd, hpre, hpost, hr]; rfl, _, rest, rfl, rfl⟩
  · obtain ⟨id, l, rest, hid, hl, rfl, rfl⟩ := argsLabel_iff.mp h
    exact ⟨by rw [Instr.wf, ho, hid, hl]; rfl, _, rest, rfl, rfl⟩
  · obtain ⟨ch, v, f, rest, hch, hv, hf, rfl, rfl⟩ := argsPlay_iff.mp h
    exact ⟨by rw [Instr.wf, ho, hch, hv, hf]; rfl, _, rest, rfl, rfl⟩
  · obtain ⟨n, f, ch, p, a, g, rest, hn, hf, hch, hp, ha, hg, rfl, rfl⟩ := argsLine_iff.mp h
    exact ⟨by rw [Instr.wf, ho, hn, hf, hch, hp, ha, hg]; rfl, _, rest, rfl, rfl⟩
  · obtain ⟨r, rest, hr, rfl, rfl⟩ := argsRoute_iff.mp h
    exact ⟨by rw [Instr.wf, ho, hr]; rfl, _, rest, rfl, rfl⟩

theorem spells_of_decodeArgs (hk : fits 1 kind = true) : Spells i o kind bs := by
  obtain hg | hg | hg | hg | hg | hg | rfl | ⟨m, rfl⟩ := kind_cases kind
  · exact spells_of_noArgs ho h hg
  · exact spells_of_oneArg ho h hg
  · exact spells_of_twoArgs ho h hg
  · exact spells_of_threeArgs ho h hg
  · exact spells_of_form ho h hg
  · exact spells_of_record ho h hg
  · cases h
    exact ⟨by rw [Instr.wf, ho]; rfl, [], bs, rfl, rfl⟩
  · cases h
    have hout : 46 < m + 47 := by omega
    exact ⟨by rw [Instr.wf, ho, hk, decide_eq_true hout, Bool.or_true]; rfl, [], bs, rfl, rfl⟩

end

end Sys2Proof

namespace Sys2Proof.Machine

/-- Argument bytes that do not begin with those of any request of the kind are malformed (R185). -/
theorem decodeRequest_malformed {o : Origin} {kind : Nat} {args : List Byte} (ho : o.wf = true) (hk : fits 1 kind = true)
    (h : ∀ i full extra, i.wf = true → encodeRequest i = some (o, kind, full) → args ≠ full ++ extra) :
    decodeRequest o kind args = .malformed := by
  unfold decodeRequest
  cases hd : decodeArgs o kind args with
  | none => rfl
  | some i =>
    obtain ⟨hw, full, extra, he, hargs⟩ := spells_of_decodeArgs ho hd hk
    exact absurd hargs (h i full extra hw he)

end Sys2Proof.Machine

namespace Sys2Proof.Proofs
open Sys2Proof.Machine

/-- Settles O2: the request by its encoding, the answer by `requestRun_answers`, and the malformed bytes by
`spells_of_decodeArgs`. -/
theorem requestsAnsweredOnce : Obligations.RequestsAnsweredOnce := by
  refine ⟨fun s i o kind args extra rest hw he hq => ?_, fun i s o kind args hw he => ?_, fun s l r rest htake hq => ?_⟩
  · obtain ⟨ho, hkind⟩ := Laws.Fits.all i hw o kind args he
    have htag : o.tag < 65536 := of_decide_eq_true ((Bool.and_eq_true _ _).mp ho).2
    rw [takeOffered_served hq htag hkind (List.append_assoc _ _ _), serveRequest]
    dsimp only
    rw [decodeRequest_of_encode hw he]
  · obtain ⟨run, hrun⟩ := requestRun_of_encode hw he
    rw [exec_request hrun]
    refine ⟨fun hno => if_neg (by rw [hno]; exact Bool.false_ne_true), fun htake => ?_⟩
    have hanswers := requestRun_answers hrun (s.served o)
    refine ⟨_, _, _, takeRequest_answered htake rfl, ?_, fun hok haccepted => hanswers.of_refusal hok haccepted⟩
    exact requestRun_replies hrun (s.served o) o.link
  · intro s1
    refine ⟨fun tag kind args htag hkind hsource hp hno => ?_, fun hshort => ?_⟩
    · have ho : (⟨l, r.source, tag⟩ : Origin).wf = true :=
        (Bool.and_eq_true _ _).mpr ⟨decide_eq_true hsource, decide_eq_true htag⟩
      rw [takeOffered_served hq htag hkind hp, serveRequest, decodeRequest_malformed ho (decide_eq_true hkind) hno]
      exact takeRequest_refused ((canTake_popped l).trans htake) rfl
    · intro byte
      rw [takeOffered_short htake hq hshort, requestHead_eq]
      rfl

end Sys2Proof.Proofs
end
